-- ==== Sys2Proof/Word.lean ====
section
/-! DEFINITION. The word types of the model and their plainest readings (R9, R10, R14). -/

namespace Sys2Proof

/-- A C-space register or Docent general register: 64 bits (R14, R90). -/
abbrev Word := BitVec 64

/-- One vector lane, or one Docent instruction word (R74, R94). -/
abbrev Lane := BitVec 32

/-- One byte. -/
abbrev Byte := BitVec 8

/-- One 64-byte line, byte 0 in bits [7:0] (R10). -/
abbrev Line := BitVec 512

end Sys2Proof
end

