-- ==== Sys2Proof/Syntax.lean ====
section
/-! DEFINITION. The commands of the BX20: one constructor per row of spec/opcode_table.json. -/

namespace Sys2Proof

/-- The thread that issues an instruction: stack, physical tile index (R8), thread number (R90).
`upset` is the tile-local address of a line that a read of the instruction (its fetch included)
finds with a byte-parity error (R106); `none` when every read is good. `stalled`: threads of the tile whose next instruction cannot
issue in this cycle because an operand or a unit is not ready yet (the cycle counts of R91). -/
structure Who where
  c : Nat
  t : Nat
  n : Nat
  upset : Option Nat
  stalled : List Nat
  deriving DecidableEq, Repr

/-- A ZF packet: the header fields of R287, its HCRC, the payload bytes and their CRC-32C.
`zero` gathers the header bits that R287 requires to be zero. `vc` is no part of the packet: the virtual channel it travels on over a
ring lane (R286). -/
structure Pkt where
  dst : Nat
  src : Nat
  epoch : Bool
  last : Bool
  typ : Nat
  len : Nat
  seq : Nat
  xfer : Nat
  count : Nat
  seng : Nat
  cc : Nat
  ccEn : Bool
  addr : Nat
  mask : Nat
  mgrp : Nat
  hops : Nat
  arg : Nat
  zero : Nat
  hcrc : Nat
  payload : List Byte
  pcrc : Nat
  vc : Nat
  deriving DecidableEq, Repr

/-- How a request reaches the device's routers and port dies: over fabric lane z (R276), or from one of
the device's own requesters across the Plinth or the control logic (R317, R319). -/
inductive Via where
  | lane (z : Nat)
  | own
  deriving DecidableEq, Repr

/-- Who makes a C-space access (R16, R343, R480, R484). -/
inductive Agent where
  | curator
  | mgmt (c : Nat)
  | gateway
  | host (node : Nat)
  | device (src seng : Nat)
  | thread (c t n : Nat)
  deriving DecidableEq, Repr

/-- One item of the sensor readings of a sampling group: sensor index (R390), its reading in units of
0.25 °C. -/
structure Reading where
  sensor : Nat
  temp : Int
  deriving DecidableEq, Repr

/-- A sensor group of R390: stack c, quadrant q or port die p. -/
inductive Group where
  | stack (c : Nat)
  | quad (q : Nat)
  | port (p : Nat)
  deriving DecidableEq, Repr

/-- An access to the control domain (R344): load, store, or an operation of the A extension. -/
inductive CdOp where
  | load
  | store (v : Nat)
  | swap (v : Nat)
  | add (v : Nat)
  | xor (v : Nat)
  | and (v : Nat)
  | or (v : Nat)
  | min (v : Nat)
  | max (v : Nat)
  | minu (v : Nat)
  | maxu (v : Nat)
  | lr
  | sc (v : Nat)
  deriving DecidableEq, Repr

/-- What a fitted DIMM's SPD reports (R254, R255): capacity in GB, ranks, whether its DRAMs are x8, die density, dies of a
3DS package (1 if not 3DS), its highest rate in MT/s, whether it is of a kind R254 supports; and its temperature in °C. -/
structure Spd where
  capGB : Nat
  ranks : Nat
  x8 : Bool
  density : Nat
  height3ds : Nat
  rateMax : Nat
  supported : Bool
  temp : Int
  deriving DecidableEq, Repr

/-- A laser cartridge slot as step 3 finds it (R225): interlock closed, latch open, self-check passed, hours of emission. -/
structure LaserIn where
  seated : Bool
  latch : Bool
  ok : Bool
  hours : Nat
  deriving DecidableEq, Repr

/-- The outcome of the physical steps of start-up that the environment decides (R448). The checks and register effects over
them are the model's. `pufOk`: the seed passes its correction check (R468). `straps` and `strapStack`: the 16 samples of each
quadrant tile and compute stack (R31); `linkCodes`: what the links across PE and PS
change in the codes that the neighbours send to a quadrant, as bits that flip (R36). `core0`, `core1`:
the core passes its self-test. `fwOkA`, `fwOkB`: the slot's firmware reports running within 1 s (R466). `quadStep`,
`quadCap`, and by site 0–39 `siteTrained`, `siteStep`, `siteCap`: stepping and capability word (R39), training (R40). By
HBM4 stack: the channels that train, temperature in °C, repairs left per channel, MEM_ID. `dimm`, `dimmTrained`: the slots
(R255). `lasers`: the cartridges LU0–LU7. `ringBad` lists (site, bus, ring, failed identity checks), `lineBad` (bus, line), `crossBad` the crossings that fail
three attempts (R355), `lineCal` the trials of a line's pass (bus, line, histograms), `rxBad` (site, edge) once for every receiver that
fails (R190, R226), `laneSweeps` (stack, lane group, lane, sweep) the lanes whose sweep showed an
error at some step (R355, R426): bit k is set for a step k without error. `lanesUp`: the lanes
that train to a fitting peer; by lane, its peer's number, round trip in ns and ring position (R283). `tickTreeOk`: the check of R301.
`overrun`: the step that does not end within its limit, if any. `readyMs`: READY_MS. `refOk`: REFCLK is valid (R516). -/
structure BootIn where
  pufOk : Bool
  straps : List (List Nat)
  strapStack : List (List Nat)
  linkCodes : List (Nat × Nat)
  core0 : Bool
  core1 : Bool
  fwOkA : Bool
  fwOkB : Bool
  quadStep : List Nat
  quadCap : List Nat
  siteTrained : List Bool
  siteStep : List Nat
  siteCap : List Nat
  hbmTrained : List (List Bool)
  hbmTemp : List Int
  hbmPpr : List (List Nat)
  hbmId : List Nat
  dimm : List (Option Spd)
  dimmTrained : List Bool
  lasers : List LaserIn
  ringBad : List (Nat × Nat × Nat × Nat)
  lineBad : List (Nat × Nat)
  crossBad : List Nat
  laneSweeps : List (Nat × Nat × Nat × Nat)
  lanesUp : List Nat
  peers : List Nat
  delays : List Nat
  tickTreeOk : Bool
  overrun : Option Nat
  readyMs : Nat
  refOk : Bool
  lineCal : List (Nat × Nat × List (List Nat)) := []
  rxBad : List (Nat × Nat) := []
  ringPos : List Nat := []
  deriving DecidableEq, Repr

/-- What a lane's receiver has counted over a second (R280): uncorrectable codewords, and whether the corrected symbol rate exceeds
2 × 10^−4. -/
structure LaneErrs where
  uncorr : Nat := 0
  rate : Bool := true
  deriving DecidableEq, Repr

/-- When a test write registers: in a tick's CD17 cycle (R504), and the bits of its register that hardware updates in the write's own
cycle (R17, R506). -/
structure WriteAt where
  tickCycle : Bool := false
  hw : Word := 0
  deriving DecidableEq, Repr

/-- The commands, in the order of spec/opcode_table.json. A Docent row carries the fields of its
instruction word (R94); `hi` is what the word's FN field holds above the bits that fix the row. An event
row carries what the outside world decides (a reading, a unit, a detected condition). -/
inductive Instr where
  -- start-up, reset, power and reference
  | powerGood (b : BootIn)
  | firmwareTimeout
  | startUpStepTimeout
  | identityKeysReady
  | modRstNAssert (lowNs : Nat)
  | modRstNRelease (b : BootIn)
  | inputLoss
  | powerUp (inputLowMs : Nat)
  | refclkInvalid
  | refclkRestored
  | cartridgeLatchOpen (lu : Nat) (leaves : Bool := false)
  | cartridgeInserted (lu : Nat) (selfCheck : Bool) (onHours : Nat)
  -- scalar instructions
  | add (w : Who) (d a b : Nat)
  | sub (w : Who) (d a b : Nat)
  | and (w : Who) (d a b : Nat)
  | or (w : Who) (d a b : Nat)
  | xor (w : Who) (d a b : Nat)
  | shl (w : Who) (d a b : Nat)
  | shr (w : Who) (d a b : Nat)
  | sra (w : Who) (d a b : Nat)
  | mul (w : Who) (d a b : Nat)
  | slt (w : Who) (d a b : Nat)
  | sltu (w : Who) (d a b : Nat)
  | addi (w : Who) (d a : Nat) (imm : BitVec 16)
  | lui (w : Who) (d a : Nat) (imm : BitVec 16)
  | ld (w : Who) (d a : Nat) (imm : BitVec 16)
  | st (w : Who) (d a : Nat) (imm : BitVec 16)
  | spr (w : Who) (d a : Nat) (imm : BitVec 16)
  | beq (w : Who) (a b : Nat) (off : BitVec 16)
  | bne (w : Who) (a b : Nat) (off : BitVec 16)
  | blt (w : Who) (a b : Nat) (off : BitVec 16)
  | bge (w : Who) (a b : Nat) (off : BitVec 16)
  | jal (w : Who) (off : BitVec 26)
  | jr (w : Who) (d a : Nat) (imm : BitVec 16)
  -- remote access and atomics
  | sld (w : Who) (d a b : Nat) (fn : BitVec 11)
  | sst (w : Who) (d a b : Nat) (fn : BitVec 11)
  | fetchAddInt64 (w : Who) (d a b : Nat) (hi : BitVec 7)
  | fetchAddEwa96 (w : Who) (d a b : Nat) (hi : BitVec 7)
  | swap (w : Who) (d a b : Nat) (hi : BitVec 7)
  | compareSwap (w : Who) (d a b : Nat) (hi : BitVec 7)
  | atomicMin (w : Who) (d a b : Nat) (hi : BitVec 7)
  | atomicMax (w : Who) (d a b : Nat) (hi : BitVec 7)
  | atomicAnd (w : Who) (d a b : Nat) (hi : BitVec 7)
  | atomicOr (w : Who) (d a b : Nat) (hi : BitVec 7)
  | atomicXor (w : Who) (d a b : Nat) (hi : BitVec 7)
  -- stream descriptors placed by SGO
  | send (w : Who) (d a : Nat) (imm : BitVec 16)
  | receive (w : Who) (d a : Nat) (imm : BitVec 16)
  | sendEwa (w : Who) (d a : Nat) (imm : BitVec 16)
  | receiveEwaAdd (w : Who) (d a : Nat) (imm : BitVec 16)
  | lbRead (w : Who) (d a : Nat) (imm : BitVec 16)
  | lbWrite (w : Who) (d a : Nat) (imm : BitVec 16)
  | remoteGet (w : Who) (d a : Nat) (imm : BitVec 16)
  | remotePut (w : Who) (d a : Nat) (imm : BitVec 16)
  -- matrix
  | mma (w : Who) (d a : Nat) (imm : BitVec 16)
  | mcvt (w : Who) (d a : Nat) (imm : BitVec 16)
  | mclr (w : Who) (d a : Nat) (imm : BitVec 16)
  -- vector
  | vld (w : Who) (d a : Nat) (imm : BitVec 16)
  | vst (w : Who) (d a : Nat) (imm : BitVec 16)
  | vopAdd (w : Who) (d a b : Nat) (hi : BitVec 7)
  | vopSub (w : Who) (d a b : Nat) (hi : BitVec 7)
  | vopMul (w : Who) (d a b : Nat) (hi : BitVec 7)
  | vopDiv (w : Who) (d a b : Nat) (hi : BitVec 7)
  | vopSqrt (w : Who) (d a b : Nat) (hi : BitVec 7)
  | vopMin (w : Who) (d a b : Nat) (hi : BitVec 7)
  | vopMax (w : Who) (d a b : Nat) (hi : BitVec 7)
  | cvti (w : Who) (d a b : Nat) (hi : BitVec 7)
  | cvtf (w : Who) (d a b : Nat) (hi : BitVec 7)
  | rbf (w : Who) (d a b : Nat) (hi : BitVec 7)
  | rhf (w : Who) (d a b : Nat) (hi : BitVec 7)
  | hmax (w : Who) (d a b : Nat) (hi : BitVec 7)
  | hmin (w : Who) (d a b : Nat) (hi : BitVec 7)
  | bcast (w : Who) (d a b : Nat) (hi : BitVec 7)
  | vfma (w : Who) (d a b : Nat) (fn : BitVec 11)
  | vsfnExp (w : Who) (d a b : Nat) (hi : BitVec 8)
  | vsfnLog (w : Who) (d a b : Nat) (hi : BitVec 8)
  | vsfnRsqrt (w : Who) (d a b : Nat) (hi : BitVec 8)
  | vsfnTanh (w : Who) (d a b : Nat) (hi : BitVec 8)
  | vsfnSigmoid (w : Who) (d a b : Nat) (hi : BitVec 8)
  | vsfnErf (w : Who) (d a b : Nat) (hi : BitVec 8)
  | vredSum (w : Who) (d a b : Nat) (hi : BitVec 9)
  | vredLanes (w : Who) (d a b : Nat) (hi : BitVec 9)
  | vredCvt (w : Who) (d a b : Nat) (hi : BitVec 9)
  | vredClr (w : Who) (d a b : Nat) (hi : BitVec 9)
  -- synchronisation
  | fence (w : Who) (d a : Nat) (imm : BitVec 16)
  | tcwait (w : Who) (d a : Nat) (imm : BitVec 16)
  | ccwait (w : Who) (d a : Nat) (imm : BitVec 16)
  | tbar (w : Who) (d a : Nat) (imm : BitVec 16)
  | eow (w : Who) (d a : Nat) (imm : BitVec 16)
  -- tile events
  | watchdog (c t n : Nat)
  | releaseSlot (c t : Nat)
  | matrixOpBegin (c t : Nat) (upset : Option Nat)
  | mmaComplete (c t : Nat)
  | mcvtComplete (c t : Nat)
  | counterWrap (c t n : Nat)
  | flitInject (c t slot : Nat) (upset : Option Nat)
  | flitArrive (c t : Nat) (inputs : List Nat)
  | descriptorComplete (c t slot : Nat)
  | streamEngineRequest (c e : Nat)
  | remoteResponse (p : Pkt)
  | tileFailure (c t : Nat)
  | tileAccession (c row : Nat) (carryOk : Bool)
  -- frames and phases
  | tick
  | deadline
  | confirmPoint
  | regulatorWarning
  | phaseBoundary
  | retuneGuardEnd
  -- the Plinth
  | poolGrant
  | cellSend (bus chan : Nat)
  | cellReceive (site bus chan : Nat) (sentBus sentChan : Nat) (errors : List (Nat × Nat)) (headerOk : Bool := true)
    (tickClear : Bool := false)
  | darkChannel (site bus chan : Nat)
  | fetchLineRead (entry : Nat)
  | windowLineApply (site : Nat)
  | calibrationPass (bus line : Nat) (base up down : List Nat)
  | calStale (bus line : Nat)
  | liveUpdate (site bus ring : Nat) (quantity : Nat) (hist : List Nat) (dither : Int)
  | feedForward (c : Nat) (activity : Nat)
  | ringAcquisition (site bus ring line : Nat)
  | identityCheck (site bus ring : Nat) (tones : List Int)
  | ringLockTimeout (site bus ring : Nat)
  | lockLoss (site bus ring : Nat)
  | lineDeaccession (q line : Nat)
  | cartridgeSwitchCondition (q : Nat) (cond : Nat) (value : Nat) (lines : List Nat := [])
  | cartridgeSwitchComplete (q : Nat) (oldFailed : Bool) (healthy : List Nat) (unlocked : List (Nat × Nat × Nat) := [])
  -- memory
  | controllerRead (m h line : Nat) (site id : Nat) (bus : Nat := 0)
  | controllerWrite (m h line : Nat) (data : Line) (parity : Word) (enable : Word) (site : Nat := 0) (bus : Nat := 0)
  | readResponseLeave (m h line : Nat) (err : Nat)
  | unreadableLineReport (m h line : Nat)
  | pageRepair (page : Nat)
  | softRepair (m h row : Nat)
  | hbmCommandTimeout (m h cmd : Nat)
  | hbmTemperatureRead (m : Nat) (temp : Int)
  | migration (m h : Nat)
  | migrationCopyComplete (m : Nat)
  | patrolScrub (errors : List (Nat × Nat × Nat × Nat) := [])
  | ddrHardLoss (dimm : Nat)
  -- lanes
  | laneTraining (z : Nat) (peer role group side index : Nat) (delayNs : Nat) (pos : Nat := 0)
  | trainingAttemptTimeout (z : Nat)
  | laneInterrupted (z : Nat)
  | laneLightReturn (z : Nat)
  | laneDown (z : Nat)
  | laneWake (z : Nat)
  | bypassElementOpen (k : Nat)
  | bypassLaneTimeout (k : Nat)
  -- packets
  | write (v : Via) (p : Pkt)
  | read (v : Via) (p : Pkt)
  | readResp (v : Via) (p : Pkt)
  | atomic (v : Via) (p : Pkt)
  | atomicResp (v : Via) (p : Pkt)
  | ack (v : Via) (p : Pkt)
  | mcastWrite (v : Via) (p : Pkt)
  | reduce (v : Via) (p : Pkt)
  | tickPacket (v : Via) (p : Pkt)
  | hold (v : Via) (p : Pkt)
  | lease (v : Via) (p : Pkt)
  | mbxWrite (v : Via) (p : Pkt)
  | mbxReject (v : Via) (p : Pkt)
  | rtWrite (v : Via) (p : Pkt)
  | rtFlip (v : Via) (p : Pkt)
  | epochGraceEnd
  | telemMap
  | telemSample (z : Nat) (received : Bool) (p : Pkt)
  | scheduledTransferPacket (entry : Nat)
  | linkDelayMeasurement (z roundTripNs : Nat)
  | tickHoldover
  | tickHoldoverTimeout
  -- remote memory
  | requestTimeout (id : Nat)
  | windowEntryRelease (p src seng dst : Nat)
  | drain (p : Nat) (line : Nat)
  | drainApplied (p : Nat) (line : Nat)
  | atomicExecute (p : Nat) (line : Nat)
  | replayRecordRelease (p src seng dst seq : Nat)
  | controlDomainAccess (agent : Option Nat) (off bytes : Nat) (op : CdOp)
  -- clocks
  | crossingAlignment (x : Nat) (sweeps : List (Nat × Nat × Nat)) (verified : Bool)
  | alignmentAttemptTimeout (x : Nat)
  | slip (x : Nat) (buffer : Nat × Bool)
  | stackReset (c : Nat)
  | clockPresent (c : Nat)
  | stackRejoin (c : Nat)
  | stackPllTimeout (c : Nat)
  | droop (c : Nat) (permille : Nat)
  | stretchRelease (c : Nat)
  | frequencyMove (c : Nat)
  | suspensionEnd (c : Nat)
  | frequencyChangeTimeout (c : Nat)
  | clkDomTarget (g : Agent) (d : Nat) (value : Word)
  | clkDomReset (g : Agent) (d : Nat) (value : Word)
  -- power and temperature
  | powerSample (watts : Nat)
  | inputBudget (_ : Unit)
  | powerReport
  | pwrRptWrite (v : Via) (p : Pkt)
  | powerCoordination
  | pwrAssignWrite (v : Via) (p : Pkt)
  | coordinationTimeout (further : Bool)
  | sensorSample (g : Group) (rs : List Reading)
  | fastSamplingEnd (g : Group)
  | divisionEnd (c : Nat)
  | regulatorPhaseFailure (rail : Nat) (derated : Nat)
  | testSlot (c group : Nat) (sweeps : List (Nat × Nat))
  | curatorHeartbeat
  | curatorTakeover
  -- mirror, flash, load
  | beaconDue
  | flashHoldRelease
  | loadTimeout
  -- mailboxes and Curator commands
  | mbxDataWrite (g : Agent) (n : Nat) (value : Word)
  | mbxDataRead (g : Agent) (n : Nat)
  | commandTake (m : Nat)
  | ackAlarm (m : Nat)
  | hostHold (m : Nat)
  | stop (m : Nat)
  | load (m : Nat)
  | loadEnd (m : Nat)
  | unload (m : Nat)
  | start (m : Nat)
  | startAt (m : Nat)
  | abortStart (m : Nat)
  | startTimeout (m : Nat)
  | abortDeadline (m : Nat)
  | jobStart
  | rejoin (m : Nat)
  | xferClaim (m : Nat)
  | xferRelease (m : Nat)
  | xferClaimLapse
  | attest (m : Nat)
  | catErase (m : Nat)
  | catWrite (m : Nat)
  | summary (m : Nat)
  | pmcSet (m : Nat)
  | ringRead (m : Nat)
  | mapRead (m : Nat)
  -- remaining registers and logs
  | frmLenPendWrite (g : Agent) (slot : Nat) (value : Word) (tickCycle : Bool)
  | glbBwCtlWrite (g : Agent) (value : Word)
  | bandwidthWindow
  | ledCurWrite (g : Agent) (r : Nat) (value : Word)
  | recordPost (kind index prio cls cause unit : Nat) (detail : Nat)
  | ledgerToken (kind index prio : Nat)
  | alarmFlashWrite (seq : Nat)
  | tstWrite (g : Agent) (off : Nat) (value : Word) (at_ : WriteAt)
  | i3cRegisterRead (off : Nat)
  | i3cPageProgram (addr : Nat) (data : List Byte)
  | i3cSectorErase (addr : Nat)
  | i3cStatusRead
  | registerWrite (g : Agent) (off bytes : Nat) (value : Word) (hw : Word := 0)
  | commandComplete (m : Nat)
  | laneErrorRateExceeded (z : Nat) (fibre : Bool) (errs : LaneErrs := {})
  | channelTrainingLoss (m : Nat) (h : Option Nat)
  | laneQuiesceNotice (k : Nat) (east : Bool)
  | periodicStretch (c : Nat)
  | rcRead (g : Agent) (off : Nat) (counted : Option Nat)
  deriving DecidableEq, Repr

end Sys2Proof
end

