-- ==== Sys2Proof/Decode.lean ====
section
/-! DEFINITION. Reading a command from a word. spec/opcode_table.json gives no row any bits: its commands are
operations and events of the device, not words, so no word spells one. -/

namespace Sys2Proof

/-- The command that `nbits` bits of value `w` spell by the bits of the table: none, since no row gives
bits. (DESIGN CHOICE, log entry 4) -/
def decodeTableWord (_nbits _w : Nat) : Option Instr := none

end Sys2Proof
end

