-- ==== Sys2Proof/Machine/State.lean ====
section
/-! DEFINITION. The state of one BX20: every register, memory, queue and mode the spec names, as plain
data, and the reset state. C-space registers live in one sparse map keyed by their C-space offset
(R13, R14); everything a register only reports is held once, in the group of its block. -/

namespace Sys2Proof.Machine

/-- A sparse map from keys to values in canonical form: keys strictly rising and no entry equal to what
an unlisted key reads as. Its operations and that form are in Machine/Sparse.lean. -/
abbrev NMap (ν : Type) := List (Nat × ν)

/-- An EWA value (R58): V, the sticky RANGE and INVALID flags. -/
structure Ewa where
  v : BitVec 120 := 0
  range : Bool := false
  invalid : Bool := false
  deriving DecidableEq, Repr

/-- Thread states 0–7 of R92. -/
inductive TState where
  | idle | ready | waitMem | waitCount | waitSync | waitUnit | done | faulted
  deriving DecidableEq, Repr

/-- A resource whose want holds a thread in WAIT_UNIT (R91, R122). -/
inductive UnitRes where
  | queue | slots | tracker | stores | veSlots
  deriving DecidableEq, Repr

/-- What a waiting thread waits for (R91, R92, R95). -/
inductive Wait where
  | nothing
  | tc (i v : Nat)
  | cc (k v : Nat)
  | bar (mask : Nat)
  | fence
  | atom
  | load
  | unit (r : UnitRes)
  deriving DecidableEq, Repr

/-- One Docent thread context (R90). `g` and `x` list the nonzero registers; `x` is keyed 64 × register +
lane. `stores` counts unacknowledged M2 stores (R100), `last` is the address of the instruction it issued, or tried to issue, last (R134). -/
structure Thread where
  st : TState := .idle
  m2 : Bool := false
  pc : Nat := 0
  epc : Nat := 0
  inHandler : Bool := false
  wait : Wait := .nothing
  stores : Nat := 0
  started : Bool := false
  last : Nat := 0
  g : NMap Word := []
  x : NMap Lane := []
  deriving DecidableEq, Repr

/-- Kinds of matrix operation (R107). -/
inductive MatKind where
  | mma | mcvt | mclr
  deriving DecidableEq, Repr

/-- One entry of the matrix queue (R107): the descriptor as copied at issue, whether it has begun, and
for an MMA that has begun the sums it will add (index 32i + j, R110). `order` is its place among the tile's
matrix operations and descriptors (R122). -/
structure MatOp where
  kind : MatKind := .mclr
  w0 : Word := 0
  w1 : Word := 0
  w2 : Word := 0
  w3 : Word := 0
  thread : Nat := 0
  pc : Nat := 0
  order : Nat := 0
  begun : Bool := false
  delta : NMap Ewa := []
  deriving DecidableEq, Repr

/-- One active stream descriptor (R119–R121): its words, its thread, its SGO order, the lines it has
moved, for the REMOTE kinds the granules still outstanding, and the address of its SGO (R134). -/
structure Slot where
  w0 : Word := 0
  w1 : Word := 0
  w2 : Word := 0
  w3 : Word := 0
  thread : Nat := 0
  order : Nat := 0
  moved : Nat := 0
  left : Nat := 0
  pc : Nat := 0
  deriving DecidableEq, Repr

/-- A flit (R112): tag, TYPE (true = EWA), payload, its 64 byte-parity bits, for a control flit the request it
carries or answers (R103), the route set in force when it entered its stage (R113), the outputs it has left through already (R115),
and whether a parity flip of TST_PARITY made its parity bad (R506). -/
structure Flit where
  tag : Nat := 0
  ewa : Bool := false
  data : Line := 0
  parity : Word := 0
  ctl : Option Nat := none
  set : Nat := 0
  gone : Nat := 0
  tst : Bool := false
  deriving DecidableEq, Repr

/-- One compute tile (R83–R124), by physical index. `sram` holds the nonzero bytes at physical SRAM
offsets (R84); `bad` its lines with a byte-parity error; `written` the written bits (R87) by physical
line. `route` is keyed 256 × set + tag (R113); `fifo` by input 0 N, 1 E, 2 S, 3 W, 4 INJECT (R112). `injected` is the SGO order of the
sending descriptor that injected last (R121); `products` are the matrix products not yet counted as 1,024 (R139); `stored` is what the
instruction issued last stored: the cycle, the physical address and the bytes (R89); `badLines` and `lastBadLines` are the lines that failed in this attempt and in the one before
(R106). -/
structure Tile where
  threads : NMap Thread := []
  mregs : NMap Ewa := []
  ve : NMap Ewa := []
  act : NMap Byte := []
  actSc : NMap Byte := []
  actFmt : Option (Nat × Nat × Nat) := none
  queue : List MatOp := []
  engineIdleAt : Nat := 0
  sram : NMap Byte := []
  bad : List Nat := []
  written : List Nat := []
  slots : List Slot := []
  tc : NMap Nat := []
  fifo : NMap (List Flit) := []
  served : NMap Nat := []
  route : NMap Nat := []
  anchors : NMap Int := []
  rcache : List (Nat × Line) := []
  released : Bool := false
  serial : Nat := 0
  lastIssued : Nat := 7
  faulted : Bool := false
  injected : Option Nat := none
  products : Nat := 0
  stored : Option (Nat × Nat × List Byte) := none
  badLines : List Nat := []
  lastBadLines : List Nat := []
  outputsIdle : Bool := false
  deriving DecidableEq, Repr

/-- A line waiting in a send queue (R202): the buffer line and the phase-map entry it serves. -/
structure SendLine where
  entry : Nat := 0
  line : Nat := 0
  deriving DecidableEq, Repr

/-- A test slot under way (R428): its group, what its lanes' sweeps will show, the lanes not yet tested, those under test in this frame. -/
structure TestSlot where
  group : Nat := 0
  sweeps : List (Nat × Nat) := []
  left : List Nat := []
  under : List Nat := []
  deriving DecidableEq, Repr

/-- One compute die outside its tiles: landing buffers (R123; keyed 131072 × edge + line), stream-engine
inputs (R102, R103; the edge tile a flit left through, and the flit), lanes lost per vertical lane group and groups out of service
(R37, R426–R429), by lane (68 × group + lane) the sampling delay set from its sweep, 16 of 32 steps where none was (R355, R426), and the
lanes taken out of service, the test rotation (R428), cycle accumulators in units of 1/960,000 cycle (R136, R350, R370), the stretch in force (0
none, 1 of 1.25, 2 of 1.5) and what is left of a test stretch (R360, R506), the frequency change under way and whether TARGET
was written since the tick (R362), the skip count of the power manager (R377), the temperature predicted for the rings' heaters (R217), the landing-buffer
accesses of a cycle: the cycle, edge, bank, line, and whether a receiver wrote it, and the receiver writes that came in the cycle of a
tick's clear (R124), whether the retimers of the neighbour links' inputs are aligned and the tiles whose own an accession aligned since (R353), the entries in the
rate adapters by lane group (R354), the STEP whose voltage the regulator is set to and the nanoseconds until it follows a downward move
(R362), the oscillator's cycles that skipping has removed (R361), the idle lanes of each vertical lane group, lanes 64 to 67 where none is
listed, the failed lanes that a spare replaces at the next tick, by group, and the test slot under way (R37, R423, R428). -/
structure Die where
  lb : NMap Line := []
  lbParity : NMap Word := []
  lbWritten : List Nat := []
  engineIn : NMap (List (Nat × Flit)) := []
  sendQ : NMap (List SendLine) := []
  sent : List (Nat × Nat) := []
  lost : NMap Nat := []
  groupsOut : List Nat := []
  laneDelay : NMap Nat := []
  lanesOut : List Nat := []
  testNext : Nat := 0
  cycAcc : Nat := 0
  stretchAcc : Nat := 0
  skipped : Nat := 0
  stretch : Nat := 0
  testLeft : Nat := 0
  suspended : Bool := false
  changeTo : Option Nat := none
  newTarget : Bool := false
  kPower : Nat := 0
  heater : Option Int := none
  isolated : Bool := false
  lbUse : List (Nat × Nat × Nat × Bool) := []
  lbCycle : Nat := 0
  lbLate : Nat := 0
  retimed : Bool := false
  jogsRetimed : List Nat := []
  adapter : NMap Nat := []
  volt : Nat := 30
  lowerIn : Nat := 0
  idleLanes : NMap (List Nat) := []
  lanesDue : List Nat := []
  slot : Option TestSlot := none
  deriving DecidableEq, Repr

/-- What a remote request is (R99–R101, R120, R317). -/
inductive ReqKind where
  | sld | sst | m2ld | m2st | atomic | get | put | reg | hostReq | sched
  deriving DecidableEq, Repr

/-- Where a request stands: in the tile's tracker, on the mesh, at its stream engine, withheld under R164, sent, answered with
the response still at the engine, or with the response on the mesh (R103), or abandoned (R324). -/
inductive Stage where
  | tracker | mesh | engine | withheld | sent | answered | returning | abandoned
  deriving DecidableEq, Repr

/-- One request that a requester of this device has outstanding (R317–R324). `n` is the issuing thread,
8 for a descriptor (`slot` is then its SGO order). Requests of no tile have `c` = 16: for a Curator's own, `op` says what it
serves; for a proxied host request (R305) `d`, `loc` and `op` hold the host's node, SEQ and SENG, `t` the DST it named, `slot`
the lane it came on; for a scheduled transfer (R300) `slot` is its entry. `pc` is the address of a thread's instruction (R134). `edge` is the edge tile through which a tile's request left the
mesh, `status` and `answer` the response that goes back to it (R103). `patches` are what the tile's own SSTs have stored since a load was issued
(R342). -/
structure Req where
  id : Nat := 0
  kind : ReqKind := .sld
  c : Nat := 0
  t : Nat := 0
  n : Nat := 0
  pc : Nat := 0
  slot : Nat := 0
  stage : Stage := .tracker
  gaddr : Nat := 0
  len : Nat := 0
  loc : Nat := 0
  d : Nat := 0
  op : Nat := 0
  retries : Nat := 0
  edge : Nat := 0
  status : Nat := 0
  answer : List Byte := []
  patches : List (Nat × List Byte) := []
  pkt : Pkt := ⟨0, 0, false, false, 0, 0, 0, 0, 1, 0, 0, false, 0, 0, 0, 0, 0, 0, 0, [], 0, 0⟩
  deriving DecidableEq, Repr

/-- One entry of a sequence window (R325): the key, M, the accepted values among M − 511 to M, and those whose effect never comes (R261,
R265). -/
structure WinEntry where
  src : Nat := 0
  seng : Nat := 0
  dst : Nat := 0
  m : Nat := 0
  seen : List Nat := []
  refused : List Nat := []
  deriving DecidableEq, Repr

/-- One replay record (R338). -/
structure Replay where
  src : Nat := 0
  seng : Nat := 0
  dst : Nat := 0
  seq : Nat := 0
  prior : List Byte := []
  deriving DecidableEq, Repr

/-- A store or atomic that waits on a combiner entry for the drain that releases its response and count
(R334, R337). -/
structure Waiter where
  pkt : Pkt
  via : Via
  prior : List Byte := []
  inDrain : Bool := false
  deriving DecidableEq, Repr

/-- One line-combiner entry (R333): its line (64-byte line key of the home memory), data, byte enables, whether
it holds the whole line (R337), the drain in flight with its data and enables, whether its bytes have reached the controller and the counter
of the ASSIGN that brought them there (R201, R204), the stores and atomics that wait their turn behind an atomic not yet executed, whether
the line has been asked for and has come (R337), and the requests whose responses it owes. -/
structure Comb where
  line : Nat := 0
  data : Line := 0
  enable : Word := 0
  whole : Bool := false
  draining : Bool := false
  drainEn : Word := 0
  drainData : Line := 0
  atCtl : Bool := false
  cc : Option Nat := none
  asked : Bool := false
  come : Bool := false
  ops : List (Pkt × Via) := []
  waiters : List Waiter := []
  deriving DecidableEq, Repr

/-- A request that waits at a port die: how it came, and the counters that have counted it: 0 PRT_RM_SEQ.FULL, 1 PRT_RM_COMB.FULL,
2 PRT_RM_ATOM.FULL, 3 PRT_RM_SEQ.DUPLICATE (R327, R335, R338). -/
structure Waiting where
  pkt : Pkt
  via : Via
  seen : List Nat := []
  deriving DecidableEq, Repr

/-- One port die (R276–R316, R325–R349): sequence windows, replay records, line combiner, the requests that wait
at its input for room (R327, R335, R338), those held for the confirm point or a page repair (R164, R263), duplicates that wait for their
original's effect (R325), and its spare transceiver: spent, to be switched onto a pair at the next frame boundary, serving a pair (R280). -/
structure Port where
  windows : List WinEntry := []
  replays : List Replay := []
  combs : List Comb := []
  input : List Waiting := []
  held : List Waiting := []
  dups : List Waiting := []
  spareUsed : Bool := false
  spareAt : Option Nat := none
  spareOn : Option Nat := none
  ddrLimited : Bool := false
  deriving DecidableEq, Repr

/-- One routing-table entry (R293): eligible lanes, VALID, LOCAL. -/
structure Route where
  lanes : Word := 0
  valid : Bool := false
  isLocal : Bool := false
  deriving DecidableEq, Repr

/-- A Ledger record (R497). -/
structure Record where
  time : Nat := 0
  tick : Nat := 0
  frame : Nat := 0
  seq : Nat := 0
  prio : Nat := 0
  cls : Nat := 0
  srcKind : Nat := 0
  srcIndex : Nat := 0
  cause : Nat := 0
  unit : Nat := 0
  repeats : Nat := 0
  suppressed : Nat := 0
  detail : Nat := 0
  deriving DecidableEq, Repr

/-- An ALARM in the ALARM table (R500). -/
structure AlarmRec where
  seq : Nat := 0
  cause : Nat := 0
  unit : Nat := 0
  repeats : Nat := 0
  acked : Bool := false
  inFlash : Bool := false
  overflow : Bool := false
  deriving DecidableEq, Repr

/-- The Ledger (R496–R502): the records held, ALARM table, the flash ALARM log, buckets keyed
(SRC_KIND × 65536 + SRC_INDEX) × 4 + PRIO as tokens spent, coalescing entries and suppressed counts by
source, totals per priority. `rate` and `burst` are the buckets' settings of FAULT, EVENT and TRACE (R501), `tokenAt` by bucket the time
from which its next token is due. The flash summary keeps `flashLog`, the totals of the start-ups before (`pastTotals`) and the spares
accessioned since manufacture by kind (`wearEver`, R425, R500). -/
structure Ledger where
  recs : List Record := []
  nextSeq : Nat := 0
  queues : NMap Nat := []
  alarms : List AlarmRec := []
  flashLog : List AlarmRec := []
  spent : NMap Nat := []
  open_ : NMap Record := []
  suppressed : NMap Nat := []
  totals : NMap Nat := []
  burst : List Nat := [64, 32, 256]
  rate : List Nat := [1000, 100, 10000]
  tokenAt : NMap Nat := []
  pastTotals : List (NMap Nat) := []
  wearEver : NMap Nat := []
  traceOff : Bool := false
  deriving DecidableEq, Repr

/-- A hold or stop registered for a target tick (R169, R173, R303). -/
structure HoldRec where
  target : Nat := 0
  reason : Nat := 0
  late : Bool := false
  stop : Bool := false
  raiser : Nat := 0
  deriving DecidableEq, Repr

/-- A phase-table entry (R153). -/
structure PhaseEnt where
  startUs : Nat := 0
  retune : Bool := false
  ramp : Bool := false
  deriving DecidableEq, Repr

/-- A phase-map entry (R200); `dsts` lists DST0 to DST(NDST). -/
structure MapEnt where
  typ : Nat := 0
  bus : Nat := 0
  chan : Nat := 0
  chans : Nat := 0
  dsts : List Nat := []
  srcLine : Nat := 0
  dstLine : Nat := 0
  edge : Nat := 0
  lines : Nat := 0
  cc : Nat := 0
  ccEn : Bool := false
  gaddr : Nat := 0
  deriving DecidableEq, Repr

/-- A region declaration (R154). -/
structure Region where
  kind : Nat := 0
  flags : Nat := 0
  slots : Nat := 0
  firstSlot : Nat := 0
  base : Nat := 0
  len : Nat := 0
  deriving DecidableEq, Repr

/-- A scheduled transfer (R299). -/
structure Sched where
  phase : Nat := 0
  mapEntry : Nat := 0
  port : Nat := 0
  typ : Nat := 0
  mgrp : Nat := 0
  dst : Nat := 0
  mask : Nat := 0
  xfer : Nat := 0
  daddr : Nat := 0
  cc : Nat := 0
  ccEn : Bool := false
  lines : Nat := 0
  deriving DecidableEq, Repr

/-- An ownership entry (R340). -/
structure Owner where
  base : Nat := 0
  units : Nat := 0
  owner : Nat := 0
  programs : Nat := 0
  deriving DecidableEq, Repr

/-- The admitted job image as the device keeps it (R146–R154, R199, R299, R340). `start` is the thread
start table keyed ((program × 16 + stack) × 256 + 16y + x) × 8 + thread. -/
structure Job where
  jobId : Nat := 0
  device : Nat := 0
  devices : Nat := 0
  capReq : Nat := 0
  stackSet : Nat := 0
  periodUs : Nat := 0
  phases : Nat := 0
  programs : Nat := 0
  clkMhz : Nat := 0
  holdLimit : Nat := 0
  firstOutNs : Nat := 0
  ccUsed : Nat := 0
  policy : Nat := 0
  powerOrder : Nat := 0x24
  powerCoord : Nat := 0xFFFF
  mirrorPartner : Nat := 0xFFFF
  wdog : Nat := 0
  iBytes : Nat := 0
  dBytes : Nat := 0
  pUnits : List Nat := []
  lanes : List Nat := []
  appendSlots : Nat := 0
  keyId : Nat := 0
  digest : BitVec 384 := 0
  mirrorDigest : BitVec 384 := 0
  phaseTable : List PhaseEnt := []
  maps : List (List MapEnt) := []
  sched : List Sched := []
  regions : List Region := []
  owners : List Owner := []
  start : NMap Nat := []
  deriving DecidableEq, Repr

/-- What a provisional commit saves for its rescission (R163, R171): the committed lengths before it, keyed by their
C-space offsets, and the slots whose poison bits it cleared. -/
structure Saved where
  lens : NMap Word := []
  poison : List Nat := []
  deriving DecidableEq, Repr

/-- An item of the frame digest (R442): a line's bytes written in the frame, and which they are. -/
structure Item where
  data : Line := 0
  mask : Word := 0
  deriving DecidableEq, Repr

/-- A record of the frame journal (R443): the frame's committed lengths, the lines its program wrote to APPEND regions and
BANKED write banks, keyed as digest items, and to carry-out windows, keyed 4,096 × tile + line. -/
structure JRec where
  frame : Nat := 0
  lens : NMap Word := []
  lines : NMap Item := []
  carry : List (Nat × Line) := []
  deriving DecidableEq, Repr

/-- What leaves the device or is reported to an agent of it. Newest last. To a
resynchronising partner go parts of the APPEND slots (slot, committed length) and journal records (R443). -/
inductive Out where
  | packet (z : Nat) (p : Pkt)
  | request (p : Pkt)
  | tree (p : Pkt)
  | toGateway (p : Pkt)
  | quiesce (k : Nat)
  | response (g : Agent) (ok : Bool) (value : Word)
  | doorbell (g : Agent) (n : Nat)
  | line (site id : Nat) (data : Line) (parity : Word)
  | i3c (bytes : List Byte)
  | inBand
  | uart (code : Nat)
  | appendCopy (slots : List (Nat × Nat)) (fromMib toMib : Nat)
  | journal (r : JRec)
  | cdValue (agent : Option Nat) (ok : Bool) (v : Nat)
  deriving DecidableEq, Repr

/-- The frame machinery (R142–R178, R435–R443). `journal` is a lease holder's frame journal, oldest record first; `joined` is
set from the tick at which a partner joins until that tick's confirm point (R443). `lateEow`: work has ended after a missed deadline
(R182). `replay`: the coming tick is treated as held (R171).
`swapped`: an odd number of commits has toggled BANK in every tile (R86, R163). `rateAcc` is the part of the rate correction not yet
a whole nanosecond, in 10⁻⁹ ns (R302, R366). `withdrawDue` is a cause of withdrawal that waits for an active Curator core (R434).
`beaconSynced`: the holder's last beacon shows it in lockstep, without RELEASE (R441). `beaconDigest`: the digest of a beacon that came
before this device's own confirm point (R442). -/
structure Frames where
  job : Option Job := none
  tick : Nat := 0
  tickAt : Nat := 0
  past : Bool := false
  holds : List HoldRec := []
  forwarded : List HoldRec := []
  eowMet : Bool := false
  missed : Bool := false
  lateEow : Bool := false
  fault : Bool := false
  settle : Bool := false
  provisional : Bool := false
  saved : Saved := {}
  idle : Bool := false
  work : List Nat := []
  held : Bool := false
  firstPend : List Nat := []
  withdraw : Nat := 0
  startAt : Option Nat := none
  jobTime : Nat := 0
  lateWrites : Nat := 0
  lossPending : List Nat := []
  startDevices : List (Nat × Nat) := []
  startMbx : Option Nat := none
  startS : Nat := 0
  abortLeft : List Nat := []
  beaconHolder : Bool := false
  beaconEcho : Bool := false
  beaconRelease : Bool := false
  beaconTick : Nat := 0
  items : NMap Item := []
  sealedItems : NMap Item := []
  heldBeacon : Bool := false
  rejoin : Bool := false
  journal : List JRec := []
  joined : Bool := false
  replay : Bool := false
  swapped : Bool := false
  rateAcc : Int := 0
  withdrawDue : Nat := 0
  beaconSynced : Bool := false
  beaconDigest : Option Nat := none
  deriving DecidableEq, Repr

/-- One drop ring (R191, R219): state 0 FREE, 1 LOCKED, 2 ACQUIRING, 3 DEACCESSIONED; its line; the
failed identity checks of the present acquisition. -/
structure Ring where
  state : Nat := 0
  line : Nat := 0
  fails : Nat := 0
  deriving DecidableEq, Repr

/-- Traffic that asks for a channel of the Plinth (R201, R208): a tile's request, with its number among the requests; a response to a
requester of this device; a READ that a port die passes to a controller, and a response that leaves the device through a port die; a
drain of a port die, and whether it lands a scheduled transfer; an atomic's read of a line, and that line. -/
inductive Dyn where
  | request (id : Nat) (p : Pkt)
  | response (p : Pkt)
  | onward (p : Pkt)
  | homeward (v : Via) (p : Pkt)
  | drain (port line : Nat) (staged : Bool)
  | fetch (port line : Nat)
  | fetched (port line : Nat)
  deriving DecidableEq, Repr

/-- A cell on its way over a λ-channel (R196): the phase and entry it serves, the number of its line in the
entry, its data and parity, its destination site; or the dynamic traffic it carries. `started`: it was started before its channel was moved by a phase boundary (R206). -/
structure Cell where
  phase : Nat := 0
  entry : Nat := 0
  index : Nat := 0
  data : Line := 0
  parity : Word := 0
  dst : Nat := 0
  dyn : Option Dyn := none
  started : Bool := false
  deriving DecidableEq, Repr

/-- Digital corrections of one receiver (R215): offset, gain in hundredths, threshold, eye figure in
hundredths. -/
structure Correction where
  offset : Int := 0
  gain : Int := 100
  threshold : Int := 16
  eye : Nat := 0
  deriving DecidableEq, Repr

/-- The Plinth (R188–R237). Lines are keyed 64 × bus + line, channels 64 × bus + index, rings and their
receivers (224 × site + bus) × 8 + r. `lineOf` lists, plus one, the line of each channel that is not on the line of
its index; `calLine` likewise each bus whose calibration line is not line 60. Rings unlisted are locked to line r
once their quadrant is ready, free before (R225). `grants` hold a unit (R208) plus one. `demand` is keyed 88 × site +
unit. `ringWait` lists the rings lost whose replacement comes at the next phase boundary, `unproven` the lines that return to
standby at their next calibration pass (R221), `aligns` the failed alignment attempts of each crossing (R355). `passBase` is when the
lines that `passAt` does not list passed (R225). `lock` are the calibrated lock points of rings (key 64 × ring + line), in units of
0.01 GHz from the preset of the ring's band (R215). `rxOut` counts receivers out of service, keyed 4 × site + edge (R190). For a
receiver, keyed 16,384 × site + channel: `sync` the blocks it must still see before it has found the block boundaries (R195), `wrongRun`
the latest blocks in a row without its channel's identity (R220). `rot` is the channel, plus one, that carried each entry's last cell
(R201), `got` the lines each entry of this phase has delivered: entry, line, site (R205). `waiting` is the dynamic traffic that waits
at a site for a grant, keyed 88 × site + unit (R210), `unstored`: a window line for memory was lost or refused in this attempt (R204, R265), `low` the comb lines below their floor, keyed 64 × cartridge + line (R230), `liveAt` when each ring and receiver was last corrected from its live signal, plus 1 (R215), `selected` the quadrants whose selector has moved for a switch under way (R224), `elastic` the entries in the elastic buffers that have
slipped, plus 1, keyed 65,536 × crossing + 2 × lane group + direction (R354, R356), `slipAt` when each crossing slipped, `xDelay` and `xLanesOut` the sampling
delays and the failed lanes of the attachments of port dies and of the bridges, keyed 65,536 × crossing + 68 × group + lane (R355). -/
structure Plinth where
  deadLines : List Nat := []
  lineOf : NMap Nat := []
  calLine : NMap Nat := []
  passed : List Nat := []
  passAt : NMap Nat := []
  unproven : List Nat := []
  stale : List Nat := []
  bias : NMap Int := []
  eye : NMap Nat := []
  corr : NMap Correction := []
  rings : NMap (Option Ring) := []
  ringWait : List Nat := []
  grants : NMap Nat := []
  nextGrants : NMap Nat := []
  demand : NMap Nat := []
  dark : List Nat := []
  moved : List Nat := []
  guard : Bool := false
  flight : NMap (List Cell) := []
  fetched : NMap Nat := []
  heldLines : List Cell := []
  toPort : NMap (List (Nat × Line)) := []
  aligns : NMap Nat := []
  passBase : Nat := 0
  lock : NMap Int := []
  rxOut : NMap Nat := []
  sync : NMap Nat := []
  wrongRun : NMap Nat := []
  rot : NMap Nat := []
  got : List (Nat × Nat × Nat) := []
  waiting : NMap (List Dyn) := []
  unstored : Bool := false
  low : List Nat := []
  liveAt : NMap Nat := []
  selected : List Nat := []
  elastic : NMap Nat := []
  slipAt : NMap (List Nat) := []
  xDelay : NMap Nat := []
  xLanesOut : List Nat := []
  deriving DecidableEq, Repr

/-- What an access queued at a controller stands for, other than a CONTROLLER_READ or CONTROLLER_WRITE (R246): the drain or the atomic's
read of its line by a port die, a window line of a memory site, a READ that waits for tokens, by its key and SEQ. -/
inductive Mark where
  | drain (p : Nat)
  | atomic (p : Nat)
  | window (site : Nat)
  | read (src seng dst seq : Nat)
  deriving DecidableEq, Repr

/-- An access that waits at an HBM4 controller (R246, R247): its channel line, its site, local bus and number, when it arrived, the reads
joined to it with their arrival, whether a write to its line has arrived since, for a write its data and byte enables, for a read whose
array access is done its line and parity, and what it stands for. -/
structure CtlReq where
  line : Nat := 0
  site : Nat := 0
  bus : Nat := 0
  id : Nat := 0
  came : Nat := 0
  joined : List (Nat × Nat × Nat) := []
  shut : Bool := false
  write : Option (Line × Word) := none
  got : Option (Line × Word) := none
  mark : Option Mark := none
  deriving DecidableEq, Repr

/-- HBM4 and DDR5 (R238–R275). `bytes` holds the nonzero bytes: HBM4 channel (m, h) address a at key
(32m + h) × 2^31 + a, DIMM k address a at key 2^42 + k × 2^38 + a. `bad` lists lines (key ÷ 64) uncorrectable in storage,
`flipped` those that a parity flip hit, until their report (R506),
`heldPages` the weight pages (global address ÷ 4096) whose reads wait, `failing` the lines whose later reads wait (R263). Rows are keyed 2^21 × (32m + h) + row:
`rowCorr` their corrected errors, `rowsBad` those with an uncorrectable error, `rowsDue` those to be soft-repaired, `softRows`
those repaired, to be hard-repaired at the next start-up. `corrAt` and `lateAt` hold the times that R251 counts, by
channel; `reissued` the commands issued twice. `migrating` names, by old channel, the spare plus one; `switching` the old
channels whose new table half is written, `switched` those for which the halves have been switched since. `rates` are the token-bucket rates of stacks that the power cap holds, in bytes per µs,
`spent` the tokens used of each bucket (R380). `cc` are the completion counters (R331). -/
structure Memory where
  bytes : NMap Byte := []
  bad : List Nat := []
  flipped : List Nat := []
  waiting : NMap (List CtlReq) := []
  heldPages : List Nat := []
  failing : List Nat := []
  pageFails : NMap Nat := []
  rowCorr : NMap Nat := []
  rowsBad : List Nat := []
  rowsDue : List Nat := []
  softRows : List Nat := []
  corrAt : NMap (List Nat) := []
  lateAt : NMap (List Nat) := []
  reissued : List Nat := []
  migrating : NMap Nat := []
  switching : List Nat := []
  switched : List Nat := []
  lostChans : List Nat := []
  ddrLost : Bool := false
  rates : NMap Nat := []
  spent : NMap Nat := []
  scrubs : Nat := 0
  cc : NMap Nat := []
  deriving DecidableEq, Repr

/-- The fabric side of the device (R276–R316): routing tables keyed 1,024 × version + device, bytes queued by
lane, the bytes left of the packet that a lane sends, the packets behind it with their virtual channels, the virtual channels (key 4 × lane
+ VC) for which the far end grants no credit now (R286), the peers' ring positions plus 1 (R278), packets that wait for a lane, telemetry bins keyed 8 × lane + bin, packets counted keyed 2 × lane + direction (1
received), sampled records, until when the telemetry rate is used (R307), failed training attempts, lanes at full level
(R523), miswired lanes whose light has been lost since (R278), ring lanes whose opening neighbour quiesced them, bypass elements open, round trips, the flip ordered and the last
one, packets of each scheduled transfer sent, SEQ counters, the offset still to be slewed (ns) and the last TICK's number
(R302). -/
structure Fabric where
  tables : NMap Route := []
  laneQ : NMap Nat := []
  sending : NMap Nat := []
  txq : NMap (List Pkt) := []
  blocked : List Nat := []
  peerPos : NMap Nat := []
  held : List Pkt := []
  bins : NMap Nat := []
  counted : NMap Nat := []
  records : List (List Byte) := []
  telemUntil : Nat := 0
  attempts : NMap Nat := []
  fullLevel : List Nat := []
  lightLost : List Nat := []
  quiesced : List (Nat × Bool) := []
  bypassOpen : List Nat := []
  roundTrip : NMap Nat := []
  flipAt : Option (Nat × Nat) := none
  lastFlip : Option Nat := none
  schedSent : NMap Nat := []
  seqs : NMap Nat := []
  offset : Int := 0
  lastTick : Option Nat := none
  hoSince : Nat := 0
  deriving DecidableEq, Repr

/-- The Catalogue values that the Curator holds without a register (R460). -/
structure Catalogue where
  coordEligible : Bool := false
  journalGib : Nat := 0
  fmNode : Nat := 0
  hosts : Nat := 0
  upLanes : Nat := 0
  volt : List Nat := []
  policy : Nat := 0
  deriving DecidableEq, Repr

/-- A flash operation of the Curator until its command completes (R450): its place, the size of its pages, and the flash as it was before. -/
structure FlashJob where
  addr : Nat
  len : Nat
  page : Nat
  before : NMap Byte
  deriving DecidableEq, Repr

/-- Start-up, flash, Catalogue and identity (R448–R477, R509–R515). `flash` lists the bytes that differ from 0xFF, what an
erased one reads as; `holder` is who holds it (R454; true the Curator, false I3C); `i3cRefused` the outcome of the last I3C
operation (R517). `input` is the start-up under way or done. `cause` and `shutdown` are the standby controller's: the reset cause
it registered, and the sensor and reading of a thermal shutdown, which latches; `tripped` holds them once the latch has cleared, until the next
start-up reports them. `floorSeen` and `bootCount` are the annex's,
`starts` and `takeovers` count from power-up; `writing` is the Curator's flash operation in progress (R450); `attestWaiting` are mailboxes whose ATTEST waits for the identity keys (R469). -/
structure Boot where
  flash : NMap Byte := []
  writing : Option FlashJob := none
  holder : Option Bool := none
  i3cRefused : Bool := false
  input : Option BootIn := none
  pwrgd : Bool := false
  resetLow : Bool := false
  cause : Option Nat := none
  lastCause : Nat := 0
  shutdown : Option (Nat × Int) := none
  tripped : Option (Nat × Int) := none
  lasersOn : Bool := false
  identOk : Bool := false
  floorSeen : Nat := 0
  starts : Nat := 0
  bootCount : Nat := 0
  takeovers : Nat := 0
  attestWaiting : List Nat := []
  carts : List (Nat × LaserIn) := []
  cat : Catalogue := {}
  deriving DecidableEq, Repr

/-- The power manager and monitor (R372–R389, R424). Watts throughout. `last10` are the latest 10 µs samples, `block` those
of the present millisecond, `avg1ms` the sums of the 100 samples of the latest milliseconds, oldest first. `dyn` are the
stacks' dynamic demands of the last control period in mW. `measured` counts 10 µJ, `modelled` 100 µJ. For a coordinator,
`reports` keeps the times and slacks reported by each ring position, `raises` the raises that wait for their giver's report
(receiver, giver, the giver's lowered limit). `sumMs` and `sumTick` are the energy accounts as they stood at the end of the last control
period and at the last tick, which was at `sumTickAt` (R385). -/
structure Power where
  last10 : List Nat := []
  block : List Nat := []
  avg1ms : List Nat := []
  excursion : Nat := 0
  brake : Bool := false
  floor : Bool := false
  assigned : Option Nat := none
  toSustained : Bool := false
  lowered : Bool := false
  derate : Option Nat := none
  phaseLoss : NMap Nat := []
  raisedUntil : Nat := 0
  dyn : List Nat := []
  dimStage : Nat := 0
  measured : Nat := 0
  modelled : Nat := 0
  slackMin : Nat := 0xFFFF
  throttled : Bool := false
  rptSeq : Nat := 0
  reports : NMap (List (Nat × Nat)) := []
  raises : List (Nat × Nat × Nat) := []
  asgSeq : Nat := 0
  sumMs : NMap Nat := []
  sumTick : NMap Nat := []
  sumTickAt : Nat := 0
  deriving DecidableEq, Repr

/-- One temperature sensor (R390–R400): last valid reading and governing value in units of 0.25 °C, when that reading was
made, runs of invalid readings, of readings far from the estimate and at shutdown level, since when it lies near the
estimate (plus 1), state 0 OK, 1 SUSPECT, 2 FAILED, estimate, the governing values of
the last 100 µs with their times, its rise in 0.25 °C over 100 µs, temperature band (R398), for an SRAM sensor its region's energy
account at the samples of the last 100 µs with their times (R399). -/
structure Sensor where
  temp : Int := 0
  seen : Bool := false
  validAt : Nat := 0
  gov : Int := 0
  bad : Nat := 0
  off : Nat := 0
  okFrom : Nat := 0
  state : Nat := 0
  est : Int := 0
  old : List (Nat × Int) := []
  rate : Int := 0
  hotRun : Nat := 0
  band : Nat := 0
  drawn : List (Nat × Nat) := []
  deriving DecidableEq, Repr

/-- The thermal manager (R390–R401). Groups are keyed 0–15 stacks, 16–19 quadrants, 20–23 port dies. `coolAt` is when a
stack's skip count and division last both came to rest (R396); `softOver` lists the sensors at or above their soft threshold (R394). -/
structure Thermal where
  sensors : NMap Sensor := []
  fast : List Nat := []
  softOver : List Nat := []
  hardHot : List Nat := []
  skip : NMap Nat := []
  coolAt : NMap Nat := []
  deriving DecidableEq, Repr

/-- A mailbox (R478–R482): its word and its waiting list of (SRC, SENG). -/
structure Mbx where
  word : Word := 0
  waiters : List (Nat × Nat) := []
  deriving DecidableEq, Repr

/-- An access to a mailbox (R479): its agent, the mailbox, the word of a write. -/
structure MbxAccess where
  agent : Agent
  n : Nat
  word : Option Word := none
  deriving DecidableEq, Repr

/-- The command a command mailbox has running (R483): the word, its parameters, and the result to
report when it completes. -/
structure Cmd where
  word : Word := 0
  params : List Word := []
  code : Nat := 0
  result : Nat := 0
  finished : Bool := false
  checked : Bool := false
  deriving DecidableEq, Repr

/-- Mailboxes, Curator commands and the transfer window (R478–R488), the mailbox accesses of this cycle that wait for others of it (`mbxNow`, R480), and what a gateway's agent keeps (R305, R436, R481): hosts it
saw rejected (node, device, mailbox), devices being loaded through it, the first 64 bytes of their images (keyed 64 × device
+ offset), the mirror pairs learned (partner plus 1), the roles in the last beacons. `staged` are test writes that wait for the
next tick, `stagedLate` those for the tick after it (R504); `bwBytes` the bytes of the present bandwidth window (R494);
`rejected` counts writes refused under R15. A Curator core runs from start-up step 0 on (R449); `coresLost` are those lost, and
`heartbeatAt` the time of the active core's last heartbeat, and `takingOver` lasts from a takeover until the new active core's first
(R434). -/
structure Control where
  mbx : NMap Mbx := []
  mbxNow : List MbxAccess := []
  cmds : NMap Cmd := []
  window : NMap Byte := []
  loadLen : Nat := 0
  loadArea : NMap Byte := []
  proxied : List (Nat × Nat × Nat) := []
  loading : List Nat := []
  headers : NMap Byte := []
  pairs : NMap Nat := []
  roles : NMap Nat := []
  staged : NMap Word := []
  stagedLate : NMap Word := []
  bwBytes : NMap Nat := []
  rejected : Nat := 0
  coreRuns : Bool := false
  coresLost : List Nat := []
  heartbeatAt : Nat := 0
  takingOver : Bool := false
  deriving DecidableEq, Repr

/-- The control store (R343, R344): its bytes, and for each line the agents' MESI states keyed
19 × line + agent with 1 S, 2 E, 3 M (0 I, unlisted); load reservations by agent. -/
structure ControlStore where
  bytes : NMap Byte := []
  mesi : NMap Nat := []
  reserved : NMap Nat := []
  deriving DecidableEq, Repr

/-- The device itself: everything but the queue of waiting commands. `now` is the time in CD16 cycles (1 ns)
since release of MOD_RST_N, `free` counts the free values drawn (Config), `regs` holds each C-space
register XORed with its reset value (for TILE_SRAM_MAP, see Device.restAt), keyed by C-space offset (R13, R14). `tiles` is keyed 272 × stack +
physical index. `reqs` holds the requests outstanding, `gone` those completed or discarded whose late
responses are still told apart (R324). `energy` are the accounts of the energy model, in fJ, since power-up (Machine/Energy.lean, R385). -/
structure Device where
  now : Nat := 0
  free : Nat := 0
  regs : NMap Word := []
  tiles : NMap Tile := []
  dies : NMap Die := []
  reqs : List Req := []
  gone : List Req := []
  nextId : Nat := 0
  ports : NMap Port := []
  fr : Frames := {}
  pln : Plinth := {}
  mem : Memory := {}
  fab : Fabric := {}
  boot : Boot := {}
  pwr : Power := {}
  thm : Thermal := {}
  ctl : Control := {}
  cds : ControlStore := {}
  led : Ledger := {}
  energy : NMap Nat := []
  out : List Out := []
  deriving DecidableEq, Repr

/-- The state: the device, and the commands that wait, first in, first out. -/
structure State extends Device where
  pending : List Instr := []
  deriving DecidableEq, Repr

/-- The device right after reset: no register differs from its stated reset value, every memory and
queue is empty, no command waits. (DESIGN CHOICE, log entry 8) -/
def State.reset : State := {}

/-- Why the model stops with a fault. (DESIGN CHOICE, log entry 2) -/
inductive Fault where
  /-- An operand of a command names a unit the spec says does not exist (a stack above 15, a bus above
  223). Raised by the meanings' check of their operands (onUnits); safe: the hardware has no such unit to act on. -/
  | noSuchUnit
  deriving DecidableEq, Repr

/-- Why the model refuses a command. -/
inductive Refusal where
  /-- A command whose meaning is not yet written. Raised by Dispatch only; safe. -/
  | notModelled (mnemonic : String)
  deriving DecidableEq, Repr

end Sys2Proof.Machine
end

