-- ==== Sys2Proof/Machine/Sparse.lean ====
section
/-! DEFINITION. The operations over sparse maps (the form State keeps every memory and register file in),
little-endian byte strings (R10), and bit fields. -/

namespace Sys2Proof.Machine

variable {ν : Type}

/-- The value at a key; an unlisted key reads as `d`. (DESIGN CHOICE, log entry 9) -/
def NMap.get (d : ν) : NMap ν → Nat → ν
  | [], _ => d
  | e :: m, k => if e.1 = k then e.2 else NMap.get d m k

/-- List a value at a key, in key order, in place of the one listed there. -/
def NMap.ins : NMap ν → Nat → ν → NMap ν
  | [], k, v => [(k, v)]
  | e :: m, k, v =>
    if k < e.1 then (k, v) :: e :: m
    else if e.1 = k then (k, v) :: m
    else e :: NMap.ins m k v

/-- Drop what is listed at a key. -/
def NMap.del (m : NMap ν) (k : Nat) : NMap ν := m.filter (fun e => e.1 != k)

/-- Write a value at a key; a write of `d`, what an unlisted key reads as, leaves the key unlisted. -/
def NMap.set [DecidableEq ν] (d : ν) (m : NMap ν) (k : Nat) (v : ν) : NMap ν :=
  if v = d then m.del k else m.ins k v

/-- Change the value at a key. -/
def NMap.upd [DecidableEq ν] (d : ν) (m : NMap ν) (k : Nat) (f : ν → ν) : NMap ν :=
  m.set d k (f (m.get d k))

/-- Drop everything listed at keys from `lo` to below `hi`. -/
def NMap.clear (m : NMap ν) (lo hi : Nat) : NMap ν := m.filter (fun e => !(decide (lo ≤ e.1 ∧ e.1 < hi)))

/-- The part of a map at keys from `lo` to below `hi`. -/
def NMap.range (m : NMap ν) (lo hi : Nat) : NMap ν := m.filter (fun e => decide (lo ≤ e.1 ∧ e.1 < hi))

/-- The same values at keys moved from base `a` to base `b`. -/
def NMap.shift (m : NMap ν) (a b : Nat) : NMap ν := m.map (fun e => (e.1 - a + b, e.2))

/-- Write listed entries into a map, in order. -/
def NMap.setAll [DecidableEq ν] (d : ν) (m : NMap ν) (es : List (Nat × ν)) : NMap ν :=
  es.foldl (fun m e => m.set d e.1 e.2) m

/-- Copy `n` keys from base `a` of one map to base `b` of another. -/
def NMap.copy [DecidableEq ν] (d : ν) (src dst : NMap ν) (a b n : Nat) : NMap ν :=
  (dst.clear b (b + n)).setAll d ((src.range a (a + n)).shift a b)

/-- The canonical form: keys strictly rising, and nothing listed that an unlisted key reads as. -/
abbrev NMap.wf (d : ν) (m : NMap ν) : Prop :=
  m.Pairwise (fun a b => a.1 < b.1) ∧ ∀ e ∈ m, e.2 ≠ d

/-! Byte strings and bit fields. -/

/-- Little-endian value of a byte string (R10). -/
def leNat : List Byte → Nat
  | [] => 0
  | b :: bs => b.toNat + 256 * leNat bs

/-- The `n` low bytes of a value, little-endian (R10). -/
def leBytes : Nat → Nat → List Byte
  | 0, _ => []
  | n + 1, v => BitVec.ofNat 8 v :: leBytes n (v / 256)

/-- `n` bytes of a byte map from address `a`. (DESIGN CHOICE, log entry 9) -/
def readBytes (m : NMap Byte) (a n : Nat) : List Byte := (List.range n).map (fun i => m.get 0 (a + i))

/-- Write a byte string into a byte map from address `a`. -/
def writeBytes (m : NMap Byte) (a : Nat) : List Byte → NMap Byte
  | [] => m
  | b :: bs => writeBytes (m.set 0 a b) (a + 1) bs

/-- Bits [lo + w − 1 : lo] of a number. -/
def bits (v lo w : Nat) : Nat := v / 2 ^ lo % 2 ^ w

/-- Bit `i` of a number. -/
def bit (v i : Nat) : Bool := v / 2 ^ i % 2 == 1

/-- A number with bits [lo + w − 1 : lo] replaced. -/
def setBits (v lo w x : Nat) : Nat := v - bits v lo w * 2 ^ lo + x % 2 ^ w * 2 ^ lo

/-- Two's-complement reading of the `w` low bits. -/
def signed (w v : Nat) : Int := if bit v (w - 1) then (v % 2 ^ w : Nat) - (2 ^ w : Nat) else (v % 2 ^ w : Nat)

/-- The `w`-bit two's-complement encoding of a number. -/
def unsigned (w : Nat) (x : Int) : Nat := (x % (2 ^ w : Nat)).toNat

/-- Rounding up division. -/
def ceilDiv (a b : Nat) : Nat := (a + b - 1) / b

/-- The line of 64 bytes, byte 0 lowest (R10). -/
def lineOfBytes (bs : List Byte) : Line := BitVec.ofNat 512 (leNat bs)

/-- The 64 bytes of a line. -/
def bytesOfLine (l : Line) : List Byte := leBytes 64 l.toNat

/-- Whether a byte has an odd number of one bits: the XOR of its eight bits (R196). -/
def oddParity (b : Nat) : Bool := (List.range 8).foldl (fun p i => p != bit b i) false

/-- The 64 byte-parity bits of a line: bit k is the parity of byte k (R112, R196). -/
def parityOf (l : Line) : Word :=
  BitVec.ofNat 64 ((bytesOfLine l).foldr (fun b acc => 2 * acc + (if oddParity b.toNat then 1 else 0)) 0)

/-- Poisoned parity: all 64 parity bits inverted (R261). -/
def poisonedParity (l : Line) : Word := ~~~ parityOf l

/-- A list with `x` added unless it holds it. -/
def addNew [BEq ν] (l : List ν) (x : ν) : List ν := if l.contains x then l else l ++ [x]

/-- A list without the entry at an index. -/
def dropAt : List ν → Nat → List ν
  | [], _ => []
  | _ :: l, 0 => l
  | x :: l, n + 1 => x :: dropAt l n

/-- A list with the entry at an index changed. -/
def modAt (f : ν → ν) : List ν → Nat → List ν
  | [], _ => []
  | x :: l, 0 => f x :: l
  | x :: l, n + 1 => x :: modAt f l n

end Sys2Proof.Machine
end

