-- ==== Sys2Proof/Machine/Block.lean ====
section
/-! DEFINITION. The blocks of a λ-channel (R195): the self-synchronous scrambler, the RS(90,80) code over GF(2^8), and what a
receiver makes of the byte errors of a block. Bytes are numbered in the order in which they are sent. -/

namespace Sys2Proof.Machine

/-! ## Scrambler x^58 + x^39 + 1 -/

/-- The register holds the latest 58 scrambled bits, newest first. -/
def scramblerTaps (reg : List Bool) : Bool := xor (reg.getD 38 false) (reg.getD 57 false)

/-- Scramble bits behind a register. -/
def scramble : List Bool → List Bool → List Bool
  | _, [] => []
  | reg, d :: ds =>
    let x := xor d (scramblerTaps reg)
    x :: scramble (x :: reg.take 57) ds

/-- The receiver undoes it from the bits it has received. -/
def descramble : List Bool → List Bool → List Bool
  | _, [] => []
  | reg, x :: xs => xor x (scramblerTaps reg) :: descramble (x :: reg.take 57) xs

/-! ## GF(2^8) with x^8 + x^4 + x^3 + x^2 + 1 -/

/-- Times x. -/
def gfTwice (a : Nat) : Nat := if a < 128 then 2 * a else Nat.xor (2 * a) 0x11D

/-- Product of two field elements. -/
def gfMul (a b : Nat) : Nat :=
  ((List.range 8).foldl (fun r i => (if bit b i then Nat.xor r.1 r.2 else r.1, gfTwice r.2)) (0, a)).1

/-- Powers of x. -/
def gfExp : Nat → Nat
  | 0 => 1
  | n + 1 => gfTwice (gfExp n)

/-! ## RS(90,80) -/

/-- The generator polynomial without its leading coefficient, highest power first: the product of x − α^j, j = 0–9. The rule names
no first root. (PRESUMED, log entry 121) -/
def rsGenerator : List Nat :=
  (List.range 10).foldl (fun g j => List.zipWith Nat.xor (g.drop 1 ++ [0]) (g.map (fun a => gfMul a (gfExp j)))) [0, 0, 0, 0, 0, 0, 0, 0, 0, 1]

/-- The ten check bytes behind a block's data bytes. -/
def rsCheck (data : List Nat) : List Nat :=
  data.foldl (fun p d =>
    let f := Nat.xor d (p.headD 0)
    List.zipWith Nat.xor (p.drop 1 ++ [0]) (rsGenerator.map (gfMul f))) (List.replicate 10 0)

/-- The block of 80 scrambled data bytes. -/
def rsBlock (data : List Nat) : List Nat := data ++ rsCheck data

/-- Syndrome j of 90 bytes; all ten of a codeword are zero. -/
def rsSyndrome (block : List Nat) (j : Nat) : Nat := block.foldl (fun a x => Nat.xor (gfMul a (gfExp j)) x) 0

def zeroSyndrome (block : List Nat) : Bool := (List.range 10).all (fun j => rsSyndrome block j == 0)

/-! ## Errors

The code is linear, so a received block has the syndromes of its error pattern, and the receiver's outcome is a function of the
pattern alone. -/

/-- The error pattern of 90 bytes that a list of (byte, error) pairs gives. -/
def errorPattern (es : List (Nat × Nat)) : List Nat :=
  (List.range 90).map (fun i => es.foldl (fun a e => if e.1 = i then Nat.xor a (e.2 % 256) else a) 0)

/-- Bytes of a block received in error. -/
def wrongBytes (es : List (Nat × Nat)) : Nat := ((errorPattern es).filter (· != 0)).length

/-- Up to 5 byte errors are corrected; a block with more is uncorrectable. (DEDUCED, log entry 121) -/
def correctable (es : List (Nat × Nat)) : Bool := decide (wrongBytes es ≤ 5)

/-- The blocks in a row with a zero syndrome that a receiver must see to find the block boundaries. -/
def syncBlocks : Nat := 8

end Sys2Proof.Machine
end

