-- ==== Sys2Proof/WellFormed.lean ====
section
/-! DEFINITION. Which operands name units the device has (R8): a command that names none acts on nothing
that exists. Field checks the device itself makes (R94, R291, …) are not here: they belong to the
meanings. -/

namespace Sys2Proof

/-- R8: stacks 0–15, physical tiles 0–271, threads 0–7, sites 0–39, buses 0–223, HBM4 stacks 0–19, HBM4
channels 0–31, lanes 0–63, port dies 0–3, comb lines 0–63, mailboxes 0–63. -/
def stackOk (c : Nat) : Bool := decide (c < 16)
def tileOk (c t : Nat) : Bool := decide (c < 16 ∧ t < 272)
def threadOk (c t n : Nat) : Bool := decide (c < 16 ∧ t < 272 ∧ n < 8)
def siteOk (s : Nat) : Bool := decide (s < 40)
def busOk (b : Nat) : Bool := decide (b < 224)
def chanOk (b k : Nat) : Bool := decide (b < 224 ∧ k < 60)
def hbmOk (m : Nat) : Bool := decide (m < 20)
def hchOk (m h : Nat) : Bool := decide (m < 20 ∧ h < 32)
def laneOk (z : Nat) : Bool := decide (z < 64)
def portOk (p : Nat) : Bool := decide (p < 4)
def quadOk (q : Nat) : Bool := decide (q < 4)
def lineOk (l : Nat) : Bool := decide (l < 64)
def mbxOk (n : Nat) : Bool := decide (n < 64)
def cmdOk (m : Nat) : Bool := decide (m < 16)
def ringOk (s b r : Nat) : Bool := decide (s < 40 ∧ b < 224 ∧ r < 8)
def dimmOk (k : Nat) : Bool := decide (k < 8)
def xingOk (x : Nat) : Bool := decide (x < 24)

/-- The issuing thread exists. -/
def Who.ok (w : Who) : Bool := threadOk w.c w.t w.n

/-- A packet's fields fit the header (R287), and its payload is LEN × 16 bytes. -/
def Pkt.ok (p : Pkt) : Bool :=
  decide (p.dst < 1024 ∧ p.src < 1024 ∧ p.typ < 16 ∧ p.len < 64 ∧ p.seq < 2 ^ 32 ∧ p.xfer < 2 ^ 24 ∧ p.count < 2 ^ 16) &&
    decide (p.seng < 256 ∧ p.cc < 2 ^ 14 ∧ p.addr < 2 ^ 64 ∧ p.mask < 2 ^ 32 ∧ p.mgrp < 32 ∧ p.hops < 64 ∧ p.arg < 256) &&
    decide (p.zero < 64 ∧ p.hcrc < 256 ∧ p.pcrc < 2 ^ 32) && p.payload.length == 16 * p.len

/-- The lane a packet arrives on exists. -/
def Via.ok : Via → Bool
  | .lane z => laneOk z
  | .own => true

/-- A sensor group exists (R390). -/
def Group.ok : Group → Bool
  | .stack c => stackOk c
  | .quad q => quadOk q
  | .port p => portOk p

end Sys2Proof
end

