-- ==== Sys2Proof/Machine/Encode.lean ====
section
/-! DEFINITION. The words of the Docent's instructions (R94, R95, R97, R98, R101): the 32-bit word of each instruction row, and which
words have a defined OP and FN. A thread issues the word it fetches (R85). -/

namespace Sys2Proof.Machine

/-! ## The four forms (R94) -/

def formA (op d a b fn : Nat) : Nat := op * 2 ^ 26 + d * 2 ^ 21 + a * 2 ^ 16 + b * 2 ^ 11 + fn
def formB (op d a : Nat) (imm : BitVec 16) : Nat := op * 2 ^ 26 + d * 2 ^ 21 + a * 2 ^ 16 + imm.toNat
def formC (op a b : Nat) (off : BitVec 16) : Nat := op * 2 ^ 26 + a * 2 ^ 21 + b * 2 ^ 16 + off.toNat
def formD (op : Nat) (off : BitVec 26) : Nat := op * 2 ^ 26 + off.toNat

/-- The word of an instruction (R95): SATM and VOP select their operation in FN[3:0], VSFN in FN[2:0], VRED in FN[1:0], and the
eight descriptor kinds share the word of SGO. A command that is no instruction has none. -/
def encodeDocent : Instr → Option Nat
  | .add _ d a b => some (formA 0x00 d a b 0x000)
  | .sub _ d a b => some (formA 0x00 d a b 0x001)
  | .and _ d a b => some (formA 0x00 d a b 0x002)
  | .or _ d a b => some (formA 0x00 d a b 0x003)
  | .xor _ d a b => some (formA 0x00 d a b 0x004)
  | .shl _ d a b => some (formA 0x00 d a b 0x005)
  | .shr _ d a b => some (formA 0x00 d a b 0x006)
  | .sra _ d a b => some (formA 0x00 d a b 0x007)
  | .mul _ d a b => some (formA 0x00 d a b 0x008)
  | .slt _ d a b => some (formA 0x00 d a b 0x009)
  | .sltu _ d a b => some (formA 0x00 d a b 0x00A)
  | .addi _ d a imm => some (formB 0x01 d a imm)
  | .lui _ d a imm => some (formB 0x02 d a imm)
  | .ld _ d a imm => some (formB 0x03 d a imm)
  | .st _ d a imm => some (formB 0x04 d a imm)
  | .spr _ d a imm => some (formB 0x05 d a imm)
  | .beq _ a b off => some (formC 0x08 a b off)
  | .bne _ a b off => some (formC 0x09 a b off)
  | .blt _ a b off => some (formC 0x0A a b off)
  | .bge _ a b off => some (formC 0x0B a b off)
  | .jal _ off => some (formD 0x0C off)
  | .jr _ d a imm => some (formB 0x0D d a imm)
  | .send _ d a imm => some (formB 0x10 d a imm)
  | .receive _ d a imm => some (formB 0x10 d a imm)
  | .sendEwa _ d a imm => some (formB 0x10 d a imm)
  | .receiveEwaAdd _ d a imm => some (formB 0x10 d a imm)
  | .lbRead _ d a imm => some (formB 0x10 d a imm)
  | .lbWrite _ d a imm => some (formB 0x10 d a imm)
  | .remoteGet _ d a imm => some (formB 0x10 d a imm)
  | .remotePut _ d a imm => some (formB 0x10 d a imm)
  | .sld _ d a b fn => some (formA 0x11 d a b fn.toNat)
  | .sst _ d a b fn => some (formA 0x12 d a b fn.toNat)
  | .fetchAddInt64 _ d a b hi => some (formA 0x13 d a b (0 + 16 * hi.toNat))
  | .fetchAddEwa96 _ d a b hi => some (formA 0x13 d a b (1 + 16 * hi.toNat))
  | .swap _ d a b hi => some (formA 0x13 d a b (2 + 16 * hi.toNat))
  | .compareSwap _ d a b hi => some (formA 0x13 d a b (3 + 16 * hi.toNat))
  | .atomicMin _ d a b hi => some (formA 0x13 d a b (4 + 16 * hi.toNat))
  | .atomicMax _ d a b hi => some (formA 0x13 d a b (5 + 16 * hi.toNat))
  | .atomicAnd _ d a b hi => some (formA 0x13 d a b (6 + 16 * hi.toNat))
  | .atomicOr _ d a b hi => some (formA 0x13 d a b (7 + 16 * hi.toNat))
  | .atomicXor _ d a b hi => some (formA 0x13 d a b (8 + 16 * hi.toNat))
  | .mma _ d a imm => some (formB 0x18 d a imm)
  | .mcvt _ d a imm => some (formB 0x19 d a imm)
  | .mclr _ d a imm => some (formB 0x1A d a imm)
  | .vld _ d a imm => some (formB 0x20 d a imm)
  | .vst _ d a imm => some (formB 0x21 d a imm)
  | .vopAdd _ d a b hi => some (formA 0x22 d a b (0 + 16 * hi.toNat))
  | .vopSub _ d a b hi => some (formA 0x22 d a b (1 + 16 * hi.toNat))
  | .vopMul _ d a b hi => some (formA 0x22 d a b (2 + 16 * hi.toNat))
  | .vopDiv _ d a b hi => some (formA 0x22 d a b (3 + 16 * hi.toNat))
  | .vopSqrt _ d a b hi => some (formA 0x22 d a b (4 + 16 * hi.toNat))
  | .vopMin _ d a b hi => some (formA 0x22 d a b (5 + 16 * hi.toNat))
  | .vopMax _ d a b hi => some (formA 0x22 d a b (6 + 16 * hi.toNat))
  | .cvti _ d a b hi => some (formA 0x22 d a b (7 + 16 * hi.toNat))
  | .cvtf _ d a b hi => some (formA 0x22 d a b (8 + 16 * hi.toNat))
  | .rbf _ d a b hi => some (formA 0x22 d a b (9 + 16 * hi.toNat))
  | .rhf _ d a b hi => some (formA 0x22 d a b (10 + 16 * hi.toNat))
  | .hmax _ d a b hi => some (formA 0x22 d a b (11 + 16 * hi.toNat))
  | .hmin _ d a b hi => some (formA 0x22 d a b (12 + 16 * hi.toNat))
  | .bcast _ d a b hi => some (formA 0x22 d a b (13 + 16 * hi.toNat))
  | .vfma _ d a b fn => some (formA 0x23 d a b fn.toNat)
  | .vsfnExp _ d a b hi => some (formA 0x24 d a b (0 + 8 * hi.toNat))
  | .vsfnLog _ d a b hi => some (formA 0x24 d a b (1 + 8 * hi.toNat))
  | .vsfnRsqrt _ d a b hi => some (formA 0x24 d a b (2 + 8 * hi.toNat))
  | .vsfnTanh _ d a b hi => some (formA 0x24 d a b (3 + 8 * hi.toNat))
  | .vsfnSigmoid _ d a b hi => some (formA 0x24 d a b (4 + 8 * hi.toNat))
  | .vsfnErf _ d a b hi => some (formA 0x24 d a b (5 + 8 * hi.toNat))
  | .vredSum _ d a b hi => some (formA 0x25 d a b (0 + 4 * hi.toNat))
  | .vredLanes _ d a b hi => some (formA 0x25 d a b (1 + 4 * hi.toNat))
  | .vredCvt _ d a b hi => some (formA 0x25 d a b (2 + 4 * hi.toNat))
  | .vredClr _ d a b hi => some (formA 0x25 d a b (3 + 4 * hi.toNat))
  | .fence _ d a imm => some (formB 0x30 d a imm)
  | .tcwait _ d a imm => some (formB 0x31 d a imm)
  | .ccwait _ d a imm => some (formB 0x32 d a imm)
  | .tbar _ d a imm => some (formB 0x33 d a imm)
  | .eow _ d a imm => some (formB 0x34 d a imm)
  | _ => none

/-- The OPs of the table that take every FN or have none (R95). -/
def plainOps : List Nat :=
  [0x01, 0x02, 0x03, 0x04, 0x05, 0x08, 0x09, 0x0A, 0x0B, 0x0C, 0x0D, 0x10, 0x11, 0x12, 0x18, 0x19, 0x1A, 0x20, 0x21, 0x23, 0x25,
   0x30, 0x31, 0x32, 0x33, 0x34]

/-- A word has a defined OP and FN (R94, R95, R97, R101): any other is an ILLEGAL fault. -/
def definedWord (v : Nat) : Bool :=
  let op := v / 2 ^ 26 % 64
  let fn := v % 2 ^ 11
  plainOps.contains op || (op == 0x00 && decide (fn ≤ 0x00A)) || (op == 0x13 && decide (fn % 16 ≤ 8)) ||
    (op == 0x22 && decide (fn % 16 ≤ 13)) || (op == 0x24 && decide (fn % 8 ≤ 5))

end Sys2Proof.Machine
end

