-- ==== Sys2Proof/Config.lean ====
section
/-! DEFINITION. What one module fixes and what the spec leaves open: opaque constants and functions of which
nothing in Lean can prove a value. Each is named in the assumption log. -/

namespace Sys2Proof.Config

/-- GLB_ID.BOARD_REV (R43: "Silicon"). (DESIGN CHOICE, log entry 11) -/
opaque boardRev : BitVec 8

/-- SHA-384 (R442, R462, R470, R471), uninterpreted: the 384-bit digest of a byte string. (DESIGN CHOICE, log entry 13) -/
opaque sha384 : List Byte → BitVec 384

/-- Whether an RSA-3072 signature verifies under a public key over a message (R462, R464), uninterpreted.
(DESIGN CHOICE, log entry 13) -/
opaque rsaOk : List Byte → List Byte → List Byte → Bool

/-- Whether an SLH-DSA-SHA2-192s signature verifies under a public key over a message (R462, R464), uninterpreted.
(DESIGN CHOICE, log entry 13) -/
opaque slhOk : List Byte → List Byte → List Byte → Bool

/-- The RSA-3072 and the SLH-DSA-SHA2-192s signature of a private key over a message (R463, R470), uninterpreted. (DESIGN CHOICE, log
entry 13) -/
opaque rsaSign : List Byte → List Byte → BitVec 3072
opaque slhSign : List Byte → List Byte → BitVec 129792

/-- Bytes of an HMAC_DRBG with SHA-384, by what it is instantiated with and its label (R468), uninterpreted. (DESIGN CHOICE, log entry 13) -/
opaque hmacDrbg : List Byte → List Byte → Nat → List Byte

/-- The public and the private key that FIPS 205 makes of three seeds, and FIPS 186-5 of a DRBG's seed and label (R468), uninterpreted.
(DESIGN CHOICE, log entry 13) -/
opaque slhKeygen : List Byte → List Byte → List Byte → List Byte × List Byte
opaque rsaKeygen : List Byte → List Byte → List Byte × List Byte

/-- The root pairs of the Curator ROM, at most two (R462): digests of a root RSA and of a root SLH-DSA public key.
(DESIGN CHOICE, log entry 13) -/
opaque rootPair : Fin 2 → Option (BitVec 384 × BitVec 384)

/-- SHA-384 of the Curator ROM (R470). (DESIGN CHOICE, log entry 13) -/
opaque romDigest : BitVec 384

/-- The 48-byte seed K that the PUF reconstructs (R468). (DESIGN CHOICE, log entry 13) -/
opaque pufSeed : BitVec 384

/-- The device number at a ring position of a group (R283, R409): fixed by the installation's Catalogues.
(DESIGN CHOICE, log entry 14) -/
opaque memberAt : Nat → Nat → BitVec 10

/-- PWR_LIMIT.CEILING of another device (R386, R388): fixed by its Catalogue. (DESIGN CHOICE, log entry 14) -/
opaque ceilingOf : Nat → BitVec 11

/-- PWR_LIMIT.SUSTAINED of another device (R388, R404): fixed by its Catalogue. (DESIGN CHOICE, log entry 14) -/
opaque sustainedOf : Nat → BitVec 11

/-- The tick period, in ns, that the timing master keeps while no image gives one (R302). (DESIGN CHOICE, log entry 15) -/
opaque idlePeriod : BitVec 32

/-- The CRC-64 of the digest item of a changed committed length (R442 names the slot and the length, and no layout).
(DESIGN CHOICE, log entry 16) -/
opaque lengthItem : Nat → Nat → BitVec 64

/-- The digest of its image that a mirror partner sends (R435), by draw. (DESIGN CHOICE, log entry 31) -/
opaque partnerDigest : Nat → BitVec 384

/-- Bytes that a mirror partner's copies and journal records bring, by draw (R443): keys of memory with their bytes.
(DESIGN CHOICE, log entry 66) -/
opaque copiedBytes : Nat → List (Nat × Byte)

/-- Committed lengths that they bring, by draw and slot (R443). (DESIGN CHOICE, log entry 66) -/
opaque copiedLen : Nat → Nat → BitVec 48

/-- Carry lines that they bring, by draw (R443): the tile, the number of the line in its bank, its data.
(DESIGN CHOICE, log entry 66) -/
opaque copiedCarry : Nat → List (Nat × Nat × Line)

/-- The Plinth sensor nearest to a ring (R216): the spec gives no place of a ring. By ring key. (DESIGN CHOICE, log entry 122) -/
opaque nearestSensor : Nat → Nat

/-- The lock-point preset of a temperature band for a line, in units of 0.01 GHz (R216, R219). (DESIGN CHOICE, log entry 122) -/
opaque lockPreset : Nat → Nat → Int

/-- The temperature predicted for a stack's rings, in units of 0.25 °C (R217), from the readings and rises of the stack's sensors and its
activity. (DESIGN CHOICE, log entry 122) -/
opaque predictedTemp : List (Int × Int) → Nat → Int

/-- The heater drive of a ring (R216, R217): by ring key, band, which selects the bias waveform, and, where feed-forward has run for its
stack, predicted temperature. (DESIGN CHOICE, log entry 122) -/
opaque heaterDrive : Nat → Nat → Option Int → Int

/-- A receiver's offset (in ADC steps) and gain (in hundredths) from the histogram of its live signal: from its midpoint and its spread
(R215). (DESIGN CHOICE, log entry 132) -/
opaque liveOffset : List Nat → Int
opaque liveGain : List Nat → Int

/-- A ring's lock point, in units of 0.01 GHz from the preset of its band, from the dither phase of its drop power (R215).
(DESIGN CHOICE, log entry 132) -/
opaque liveLock : Int → Int

/-- A value the spec leaves open, drawn with the counter `free` of the state. (DESIGN CHOICE, log entry 12) -/
opaque freeWord : Nat → BitVec 64

/-- The virtual channels of lanes (4 × lane + channel) for which the far ends grant no credit (R286): the spec gives neither their number
nor when they return. (DESIGN CHOICE, log entry 125) -/
opaque creditless : Nat → List Nat

/-- A line the spec leaves open. (DESIGN CHOICE, log entry 12) -/
opaque freeLine : Nat → Line

end Sys2Proof.Config
end

