-- ==== Sys2Proof/Machine/Packet.lean ====
section
/-! DEFINITION. ZF packets as data: header words and bytes (R287), their check sums, type ranges (R288) and
the header checks of R291 that need no state. -/

namespace Sys2Proof.Machine

/-- One byte into a left-shifting CRC register of width `w`, most significant bit first. -/
def crcByte (w poly : Nat) (reg b : Nat) : Nat :=
  (List.range 8).foldl (fun r _ =>
    let s := 2 * r
    if bit r (w - 1) then Nat.xor s poly % 2 ^ w else s % 2 ^ w) (Nat.xor reg (b * 2 ^ (w - 8)))

/-- HCRC (R287): polynomial 0x07, initial value 0, no reflection, no final XOR. -/
def crc8 (bs : List Byte) : Nat := bs.foldl (fun r b => crcByte 8 0x07 r b.toNat) 0

/-- The frame digest's CRC-64 (R442): ECMA-182, initial value 0, no reflection, no final XOR. -/
def crc64 (bs : List Byte) : Nat := bs.foldl (fun r b => crcByte 64 0x42F0E1EBA9EA3693 r b.toNat) 0

/-- One byte into the reflected CRC-32C register. (PRESUMED, log entry 17) -/
def crc32cByte (reg b : Nat) : Nat :=
  (List.range 8).foldl (fun r _ => if r % 2 = 1 then Nat.xor (r / 2) 0x82F63B78 else r / 2) (Nat.xor reg b)

/-- CRC-32C, Castagnoli, in its usual reflected form (R287): PRESUMED, the spec names the code only. (PRESUMED, log entry 17) -/
def crc32c (bs : List Byte) : Nat :=
  Nat.xor (bs.foldl (fun r b => crc32cByte r b.toNat) 0xFFFFFFFF) 0xFFFFFFFF

/-- The value 1 or 0 of a flag. -/
def b2n (b : Bool) : Nat := if b then 1 else 0

/-- Header words 0–3 (R287), HCRC in word 3. Bit 63 of word 1 and bits [47:43] of word 3 come from `zero`. -/
def hdrWord0 (p : Pkt) : Nat :=
  p.dst % 2 ^ 10 + p.src % 2 ^ 10 * 2 ^ 10 + b2n p.epoch * 2 ^ 20 + b2n p.last * 2 ^ 21 +
    p.typ % 16 * 2 ^ 22 + p.len % 64 * 2 ^ 26 + p.seq % 2 ^ 32 * 2 ^ 32

def hdrWord1 (p : Pkt) : Nat :=
  p.xfer % 2 ^ 24 + p.count % 2 ^ 16 * 2 ^ 24 + p.seng % 256 * 2 ^ 40 + p.cc % 2 ^ 14 * 2 ^ 48 +
    b2n p.ccEn * 2 ^ 62 + p.zero % 2 * 2 ^ 63

def hdrWord3 (p : Pkt) : Nat :=
  p.mask % 2 ^ 32 + p.mgrp % 32 * 2 ^ 32 + p.hops % 64 * 2 ^ 37 + p.zero / 2 % 32 * 2 ^ 43 +
    p.arg % 256 * 2 ^ 48 + p.hcrc % 256 * 2 ^ 56

/-- The 32 header bytes (R287). -/
def hdrBytes (p : Pkt) : List Byte :=
  leBytes 8 (hdrWord0 p) ++ leBytes 8 (hdrWord1 p) ++ leBytes 8 p.addr ++ leBytes 8 (hdrWord3 p)

/-- The HCRC a header must carry: over bytes 0–30 (R287). -/
def headerCrc (p : Pkt) : Nat := crc8 ((hdrBytes p).take 31)

/-- The packet with both check sums computed afresh (R287). -/
def sealPkt (p : Pkt) : Pkt :=
  { p with hcrc := headerCrc p, pcrc := if p.len = 0 then 0 else crc32c p.payload }

/-- A packet with nothing set but COUNT = 1 (R288). -/
def blankPkt : Pkt := ⟨0, 0, false, false, 0, 0, 0, 0, 1, 0, 0, false, 0, 0, 0, 0, 0, 0, 0, [], 0, 0⟩

/-- Packet types (R288). -/
def tWrite : Nat := 1
def tRead : Nat := 2
def tReadResp : Nat := 3
def tAtomic : Nat := 4
def tAtomicResp : Nat := 5
def tAck : Nat := 6
def tMcast : Nat := 7
def tReduce : Nat := 8
def tTick : Nat := 9
def tHold : Nat := 10
def tLease : Nat := 11
def tMbxWrite : Nat := 12
def tMbxReject : Nat := 13
def tMgmt : Nat := 14

/-- Response status (R290). -/
def stOk : Nat := 0
def stField : Nat := 1
def stAddress : Nat := 2
def stWriteSet : Nat := 3
def stStale : Nat := 4
def stOwnership : Nat := 5
def stAlign : Nat := 6
def stBusy : Nat := 7
def stNode : Nat := 8

/-- A request type: one that a failing check answers (R291). -/
def isRequest (p : Pkt) : Bool :=
  p.typ == tRead || p.typ == tWrite || p.typ == tMcast || p.typ == tReduce || p.typ == tAtomic ||
    p.typ == tMbxWrite || (p.typ == tMgmt && (p.arg == 1 || p.arg == 2))

/-- A response (R288). -/
def isResponse (p : Pkt) : Bool := p.typ == tReadResp || p.typ == tAtomicResp || p.typ == tAck || p.typ == tMbxReject

/-- The response type of a request type (R288). -/
def respType (typ : Nat) : Nat := if typ = tRead then tReadResp else if typ = tAtomic then tAtomicResp else tAck

/-- LEN within its type's range, as a router checks it (R288, R291 code 4). -/
def lenOk (p : Pkt) : Bool :=
  match p.typ with
  | 1 => decide (1 ≤ p.len ∧ p.len ≤ 32)
  | 2 => p.len == 0
  | 3 => decide (p.len ≤ 16)
  | 4 => decide (1 ≤ p.len ∧ p.len ≤ 2)
  | 5 => decide (p.len ≤ 1)
  | 6 => p.len == 0
  | 7 => decide (1 ≤ p.len ∧ p.len ≤ 32)
  | 8 => decide (1 ≤ p.len ∧ p.len ≤ 32)
  | 9 => p.len == 1
  | 10 => p.len == 0
  | 11 => p.len == 1
  | 12 => p.len == 1
  | 13 => p.len == 0
  | 14 => decide (p.len ≤ 32)
  | _ => false

/-- The sizes an atomic operation takes (R101): fetch-add int64 8 bytes, EWA96 16 bytes, others both. -/
def atomicArgOk (arg : Nat) : Bool :=
  match arg with
  | 0 => true
  | 17 => true
  | a => decide ((2 ≤ a ∧ a ≤ 8) ∨ (18 ≤ a ∧ a ≤ 24))

/-- ARG within its type's encoding (R288, R291 code 5). -/
def argOk (p : Pkt) : Bool :=
  match p.typ with
  | 1 => p.arg == 0 || p.arg == 8
  | 2 => decide (1 ≤ p.arg ∧ p.arg ≤ 32)
  | 3 => decide (p.arg ≤ 8)
  | 4 => atomicArgOk p.arg
  | 5 => decide (p.arg ≤ 8)
  | 6 => decide (p.arg ≤ 8)
  | 7 => p.arg == 0 || p.arg == 8
  | 10 => !bit p.arg 5 && !bit p.arg 4 &&
      (if bit p.arg 6 then decide (1 ≤ p.arg % 16 ∧ p.arg % 16 ≤ 7) else decide (1 ≤ p.arg % 16 ∧ p.arg % 16 ≤ 8))
  | 14 => decide (1 ≤ p.arg ∧ p.arg ≤ 4)
  | _ => p.arg == 0

/-- Fields that a type requires to be zero (R287, R288, R291 code 9). -/
def zerosOk (p : Pkt) : Bool :=
  p.zero == 0 &&
  (p.typ == tMcast || (p.mask == 0 && p.mgrp == 0)) &&
  (!(p.typ == tReadResp || p.typ == tAtomicResp || p.typ == tAck || p.typ == tLease) || p.addr == 0) &&
  (!(p.typ == tMbxWrite) || (p.payload.drop 8).all (· == 0))

/-- The response to a request (R288): its SEQ, XFER and SENG, DST its SRC, SRC the responder. A status other
than OK carries no payload. -/
def respond (p : Pkt) (self status : Nat) (payload : List Byte) (epoch : Bool) : Pkt :=
  let pl := if status = stOk then payload else []
  sealPkt { blankPkt with
    dst := p.src, src := self, epoch := epoch, typ := respType p.typ, len := ceilDiv pl.length 16,
    seq := p.seq, xfer := p.xfer, seng := p.seng, arg := status,
    payload := pl ++ List.replicate (16 * ceilDiv pl.length 16 - pl.length) 0 }

end Sys2Proof.Machine
end

