-- ==== Sys2Proof/Machine/Regs.lean ====
section
/-! DEFINITION. The C-space register map: for every register of the spec's maps its block and offset
(R13), how often it repeats, its fields with their access codes (R16), stated ranges (R15) and reset
values, taken table by table from R43–R46, R69, R125–R138, R179–R187, R228–R237, R266–R275, R310–R316,
R345–R349, R367–R371, R402–R414, R444–R447, R475–R477, R478–R494, R502 and R506. -/

namespace Sys2Proof.Machine

/-- The C-space blocks of R13. -/
inductive Block where
  | glb | cur | frm | mbx | pwr | thm | clk | led | tst | pln | mem | prt | cmp | tile
  deriving DecidableEq, Repr

/-- The base of block number `b` of a kind (R13); a tile is numbered 272 × stack + physical index. -/
def Block.base : Block → Nat → Nat
  | .glb, _ => 0x00000000
  | .cur, _ => 0x00010000
  | .frm, _ => 0x00020000
  | .mbx, _ => 0x00030000
  | .pwr, _ => 0x00040000
  | .thm, _ => 0x00050000
  | .clk, _ => 0x00060000
  | .led, _ => 0x00070000
  | .tst, _ => 0x00080000
  | .pln, q => 0x00100000 + q * 0x10000
  | .mem, m => 0x00200000 + m * 0x10000
  | .prt, p => 0x00400000 + p * 0x10000
  | .cmp, c => 0x100000000 + c * 0x02000000
  | .tile, i => 0x100000000 + (i / 272) * 0x02000000 + 0x00800000 + (i % 272) * 0x10000

/-- The block and block number an offset falls in, with the offset inside it (R13). -/
def Block.ofOffset (o : Nat) : Option (Block × Nat × Nat) :=
  if o < 0x90000 then
    match o / 0x10000 with
    | 0 => some (.glb, 0, o % 0x10000)
    | 1 => some (.cur, 0, o % 0x10000)
    | 2 => some (.frm, 0, o % 0x10000)
    | 3 => some (.mbx, 0, o % 0x10000)
    | 4 => some (.pwr, 0, o % 0x10000)
    | 5 => some (.thm, 0, o % 0x10000)
    | 6 => some (.clk, 0, o % 0x10000)
    | 7 => some (.led, 0, o % 0x10000)
    | _ => some (.tst, 0, o % 0x10000)
  else if 0x100000 ≤ o ∧ o < 0x140000 then some (.pln, (o - 0x100000) / 0x10000, o % 0x10000)
  else if 0x200000 ≤ o ∧ o < 0x340000 then some (.mem, (o - 0x200000) / 0x10000, o % 0x10000)
  else if 0x400000 ≤ o ∧ o < 0x440000 then some (.prt, (o - 0x400000) / 0x10000, o % 0x10000)
  else if 0x100000000 ≤ o ∧ o < 0x120000000 then
    let c := (o - 0x100000000) / 0x02000000
    let r := (o - 0x100000000) % 0x02000000
    if r < 0x00800000 then (if r < 0x10000 then some (.cmp, c, r) else none)
    else
      let t := (r - 0x00800000) / 0x10000
      if t < 272 then some (.tile, 272 * c + t, r % 0x10000) else none
  else none

/-- The access codes of R16. -/
inductive Access where
  | ro | rw | w1c | wo | rc | cf
  deriving DecidableEq, Repr

/-- What values a field takes (R15): any of its bits, a range, or a range and one value more. -/
inductive Legal where
  | any
  | range (lo hi : Nat)
  | rangeOr (lo hi x : Nat)
  deriving DecidableEq, Repr

/-- Whether a field value is legal (R15). -/
def Legal.ok : Legal → Nat → Bool
  | .any, _ => true
  | .range lo hi, v => decide (lo ≤ v ∧ v ≤ hi)
  | .rangeOr lo hi x, v => decide ((lo ≤ v ∧ v ≤ hi) ∨ v = x)

/-- The writers a register's rule names: nobody; the Curator alone (any other write is an error); the
Curator for its RW and WO fields only (R130, R367 and the like), where another agent may still clear W1C
bits; Curator and hosts; the Curator, with hosts clearing W1C bits (R444); every agent but a frame
program (R502); the coordinator or a member's Curator (R408, R409); any agent. -/
inductive Writer where
  | none | curator | curatorOnlyRW | curHost | curHostW1C | noThread | coordinator | member | any
  deriving DecidableEq, Repr

/-- One field: bits [lo + w − 1 : lo], access, legal values. -/
structure FieldSpec where
  lo : Nat
  w : Nat
  acc : Access
  legal : Legal := .any
  deriving DecidableEq, Repr

/-- The registers of C-space. -/
inductive RegKind where
  | glbId
  | glbCap
  | glbStatus
  | glbReset
  | glbBwCtl
  | glbQuad
  | glbSite
  | curStatus
  | curBoot
  | curCat
  | curIdent
  | curXferCtl
  | curCmd
  | curRes
  | curWear
  | curParam
  | curXfer
  | frmState
  | frmFrame
  | frmCommitted
  | frmConfig
  | frmTiming
  | frmHold
  | frmAdmit
  | frmFault
  | frmLimits
  | frmMirror
  | frmDigest
  | frmPdigest
  | frmResync
  | frmWithdraw
  | frmLenPend
  | frmLenCommit
  | mbxData
  | mbxStat
  | mbxFull
  | pwrStatus
  | pwrLimit
  | pwrShare
  | pwrExc
  | pwrEnFrame
  | pwrEnJob
  | pwrAssign
  | pwrRpt
  | pwrCoef
  | thmStatus
  | thmSel
  | thmData
  | thmStack
  | clkStatus
  | clkDom
  | clkStretch
  | clkSkip
  | clkXing
  | ledHead
  | ledOldest
  | ledDrop
  | ledCur
  | ledWin
  | tstCtl
  | tstLambda
  | tstZf
  | tstBp
  | tstStretch
  | tstTimeout
  | tstParity
  | tstCount
  | plnStatus
  | plnLaser
  | plnTherm
  | plnErr
  | plnFecCorr
  | plnRingSel
  | plnRingData
  | plnMapSel
  | plnMapData
  | plnBus
  | plnSite
  | plnCyc
  | plnPmc
  | plnPmsel
  | plnPmctl
  | plnBw
  | memStatus
  | memId
  | memTemp
  | memErr
  | memErrAddr
  | memStats
  | memCmtCtl
  | memChan
  | memPoison
  | memCyc
  | memPmc
  | memPmsel
  | memPmctl
  | memBw
  | memCmt
  | prtStatus
  | prtRoute
  | prtTick
  | prtZfErr
  | prtZfBad
  | prtTelem
  | prtRtSel
  | prtRtLanes
  | prtRtFlags
  | prtLane
  | prtRmSeq
  | prtRmComb
  | prtRmAtom
  | prtRmOwn
  | prtLaneBw
  | prtCyc
  | prtPmc
  | prtPmsel
  | prtPmctl
  | prtDdrStatus
  | prtDdrErr
  | prtDdrErrAddr
  | prtDdrBw
  | cmpSpare
  | tileId
  | tileSramMap
  | tileCtl
  | tileFault
  | tileRemote
  | tileArith
  | tileThread
  | tileCyc
  | tilePmc
  | tilePmsel
  | tilePmctl
  deriving DecidableEq, Repr

/-- Where a register lies and who may write it: block, offset, how many, how many of them lie 8 bytes
apart, the step between such runs, the writers. -/
structure RegPlace where
  block : Block
  off : Nat
  count : Nat
  inner : Nat
  stride : Nat
  writer : Writer
  deriving DecidableEq, Repr

/-- The placement of every register. -/
def RegKind.place : RegKind → RegPlace
  | .glbId => ⟨.glb, 0x0000, 1, 1, 8, .none⟩
  | .glbCap => ⟨.glb, 0x0008, 1, 1, 8, .none⟩
  | .glbStatus => ⟨.glb, 0x0010, 1, 1, 8, .none⟩
  | .glbReset => ⟨.glb, 0x0018, 1, 1, 8, .none⟩
  | .glbBwCtl => ⟨.glb, 0x0020, 1, 1, 8, .curHost⟩
  | .glbQuad => ⟨.glb, 0x0040, 4, 4, 32, .none⟩
  | .glbSite => ⟨.glb, 0x0100, 40, 40, 320, .none⟩
  | .curStatus => ⟨.cur, 0x0000, 1, 1, 8, .none⟩
  | .curBoot => ⟨.cur, 0x0100, 1, 1, 8, .none⟩
  | .curCat => ⟨.cur, 0x0108, 1, 1, 8, .none⟩
  | .curIdent => ⟨.cur, 0x0110, 1, 1, 8, .none⟩
  | .curXferCtl => ⟨.cur, 0x0120, 1, 1, 8, .none⟩
  | .curCmd => ⟨.cur, 0x0200, 16, 16, 128, .none⟩
  | .curRes => ⟨.cur, 0x0280, 16, 16, 128, .none⟩
  | .curWear => ⟨.cur, 0x0400, 9, 9, 72, .curHostW1C⟩
  | .curParam => ⟨.cur, 0x0800, 128, 128, 1024, .any⟩
  | .curXfer => ⟨.cur, 0x8000, 4096, 4096, 32768, .any⟩
  | .frmState => ⟨.frm, 0x0000, 1, 1, 8, .curator⟩
  | .frmFrame => ⟨.frm, 0x0008, 1, 1, 8, .curator⟩
  | .frmCommitted => ⟨.frm, 0x0010, 1, 1, 8, .curator⟩
  | .frmConfig => ⟨.frm, 0x0018, 1, 1, 8, .curator⟩
  | .frmTiming => ⟨.frm, 0x0020, 1, 1, 8, .curator⟩
  | .frmHold => ⟨.frm, 0x0028, 1, 1, 8, .curator⟩
  | .frmAdmit => ⟨.frm, 0x0030, 1, 1, 8, .curator⟩
  | .frmFault => ⟨.frm, 0x0038, 1, 1, 8, .curator⟩
  | .frmLimits => ⟨.frm, 0x0040, 1, 1, 8, .curator⟩
  | .frmMirror => ⟨.frm, 0x0100, 1, 1, 8, .curHostW1C⟩
  | .frmDigest => ⟨.frm, 0x0108, 1, 1, 8, .curHostW1C⟩
  | .frmPdigest => ⟨.frm, 0x0110, 1, 1, 8, .curHostW1C⟩
  | .frmResync => ⟨.frm, 0x0118, 1, 1, 8, .curHostW1C⟩
  | .frmWithdraw => ⟨.frm, 0x0120, 1, 1, 8, .curHostW1C⟩
  | .frmLenPend => ⟨.frm, 0x8000, 2048, 2048, 16384, .any⟩
  | .frmLenCommit => ⟨.frm, 0xC000, 2048, 2048, 16384, .curator⟩
  | .mbxData => ⟨.mbx, 0x0000, 64, 64, 512, .any⟩
  | .mbxStat => ⟨.mbx, 0x0200, 64, 64, 512, .none⟩
  | .mbxFull => ⟨.mbx, 0x0400, 1, 1, 8, .none⟩
  | .pwrStatus => ⟨.pwr, 0x0000, 1, 1, 8, .none⟩
  | .pwrLimit => ⟨.pwr, 0x0008, 1, 1, 8, .none⟩
  | .pwrShare => ⟨.pwr, 0x0010, 1, 1, 8, .none⟩
  | .pwrExc => ⟨.pwr, 0x0018, 1, 1, 8, .none⟩
  | .pwrEnFrame => ⟨.pwr, 0x0020, 1, 1, 8, .none⟩
  | .pwrEnJob => ⟨.pwr, 0x0028, 1, 1, 8, .none⟩
  | .pwrAssign => ⟨.pwr, 0x0030, 1, 1, 8, .coordinator⟩
  | .pwrRpt => ⟨.pwr, 0x0100, 32, 32, 256, .member⟩
  | .pwrCoef => ⟨.pwr, 0x0200, 16, 16, 128, .none⟩
  | .thmStatus => ⟨.thm, 0x0000, 1, 1, 8, .curatorOnlyRW⟩
  | .thmSel => ⟨.thm, 0x0008, 1, 1, 8, .curatorOnlyRW⟩
  | .thmData => ⟨.thm, 0x0010, 1, 1, 8, .curatorOnlyRW⟩
  | .thmStack => ⟨.thm, 0x0100, 16, 16, 128, .curatorOnlyRW⟩
  | .clkStatus => ⟨.clk, 0x0000, 1, 1, 8, .curator⟩
  | .clkDom => ⟨.clk, 0x0100, 18, 18, 144, .curator⟩
  | .clkStretch => ⟨.clk, 0x0200, 16, 16, 128, .curator⟩
  | .clkSkip => ⟨.clk, 0x0280, 16, 16, 128, .curator⟩
  | .clkXing => ⟨.clk, 0x0300, 24, 24, 192, .curator⟩
  | .ledHead => ⟨.led, 0x0000, 1, 1, 8, .none⟩
  | .ledOldest => ⟨.led, 0x0008, 1, 1, 8, .none⟩
  | .ledDrop => ⟨.led, 0x0010, 1, 1, 8, .none⟩
  | .ledCur => ⟨.led, 0x0100, 4, 4, 32, .noThread⟩
  | .ledWin => ⟨.led, 0x1000, 512, 512, 4096, .none⟩
  | .tstCtl => ⟨.tst, 0x0000, 1, 1, 8, .curHost⟩
  | .tstLambda => ⟨.tst, 0x0008, 1, 1, 8, .curHost⟩
  | .tstZf => ⟨.tst, 0x0010, 1, 1, 8, .curHost⟩
  | .tstBp => ⟨.tst, 0x0018, 1, 1, 8, .curHost⟩
  | .tstStretch => ⟨.tst, 0x0020, 1, 1, 8, .curHost⟩
  | .tstTimeout => ⟨.tst, 0x0028, 1, 1, 8, .curHost⟩
  | .tstParity => ⟨.tst, 0x0030, 1, 1, 8, .curHost⟩
  | .tstCount => ⟨.tst, 0x0038, 1, 1, 8, .curHost⟩
  | .plnStatus => ⟨.pln, 0x0000, 1, 1, 8, .curator⟩
  | .plnLaser => ⟨.pln, 0x0008, 2, 2, 16, .curator⟩
  | .plnTherm => ⟨.pln, 0x0018, 1, 1, 8, .curator⟩
  | .plnErr => ⟨.pln, 0x0020, 1, 1, 8, .curator⟩
  | .plnFecCorr => ⟨.pln, 0x0028, 1, 1, 8, .curator⟩
  | .plnRingSel => ⟨.pln, 0x0030, 1, 1, 8, .curator⟩
  | .plnRingData => ⟨.pln, 0x0038, 1, 1, 8, .curator⟩
  | .plnMapSel => ⟨.pln, 0x0040, 1, 1, 8, .curator⟩
  | .plnMapData => ⟨.pln, 0x0048, 1, 1, 8, .curator⟩
  | .plnBus => ⟨.pln, 0x0100, 56, 56, 448, .curator⟩
  | .plnSite => ⟨.pln, 0x0300, 10, 10, 80, .curator⟩
  | .plnCyc => ⟨.pln, 0x4000, 10, 1, 256, .curator⟩
  | .plnPmc => ⟨.pln, 0x4008, 80, 8, 256, .curator⟩
  | .plnPmsel => ⟨.pln, 0x4048, 80, 8, 256, .curator⟩
  | .plnPmctl => ⟨.pln, 0x4088, 10, 1, 256, .curator⟩
  | .plnBw => ⟨.pln, 0x5000, 56, 56, 448, .curator⟩
  | .memStatus => ⟨.mem, 0x0000, 1, 1, 8, .curator⟩
  | .memId => ⟨.mem, 0x0008, 1, 1, 8, .curator⟩
  | .memTemp => ⟨.mem, 0x0010, 1, 1, 8, .curator⟩
  | .memErr => ⟨.mem, 0x0018, 1, 1, 8, .curator⟩
  | .memErrAddr => ⟨.mem, 0x0020, 1, 1, 8, .curator⟩
  | .memStats => ⟨.mem, 0x0028, 1, 1, 8, .curator⟩
  | .memCmtCtl => ⟨.mem, 0x0030, 1, 1, 8, .curator⟩
  | .memChan => ⟨.mem, 0x0100, 32, 32, 256, .curator⟩
  | .memPoison => ⟨.mem, 0x0200, 32, 32, 256, .curator⟩
  | .memCyc => ⟨.mem, 0x4000, 1, 1, 256, .curator⟩
  | .memPmc => ⟨.mem, 0x4008, 8, 8, 256, .curator⟩
  | .memPmsel => ⟨.mem, 0x4048, 8, 8, 256, .curator⟩
  | .memPmctl => ⟨.mem, 0x4088, 1, 1, 256, .curator⟩
  | .memBw => ⟨.mem, 0x4100, 1, 1, 8, .curator⟩
  | .memCmt => ⟨.mem, 0x8000, 4096, 4096, 32768, .curator⟩
  | .prtStatus => ⟨.prt, 0x0000, 1, 1, 8, .none⟩
  | .prtRoute => ⟨.prt, 0x0008, 1, 1, 8, .none⟩
  | .prtTick => ⟨.prt, 0x0010, 1, 1, 8, .none⟩
  | .prtZfErr => ⟨.prt, 0x0018, 1, 1, 8, .none⟩
  | .prtZfBad => ⟨.prt, 0x0020, 1, 1, 8, .none⟩
  | .prtTelem => ⟨.prt, 0x0028, 1, 1, 8, .none⟩
  | .prtRtSel => ⟨.prt, 0x0030, 1, 1, 8, .curatorOnlyRW⟩
  | .prtRtLanes => ⟨.prt, 0x0038, 1, 1, 8, .none⟩
  | .prtRtFlags => ⟨.prt, 0x0040, 1, 1, 8, .none⟩
  | .prtLane => ⟨.prt, 0x0100, 17, 17, 136, .none⟩
  | .prtRmSeq => ⟨.prt, 0x0200, 1, 1, 8, .none⟩
  | .prtRmComb => ⟨.prt, 0x0208, 1, 1, 8, .none⟩
  | .prtRmAtom => ⟨.prt, 0x0210, 1, 1, 8, .none⟩
  | .prtRmOwn => ⟨.prt, 0x0218, 1, 1, 8, .none⟩
  | .prtLaneBw => ⟨.prt, 0x0400, 17, 17, 136, .none⟩
  | .prtCyc => ⟨.prt, 0x4000, 1, 1, 256, .curatorOnlyRW⟩
  | .prtPmc => ⟨.prt, 0x4008, 8, 8, 256, .curatorOnlyRW⟩
  | .prtPmsel => ⟨.prt, 0x4048, 8, 8, 256, .curatorOnlyRW⟩
  | .prtPmctl => ⟨.prt, 0x4088, 1, 1, 256, .curatorOnlyRW⟩
  | .prtDdrStatus => ⟨.prt, 0x8000, 2, 1, 64, .none⟩
  | .prtDdrErr => ⟨.prt, 0x8008, 2, 1, 64, .none⟩
  | .prtDdrErrAddr => ⟨.prt, 0x8010, 2, 1, 64, .none⟩
  | .prtDdrBw => ⟨.prt, 0x8018, 2, 1, 64, .none⟩
  | .cmpSpare => ⟨.cmp, 0x0100, 16, 16, 128, .curator⟩
  | .tileId => ⟨.tile, 0x0000, 1, 1, 8, .curator⟩
  | .tileSramMap => ⟨.tile, 0x0010, 1, 1, 8, .curator⟩
  | .tileCtl => ⟨.tile, 0x0018, 1, 1, 8, .curator⟩
  | .tileFault => ⟨.tile, 0x0020, 1, 1, 8, .curator⟩
  | .tileRemote => ⟨.tile, 0x0028, 1, 1, 8, .curator⟩
  | .tileArith => ⟨.tile, 0x0100, 1, 1, 8, .curator⟩
  | .tileThread => ⟨.tile, 0x0200, 8, 8, 64, .curator⟩
  | .tileCyc => ⟨.tile, 0x0300, 1, 1, 8, .curator⟩
  | .tilePmc => ⟨.tile, 0x0308, 8, 8, 64, .curator⟩
  | .tilePmsel => ⟨.tile, 0x0348, 8, 8, 64, .curator⟩
  | .tilePmctl => ⟨.tile, 0x0388, 1, 1, 8, .curator⟩

/-- The fields of every register, reserved bits left out. -/
def RegKind.fields : RegKind → List FieldSpec
  | .glbId => [⟨0, 16, .ro, .any⟩, ⟨16, 16, .ro, .any⟩, ⟨32, 8, .ro, .any⟩]
  | .glbCap => [⟨0, 16, .ro, .any⟩]
  | .glbStatus => [⟨0, 1, .ro, .any⟩, ⟨1, 1, .ro, .any⟩, ⟨2, 10, .cf, .any⟩, ⟨12, 12, .ro, .any⟩]
  | .glbReset => [⟨0, 4, .ro, .any⟩, ⟨4, 4, .ro, .any⟩, ⟨8, 10, .ro, .any⟩, ⟨18, 8, .ro, .any⟩]
  | .glbBwCtl => [⟨0, 10, .rw, .range 1 1000⟩, ⟨16, 48, .ro, .any⟩]
  | .glbQuad => [
      ⟨0, 2, .ro, .any⟩, ⟨2, 2, .ro, .any⟩, ⟨4, 4, .ro, .any⟩,
      ⟨8, 8, .ro, .any⟩, ⟨16, 1, .ro, .any⟩, ⟨17, 1, .ro, .any⟩,
      ⟨24, 8, .ro, .any⟩]
  | .glbSite => [
      ⟨0, 3, .ro, .any⟩, ⟨3, 1, .ro, .any⟩, ⟨4, 1, .ro, .any⟩,
      ⟨8, 4, .ro, .any⟩, ⟨16, 8, .ro, .any⟩, ⟨32, 16, .ro, .any⟩,
      ⟨48, 8, .ro, .any⟩]
  | .curStatus => [⟨0, 1, .ro, .any⟩, ⟨1, 1, .ro, .any⟩, ⟨2, 1, .ro, .any⟩, ⟨8, 8, .ro, .any⟩]
  | .curBoot => [
      ⟨0, 4, .ro, .any⟩, ⟨4, 4, .ro, .any⟩, ⟨8, 8, .ro, .any⟩,
      ⟨16, 16, .ro, .any⟩, ⟨32, 16, .ro, .any⟩]
  | .curCat => [
      ⟨0, 1, .ro, .any⟩, ⟨1, 1, .ro, .any⟩, ⟨2, 2, .ro, .any⟩,
      ⟨4, 4, .ro, .any⟩, ⟨8, 4, .ro, .any⟩, ⟨16, 16, .ro, .any⟩,
      ⟨32, 16, .ro, .any⟩, ⟨48, 16, .ro, .any⟩]
  | .curIdent => [⟨0, 64, .ro, .any⟩]
  | .curXferCtl => [⟨0, 4, .ro, .any⟩, ⟨4, 1, .ro, .any⟩, ⟨16, 16, .ro, .any⟩]
  | .curCmd => [
      ⟨0, 2, .ro, .any⟩, ⟨8, 8, .ro, .any⟩, ⟨16, 8, .ro, .any⟩,
      ⟨24, 4, .ro, .any⟩, ⟨32, 32, .ro, .any⟩]
  | .curRes => [⟨0, 64, .ro, .any⟩]
  | .curWear => [⟨0, 16, .ro, .any⟩, ⟨16, 16, .ro, .any⟩, ⟨32, 16, .ro, .any⟩]
  | .curParam => [⟨0, 64, .rw, .any⟩]
  | .curXfer => [⟨0, 64, .rw, .any⟩]
  | .frmState => [⟨0, 4, .ro, .any⟩, ⟨4, 4, .ro, .any⟩, ⟨8, 4, .ro, .any⟩, ⟨12, 4, .ro, .any⟩]
  | .frmFrame => [⟨0, 64, .ro, .any⟩]
  | .frmCommitted => [⟨0, 64, .ro, .any⟩]
  | .frmConfig => [
      ⟨0, 11, .ro, .any⟩, ⟨11, 5, .ro, .any⟩, ⟨16, 5, .ro, .any⟩,
      ⟨32, 10, .ro, .any⟩, ⟨42, 11, .ro, .any⟩]
  | .frmTiming => [⟨0, 16, .ro, .any⟩, ⟨16, 16, .ro, .any⟩, ⟨32, 16, .ro, .any⟩]
  | .frmHold => [
      ⟨0, 4, .ro, .any⟩, ⟨4, 4, .ro, .any⟩, ⟨8, 4, .ro, .any⟩,
      ⟨12, 1, .ro, .any⟩, ⟨16, 10, .ro, .any⟩, ⟨32, 32, .ro, .any⟩]
  | .frmAdmit => [⟨0, 8, .ro, .any⟩, ⟨8, 12, .ro, .any⟩, ⟨32, 32, .ro, .any⟩]
  | .frmFault => [⟨0, 4, .ro, .any⟩, ⟨4, 10, .ro, .any⟩, ⟨14, 1, .w1c, .any⟩]
  | .frmLimits => [⟨0, 10, .cf, .any⟩, ⟨10, 4, .cf, .any⟩]
  | .frmMirror => [
      ⟨0, 10, .ro, .any⟩, ⟨10, 2, .ro, .any⟩, ⟨12, 3, .ro, .any⟩,
      ⟨15, 2, .ro, .any⟩, ⟨17, 3, .ro, .any⟩, ⟨20, 1, .ro, .any⟩,
      ⟨32, 16, .ro, .any⟩, ⟨48, 16, .ro, .any⟩]
  | .frmDigest => [⟨0, 64, .ro, .any⟩]
  | .frmPdigest => [⟨0, 64, .ro, .any⟩]
  | .frmResync => [⟨0, 40, .ro, .any⟩, ⟨40, 16, .ro, .any⟩, ⟨56, 2, .ro, .any⟩]
  | .frmWithdraw => [⟨0, 4, .ro, .any⟩, ⟨4, 1, .w1c, .any⟩, ⟨16, 48, .ro, .any⟩]
  | .frmLenPend => [⟨0, 48, .rw, .any⟩]
  | .frmLenCommit => [⟨0, 48, .ro, .any⟩]
  | .mbxData => [⟨0, 64, .rw, .any⟩]
  | .mbxStat => [
      ⟨0, 1, .ro, .any⟩, ⟨1, 4, .ro, .any⟩, ⟨16, 10, .ro, .any⟩,
      ⟨26, 8, .ro, .any⟩, ⟨34, 14, .ro, .any⟩, ⟨48, 16, .rc, .any⟩]
  | .mbxFull => [⟨0, 64, .ro, .any⟩]
  | .pwrStatus => [
      ⟨0, 12, .ro, .any⟩, ⟨12, 12, .ro, .any⟩, ⟨24, 12, .ro, .any⟩,
      ⟨36, 2, .ro, .any⟩, ⟨38, 5, .ro, .any⟩]
  | .pwrLimit => [⟨0, 11, .cf, .any⟩, ⟨11, 11, .cf, .any⟩, ⟨22, 11, .ro, .any⟩, ⟨33, 1, .ro, .any⟩]
  | .pwrShare => [⟨0, 11, .ro, .any⟩, ⟨11, 11, .ro, .any⟩, ⟨22, 11, .ro, .any⟩, ⟨33, 11, .ro, .any⟩]
  | .pwrExc => [⟨0, 16, .rc, .any⟩, ⟨16, 8, .ro, .any⟩, ⟨24, 16, .rc, .any⟩, ⟨40, 16, .rc, .any⟩]
  | .pwrEnFrame => [⟨0, 16, .ro, .any⟩, ⟨16, 16, .ro, .any⟩, ⟨32, 16, .ro, .any⟩, ⟨48, 16, .ro, .any⟩]
  | .pwrEnJob => [⟨0, 32, .ro, .any⟩, ⟨32, 32, .ro, .any⟩]
  | .pwrAssign => [⟨0, 11, .rw, .any⟩, ⟨16, 16, .rw, .any⟩]
  | .pwrRpt => [
      ⟨0, 16, .rw, .any⟩, ⟨16, 12, .rw, .any⟩, ⟨28, 11, .rw, .any⟩,
      ⟨39, 1, .rw, .any⟩, ⟨48, 16, .rw, .any⟩]
  | .pwrCoef => [⟨0, 32, .cf, .any⟩]
  | .thmStatus => [
      ⟨0, 8, .ro, .any⟩, ⟨8, 8, .ro, .any⟩, ⟨16, 8, .ro, .any⟩,
      ⟨24, 8, .ro, .any⟩, ⟨32, 4, .ro, .any⟩, ⟨36, 1, .ro, .any⟩,
      ⟨38, 10, .ro, .any⟩, ⟨48, 10, .ro, .any⟩]
  | .thmSel => [⟨0, 10, .rw, .range 0 591⟩]
  | .thmData => [
      ⟨0, 12, .ro, .any⟩, ⟨12, 12, .ro, .any⟩, ⟨24, 2, .ro, .any⟩,
      ⟨26, 1, .ro, .any⟩, ⟨28, 8, .ro, .any⟩]
  | .thmStack => [
      ⟨0, 8, .ro, .any⟩, ⟨8, 8, .ro, .any⟩, ⟨16, 8, .ro, .any⟩,
      ⟨24, 4, .ro, .any⟩, ⟨28, 1, .ro, .any⟩, ⟨29, 1, .ro, .any⟩,
      ⟨32, 8, .ro, .any⟩, ⟨40, 16, .rc, .any⟩]
  | .clkStatus => [
      ⟨0, 1, .ro, .any⟩, ⟨1, 1, .ro, .any⟩, ⟨2, 1, .ro, .any⟩,
      ⟨16, 16, .ro, .any⟩, ⟨32, 16, .ro, .any⟩]
  | .clkDom => [
      ⟨0, 6, .ro, .any⟩, ⟨6, 6, .rw, .any⟩, ⟨12, 6, .cf, .any⟩,
      ⟨18, 3, .ro, .any⟩, ⟨21, 2, .ro, .any⟩, ⟨23, 1, .ro, .any⟩,
      ⟨24, 1, .ro, .any⟩, ⟨25, 1, .ro, .any⟩, ⟨26, 1, .wo, .any⟩,
      ⟨32, 11, .ro, .any⟩]
  | .clkStretch => [⟨0, 48, .ro, .any⟩, ⟨48, 16, .rc, .any⟩]
  | .clkSkip => [⟨0, 48, .ro, .any⟩, ⟨48, 4, .ro, .any⟩]
  | .clkXing => [⟨0, 2, .ro, .any⟩, ⟨8, 8, .ro, .any⟩, ⟨16, 16, .ro, .any⟩, ⟨32, 16, .rc, .any⟩]
  | .ledHead => [⟨0, 64, .ro, .any⟩]
  | .ledOldest => [⟨0, 64, .ro, .any⟩]
  | .ledDrop => [⟨0, 16, .rc, .any⟩, ⟨16, 16, .rc, .any⟩, ⟨32, 16, .rc, .any⟩, ⟨48, 16, .rc, .any⟩]
  | .ledCur => [⟨0, 48, .rw, .any⟩, ⟨48, 1, .ro, .any⟩]
  | .ledWin => [⟨0, 64, .ro, .any⟩]
  | .tstCtl => [⟨0, 1, .ro, .any⟩, ⟨1, 1, .rw, .any⟩]
  | .tstLambda => [
      ⟨0, 8, .rw, .range 0 223⟩, ⟨8, 6, .rw, .range 0 59⟩, ⟨14, 8, .rw, .any⟩,
      ⟨22, 1, .rw, .any⟩]
  | .tstZf => [
      ⟨0, 2, .rw, .any⟩, ⟨2, 4, .rw, .any⟩, ⟨6, 10, .rw, .any⟩,
      ⟨16, 1, .rw, .any⟩, ⟨17, 1, .rw, .any⟩]
  | .tstBp => [
      ⟨0, 5, .rw, .range 0 19⟩, ⟨5, 7, .rw, .range 0 100⟩, ⟨12, 2, .rw, .any⟩,
      ⟨14, 7, .rw, .range 0 100⟩]
  | .tstStretch => [⟨0, 4, .rw, .any⟩, ⟨4, 12, .rw, .range 1 4095⟩, ⟨16, 16, .rw, .range 1 65535⟩, ⟨32, 1, .rw, .any⟩]
  | .tstTimeout => [⟨0, 4, .rw, .range 0 8⟩]
  | .tstParity => [⟨0, 3, .rw, .range 1 5⟩, ⟨3, 5, .rw, .any⟩, ⟨8, 9, .rw, .range 0 271⟩, ⟨17, 1, .rw, .any⟩]
  | .tstCount => [⟨0, 32, .rc, .any⟩, ⟨32, 32, .rc, .any⟩]
  | .plnStatus => [⟨0, 2, .ro, .any⟩, ⟨2, 1, .ro, .any⟩, ⟨3, 1, .ro, .any⟩, ⟨8, 7, .ro, .any⟩]
  | .plnLaser => [
      ⟨0, 3, .ro, .any⟩, ⟨3, 1, .ro, .any⟩, ⟨4, 1, .ro, .any⟩,
      ⟨8, 8, .ro, .any⟩, ⟨16, 6, .ro, .any⟩, ⟨22, 6, .ro, .any⟩,
      ⟨32, 32, .ro, .any⟩]
  | .plnTherm => [⟨0, 4, .ro, .any⟩, ⟨4, 1, .ro, .any⟩]
  | .plnErr => [⟨0, 16, .rc, .any⟩, ⟨16, 16, .rc, .any⟩, ⟨32, 16, .rc, .any⟩, ⟨48, 16, .rc, .any⟩]
  | .plnFecCorr => [⟨0, 64, .ro, .any⟩]
  | .plnRingSel => [⟨0, 6, .rw, .any⟩, ⟨8, 8, .rw, .range 0 223⟩]
  | .plnRingData => [⟨0, 64, .ro, .any⟩]
  | .plnMapSel => [⟨0, 6, .rw, .range 0 55⟩, ⟨8, 6, .rw, .range 0 59⟩]
  | .plnMapData => [⟨0, 6, .ro, .any⟩, ⟨6, 1, .ro, .any⟩, ⟨8, 8, .ro, .any⟩]
  | .plnBus => [
      ⟨0, 6, .ro, .any⟩, ⟨6, 7, .ro, .any⟩, ⟨13, 6, .ro, .any⟩,
      ⟨19, 1, .ro, .any⟩, ⟨20, 1, .ro, .any⟩, ⟨21, 4, .ro, .any⟩,
      ⟨32, 16, .ro, .any⟩]
  | .plnSite => [⟨0, 10, .ro, .any⟩, ⟨10, 10, .ro, .any⟩, ⟨20, 10, .ro, .any⟩, ⟨32, 16, .ro, .any⟩]
  | .plnCyc => [⟨0, 64, .ro, .any⟩]
  | .plnPmc => [⟨0, 48, .rw, .any⟩]
  | .plnPmsel => [⟨0, 8, .rw, .range 0 8⟩, ⟨8, 6, .rw, .any⟩, ⟨16, 1, .w1c, .any⟩]
  | .plnPmctl => [⟨0, 1, .rw, .any⟩]
  | .plnBw => [⟨0, 32, .ro, .any⟩]
  | .memStatus => [
      ⟨0, 2, .ro, .any⟩, ⟨2, 6, .ro, .any⟩, ⟨8, 3, .ro, .any⟩,
      ⟨11, 2, .ro, .any⟩, ⟨13, 1, .ro, .any⟩]
  | .memId => [⟨0, 8, .ro, .any⟩, ⟨8, 5, .ro, .any⟩, ⟨16, 16, .ro, .any⟩, ⟨32, 32, .ro, .any⟩]
  | .memTemp => [⟨0, 8, .ro, .any⟩, ⟨8, 8, .ro, .any⟩]
  | .memErr => [⟨0, 16, .rc, .any⟩, ⟨16, 16, .rc, .any⟩, ⟨32, 16, .rc, .any⟩, ⟨48, 16, .rc, .any⟩]
  | .memErrAddr => [⟨0, 5, .ro, .any⟩, ⟨5, 3, .ro, .any⟩, ⟨8, 1, .w1c, .any⟩, ⟨10, 25, .ro, .any⟩]
  | .memStats => [⟨0, 48, .ro, .any⟩]
  | .memCmtCtl => [⟨0, 1, .ro, .any⟩, ⟨1, 10, .ro, .any⟩, ⟨11, 1, .ro, .any⟩]
  | .memChan => [
      ⟨0, 3, .ro, .any⟩, ⟨3, 5, .ro, .any⟩, ⟨8, 8, .ro, .any⟩,
      ⟨16, 24, .ro, .any⟩, ⟨40, 16, .ro, .any⟩]
  | .memPoison => [⟨0, 64, .ro, .any⟩]
  | .memCyc => [⟨0, 64, .ro, .any⟩]
  | .memPmc => [⟨0, 48, .rw, .any⟩]
  | .memPmsel => [⟨0, 8, .rw, .range 0 7⟩, ⟨8, 6, .rw, .any⟩, ⟨16, 1, .w1c, .any⟩]
  | .memPmctl => [⟨0, 1, .rw, .any⟩]
  | .memBw => [⟨0, 32, .ro, .any⟩, ⟨32, 32, .ro, .any⟩]
  | .memCmt => [⟨0, 5, .rw, .any⟩, ⟨5, 5, .rw, .range 0 19⟩, ⟨10, 1, .rw, .any⟩]
  | .prtStatus => [
      ⟨0, 5, .cf, .any⟩, ⟨5, 5, .cf, .any⟩, ⟨10, 1, .cf, .any⟩,
      ⟨11, 1, .cf, .any⟩, ⟨12, 1, .cf, .any⟩, ⟨13, 1, .cf, .any⟩,
      ⟨16, 5, .ro, .any⟩]
  | .prtRoute => [⟨0, 1, .ro, .any⟩, ⟨1, 1, .ro, .any⟩, ⟨16, 16, .ro, .any⟩]
  | .prtTick => [⟨0, 2, .ro, .any⟩, ⟨16, 16, .ro, .any⟩, ⟨32, 32, .ro, .any⟩]
  | .prtZfErr => [⟨0, 16, .rc, .any⟩, ⟨16, 16, .rc, .any⟩, ⟨32, 16, .rc, .any⟩, ⟨48, 16, .rc, .any⟩]
  | .prtZfBad => [
      ⟨0, 4, .ro, .any⟩, ⟨4, 4, .ro, .any⟩, ⟨8, 1, .w1c, .any⟩,
      ⟨16, 10, .ro, .any⟩, ⟨26, 6, .ro, .any⟩]
  | .prtTelem => [⟨0, 1, .cf, .any⟩, ⟨1, 5, .cf, .any⟩, ⟨16, 32, .rc, .any⟩]
  | .prtRtSel => [⟨0, 10, .rw, .any⟩, ⟨10, 1, .rw, .any⟩]
  | .prtRtLanes => [⟨0, 64, .ro, .any⟩]
  | .prtRtFlags => [⟨0, 1, .ro, .any⟩, ⟨1, 1, .ro, .any⟩]
  | .prtLane => [
      ⟨0, 3, .ro, .any⟩, ⟨3, 2, .cf, .any⟩, ⟨5, 4, .ro, .any⟩,
      ⟨9, 1, .ro, .any⟩, ⟨10, 6, .ro, .any⟩, ⟨16, 4, .ro, .any⟩,
      ⟨20, 10, .ro, .any⟩, ⟨32, 16, .rc, .any⟩, ⟨48, 12, .ro, .any⟩]
  | .prtRmSeq => [⟨0, 14, .ro, .any⟩, ⟨16, 16, .rc, .any⟩, ⟨32, 16, .rc, .any⟩, ⟨48, 16, .rc, .any⟩]
  | .prtRmComb => [⟨0, 9, .ro, .any⟩, ⟨16, 32, .ro, .any⟩, ⟨48, 16, .rc, .any⟩]
  | .prtRmAtom => [⟨0, 15, .ro, .any⟩, ⟨16, 16, .rc, .any⟩, ⟨32, 16, .rc, .any⟩, ⟨48, 16, .rc, .any⟩]
  | .prtRmOwn => [
      ⟨0, 10, .ro, .any⟩, ⟨10, 4, .ro, .any⟩, ⟨14, 1, .w1c, .any⟩,
      ⟨16, 31, .ro, .any⟩, ⟨48, 16, .ro, .any⟩]
  | .prtLaneBw => [⟨0, 32, .ro, .any⟩, ⟨32, 32, .ro, .any⟩]
  | .prtCyc => [⟨0, 64, .ro, .any⟩]
  | .prtPmc => [⟨0, 48, .rw, .any⟩]
  | .prtPmsel => [⟨0, 8, .rw, .range 0 9⟩, ⟨8, 6, .rw, .any⟩, ⟨16, 1, .w1c, .any⟩]
  | .prtPmctl => [⟨0, 1, .rw, .any⟩]
  | .prtDdrStatus => [
      ⟨0, 3, .ro, .any⟩, ⟨3, 2, .ro, .any⟩, ⟨8, 10, .ro, .any⟩,
      ⟨18, 2, .ro, .any⟩, ⟨20, 1, .ro, .any⟩, ⟨21, 3, .ro, .any⟩,
      ⟨24, 8, .ro, .any⟩]
  | .prtDdrErr => [⟨0, 24, .ro, .any⟩, ⟨24, 16, .rc, .any⟩, ⟨40, 16, .rc, .any⟩]
  | .prtDdrErrAddr => [⟨0, 3, .ro, .any⟩, ⟨3, 1, .w1c, .any⟩, ⟨8, 33, .ro, .any⟩]
  | .prtDdrBw => [⟨0, 32, .ro, .any⟩, ⟨32, 32, .ro, .any⟩]
  | .cmpSpare => [⟨0, 5, .rw, .rangeOr 0 15 31⟩, ⟨5, 1, .ro, .any⟩]
  | .tileId => [
      ⟨0, 4, .ro, .any⟩, ⟨4, 4, .ro, .any⟩, ⟨8, 5, .ro, .any⟩,
      ⟨13, 4, .ro, .any⟩, ⟨17, 4, .ro, .any⟩, ⟨21, 3, .ro, .any⟩]
  | .tileSramMap => [⟨0, 5, .rw, .range 0 16⟩, ⟨8, 5, .rw, .range 0 16⟩, ⟨16, 1, .ro, .any⟩]
  | .tileCtl => [
      ⟨0, 3, .rw, .any⟩, ⟨8, 8, .rw, .range 240 255⟩, ⟨16, 8, .rw, .range 240 255⟩,
      ⟨32, 16, .rw, .any⟩, ⟨48, 1, .ro, .any⟩]
  | .tileFault => [
      ⟨0, 4, .ro, .any⟩, ⟨4, 3, .ro, .any⟩, ⟨7, 1, .w1c, .any⟩,
      ⟨8, 24, .ro, .any⟩, ⟨32, 16, .ro, .any⟩, ⟨48, 16, .ro, .any⟩]
  | .tileRemote => [⟨0, 16, .ro, .any⟩, ⟨16, 16, .ro, .any⟩, ⟨32, 16, .ro, .any⟩, ⟨48, 8, .ro, .any⟩]
  | .tileArith => [⟨0, 16, .ro, .any⟩, ⟨16, 16, .ro, .any⟩, ⟨32, 16, .ro, .any⟩, ⟨48, 16, .ro, .any⟩]
  | .tileThread => [⟨0, 4, .ro, .any⟩, ⟨4, 1, .ro, .any⟩, ⟨8, 24, .ro, .any⟩]
  | .tileCyc => [⟨0, 64, .ro, .any⟩]
  | .tilePmc => [⟨0, 48, .rw, .any⟩]
  | .tilePmsel => [
      ⟨0, 8, .rw, .range 0 18⟩, ⟨8, 4, .rw, .range 0 8⟩, ⟨12, 1, .rw, .any⟩,
      ⟨13, 3, .rw, .any⟩, ⟨16, 1, .w1c, .any⟩]
  | .tilePmctl => [⟨0, 1, .rw, .any⟩, ⟨8, 24, .rw, .any⟩]

/-- The constant part of a register's reset value: the Reset columns of the maps. (DESIGN CHOICE, log entry 11) -/
def RegKind.reset0 : RegKind → Nat
  | .glbId => 0xB207A11
  | .glbBwCtl => 0x64
  | .frmTiming => 0xFFFF0000
  | .frmAdmit => 0xFFF00
  | .frmMirror => 0x3FF
  | .clkDom => 0x79E
  | .cmpSpare => 0x1F
  | .tileCtl => 0xF1F000
  | _ => 0

/-- A field of a register, by name. -/
structure Fld where
  kind : RegKind
  lo : Nat
  w : Nat
  deriving DecidableEq, Repr

namespace F

def glbIdVendor : Fld := ⟨.glbId, 0, 16⟩
def glbIdPart : Fld := ⟨.glbId, 16, 16⟩
def glbIdBoardRev : Fld := ⟨.glbId, 32, 8⟩
def glbCapCap : Fld := ⟨.glbCap, 0, 16⟩
def glbStatusReady : Fld := ⟨.glbStatus, 0, 1⟩
def glbStatusAlert : Fld := ⟨.glbStatus, 1, 1⟩
def glbStatusDeviceNo : Fld := ⟨.glbStatus, 2, 10⟩
def glbStatusAlarmsUnack : Fld := ⟨.glbStatus, 12, 12⟩
def glbResetCause : Fld := ⟨.glbReset, 0, 4⟩
def glbResetPrev : Fld := ⟨.glbReset, 4, 4⟩
def glbResetSensor : Fld := ⟨.glbReset, 8, 10⟩
def glbResetReading : Fld := ⟨.glbReset, 18, 8⟩
def glbBwCtlWindowUs : Fld := ⟨.glbBwCtl, 0, 10⟩
def glbBwCtlWindows : Fld := ⟨.glbBwCtl, 16, 48⟩
def glbQuadStrap : Fld := ⟨.glbQuad, 0, 2⟩
def glbQuadPlace : Fld := ⟨.glbQuad, 2, 2⟩
def glbQuadStatus : Fld := ⟨.glbQuad, 4, 4⟩
def glbQuadEdgeMap : Fld := ⟨.glbQuad, 8, 8⟩
def glbQuadRevNs : Fld := ⟨.glbQuad, 16, 1⟩
def glbQuadRevEw : Fld := ⟨.glbQuad, 17, 1⟩
def glbQuadStepping : Fld := ⟨.glbQuad, 24, 8⟩
def glbSiteKind : Fld := ⟨.glbSite, 0, 3⟩
def glbSiteStrap : Fld := ⟨.glbSite, 3, 1⟩
def glbSiteRot : Fld := ⟨.glbSite, 4, 1⟩
def glbSiteStatus : Fld := ⟨.glbSite, 8, 4⟩
def glbSiteStepping : Fld := ⟨.glbSite, 16, 8⟩
def glbSiteCap : Fld := ⟨.glbSite, 32, 16⟩
def glbSiteEdgeMap : Fld := ⟨.glbSite, 48, 8⟩
def curStatusActive : Fld := ⟨.curStatus, 0, 1⟩
def curStatusStandbyOk : Fld := ⟨.curStatus, 1, 1⟩
def curStatusFwRunning : Fld := ⟨.curStatus, 2, 1⟩
def curStatusTakeovers : Fld := ⟨.curStatus, 8, 8⟩
def curBootStep : Fld := ⟨.curBoot, 0, 4⟩
def curBootFailStep : Fld := ⟨.curBoot, 4, 4⟩
def curBootFailCode : Fld := ⟨.curBoot, 8, 8⟩
def curBootReadyMs : Fld := ⟨.curBoot, 16, 16⟩
def curBootStarts : Fld := ⟨.curBoot, 32, 16⟩
def curCatSlot : Fld := ⟨.curCat, 0, 1⟩
def curCatFallback : Fld := ⟨.curCat, 1, 1⟩
def curCatIdent : Fld := ⟨.curCat, 2, 2⟩
def curCatAResult : Fld := ⟨.curCat, 4, 4⟩
def curCatBResult : Fld := ⟨.curCat, 8, 4⟩
def curCatVersion : Fld := ⟨.curCat, 16, 16⟩
def curCatFloor : Fld := ⟨.curCat, 32, 16⟩
def curCatFloorSeen : Fld := ⟨.curCat, 48, 16⟩
def curIdentDeviceId : Fld := ⟨.curIdent, 0, 64⟩
def curXferCtlOwner : Fld := ⟨.curXferCtl, 0, 4⟩
def curXferCtlHeld : Fld := ⟨.curXferCtl, 4, 1⟩
def curXferCtlLength : Fld := ⟨.curXferCtl, 16, 16⟩
def curCmdState : Fld := ⟨.curCmd, 0, 2⟩
def curCmdOp : Fld := ⟨.curCmd, 8, 8⟩
def curCmdTag : Fld := ⟨.curCmd, 16, 8⟩
def curCmdCode : Fld := ⟨.curCmd, 24, 4⟩
def curCmdResult : Fld := ⟨.curCmd, 32, 32⟩
def curResData : Fld := ⟨.curRes, 0, 64⟩
def curWearLeftMin : Fld := ⟨.curWear, 0, 16⟩
def curWearUnitsEmpty : Fld := ⟨.curWear, 16, 16⟩
def curWearAccessions : Fld := ⟨.curWear, 32, 16⟩
def curParamValue : Fld := ⟨.curParam, 0, 64⟩
def curXferData : Fld := ⟨.curXfer, 0, 64⟩
def frmStateJob : Fld := ⟨.frmState, 0, 4⟩
def frmStateStep : Fld := ⟨.frmState, 4, 4⟩
def frmStatePhase : Fld := ⟨.frmState, 8, 4⟩
def frmStateProgram : Fld := ⟨.frmState, 12, 4⟩
def frmFrameFrame : Fld := ⟨.frmFrame, 0, 64⟩
def frmCommittedCount : Fld := ⟨.frmCommitted, 0, 64⟩
def frmConfigPeriodUs : Fld := ⟨.frmConfig, 0, 11⟩
def frmConfigPhases : Fld := ⟨.frmConfig, 11, 5⟩
def frmConfigPrograms : Fld := ⟨.frmConfig, 16, 5⟩
def frmConfigDevice : Fld := ⟨.frmConfig, 32, 10⟩
def frmConfigDevices : Fld := ⟨.frmConfig, 42, 11⟩
def frmTimingEowLast : Fld := ⟨.frmTiming, 0, 16⟩
def frmTimingSlackMin : Fld := ⟨.frmTiming, 16, 16⟩
def frmTimingMisses : Fld := ⟨.frmTiming, 32, 16⟩
def frmHoldConsec : Fld := ⟨.frmHold, 0, 4⟩
def frmHoldLimit : Fld := ⟨.frmHold, 4, 4⟩
def frmHoldLastReason : Fld := ⟨.frmHold, 8, 4⟩
def frmHoldLastLate : Fld := ⟨.frmHold, 12, 1⟩
def frmHoldLastRaiser : Fld := ⟨.frmHold, 16, 10⟩
def frmHoldTotal : Fld := ⟨.frmHold, 32, 32⟩
def frmAdmitReason : Fld := ⟨.frmAdmit, 0, 8⟩
def frmAdmitSection : Fld := ⟨.frmAdmit, 8, 12⟩
def frmAdmitDetail : Fld := ⟨.frmAdmit, 32, 32⟩
def frmFaultCause : Fld := ⟨.frmFault, 0, 4⟩
def frmFaultDevice : Fld := ⟨.frmFault, 4, 10⟩
def frmFaultValid : Fld := ⟨.frmFault, 14, 1⟩
def frmLimitsMinSlack : Fld := ⟨.frmLimits, 0, 10⟩
def frmLimitsHoldBudget : Fld := ⟨.frmLimits, 10, 4⟩
def frmMirrorPartner : Fld := ⟨.frmMirror, 0, 10⟩
def frmMirrorRole : Fld := ⟨.frmMirror, 10, 2⟩
def frmMirrorSync : Fld := ⟨.frmMirror, 12, 3⟩
def frmMirrorCount : Fld := ⟨.frmMirror, 15, 2⟩
def frmMirrorMissed : Fld := ⟨.frmMirror, 17, 3⟩
def frmMirrorAlias : Fld := ⟨.frmMirror, 20, 1⟩
def frmMirrorSwitches : Fld := ⟨.frmMirror, 32, 16⟩
def frmMirrorMismatches : Fld := ⟨.frmMirror, 48, 16⟩
def frmDigestDigest : Fld := ⟨.frmDigest, 0, 64⟩
def frmPdigestDigest : Fld := ⟨.frmPdigest, 0, 64⟩
def frmResyncCopied : Fld := ⟨.frmResync, 0, 40⟩
def frmResyncBacklog : Fld := ⟨.frmResync, 40, 16⟩
def frmResyncRestarts : Fld := ⟨.frmResync, 56, 2⟩
def frmWithdrawCause : Fld := ⟨.frmWithdraw, 0, 4⟩
def frmWithdrawValid : Fld := ⟨.frmWithdraw, 4, 1⟩
def frmWithdrawTick : Fld := ⟨.frmWithdraw, 16, 48⟩
def frmLenPendLength : Fld := ⟨.frmLenPend, 0, 48⟩
def frmLenCommitLength : Fld := ⟨.frmLenCommit, 0, 48⟩
def mbxDataWord : Fld := ⟨.mbxData, 0, 64⟩
def mbxStatFull : Fld := ⟨.mbxStat, 0, 1⟩
def mbxStatWaiters : Fld := ⟨.mbxStat, 1, 4⟩
def mbxStatWriter : Fld := ⟨.mbxStat, 16, 10⟩
def mbxStatWseng : Fld := ⟨.mbxStat, 26, 8⟩
def mbxStatAccepts : Fld := ⟨.mbxStat, 34, 14⟩
def mbxStatRejects : Fld := ⟨.mbxStat, 48, 16⟩
def mbxFullFull : Fld := ⟨.mbxFull, 0, 64⟩
def pwrStatusP1ms : Fld := ⟨.pwrStatus, 0, 12⟩
def pwrStatusP1s : Fld := ⟨.pwrStatus, 12, 12⟩
def pwrStatusP10s : Fld := ⟨.pwrStatus, 24, 12⟩
def pwrStatusState : Fld := ⟨.pwrStatus, 36, 2⟩
def pwrStatusExcMs : Fld := ⟨.pwrStatus, 38, 5⟩
def pwrLimitSustained : Fld := ⟨.pwrLimit, 0, 11⟩
def pwrLimitCeiling : Fld := ⟨.pwrLimit, 11, 11⟩
def pwrLimitEffective : Fld := ⟨.pwrLimit, 22, 11⟩
def pwrLimitCoord : Fld := ⟨.pwrLimit, 33, 1⟩
def pwrShareCompute : Fld := ⟨.pwrShare, 0, 11⟩
def pwrShareMemory : Fld := ⟨.pwrShare, 11, 11⟩
def pwrShareLinks : Fld := ⟨.pwrShare, 22, 11⟩
def pwrShareBudget : Fld := ⟨.pwrShare, 33, 11⟩
def pwrExcExcursions : Fld := ⟨.pwrExc, 0, 16⟩
def pwrExcLongest : Fld := ⟨.pwrExc, 16, 8⟩
def pwrExcBrakes : Fld := ⟨.pwrExc, 24, 16⟩
def pwrExcFloorEvents : Fld := ⟨.pwrExc, 40, 16⟩
def pwrEnFrameCompute : Fld := ⟨.pwrEnFrame, 0, 16⟩
def pwrEnFrameMemory : Fld := ⟨.pwrEnFrame, 16, 16⟩
def pwrEnFrameLinks : Fld := ⟨.pwrEnFrame, 32, 16⟩
def pwrEnFrameTotal : Fld := ⟨.pwrEnFrame, 48, 16⟩
def pwrEnJobModel : Fld := ⟨.pwrEnJob, 0, 32⟩
def pwrEnJobMeasured : Fld := ⟨.pwrEnJob, 32, 32⟩
def pwrAssignLimit : Fld := ⟨.pwrAssign, 0, 11⟩
def pwrAssignSeq : Fld := ⟨.pwrAssign, 16, 16⟩
def pwrRptSlackMin : Fld := ⟨.pwrRpt, 0, 16⟩
def pwrRptPower : Fld := ⟨.pwrRpt, 16, 12⟩
def pwrRptLimit : Fld := ⟨.pwrRpt, 28, 11⟩
def pwrRptThrottled : Fld := ⟨.pwrRpt, 39, 1⟩
def pwrRptSeq : Fld := ⟨.pwrRpt, 48, 16⟩
def pwrCoefValue : Fld := ⟨.pwrCoef, 0, 32⟩
def thmStatusHotLogic : Fld := ⟨.thmStatus, 0, 8⟩
def thmStatusHotSram : Fld := ⟨.thmStatus, 8, 8⟩
def thmStatusHotPlinth : Fld := ⟨.thmStatus, 16, 8⟩
def thmStatusHotPort : Fld := ⟨.thmStatus, 24, 8⟩
def thmStatusHotStack : Fld := ⟨.thmStatus, 32, 4⟩
def thmStatusFast : Fld := ⟨.thmStatus, 36, 1⟩
def thmStatusFailed : Fld := ⟨.thmStatus, 38, 10⟩
def thmStatusSuspect : Fld := ⟨.thmStatus, 48, 10⟩
def thmSelSensor : Fld := ⟨.thmSel, 0, 10⟩
def thmDataTemp : Fld := ⟨.thmData, 0, 12⟩
def thmDataEst : Fld := ⟨.thmData, 12, 12⟩
def thmDataState : Fld := ⟨.thmData, 24, 2⟩
def thmDataFast : Fld := ⟨.thmData, 26, 1⟩
def thmDataRate : Fld := ⟨.thmData, 28, 8⟩
def thmStackLogic : Fld := ⟨.thmStack, 0, 8⟩
def thmStackSram : Fld := ⟨.thmStack, 8, 8⟩
def thmStackPlinth : Fld := ⟨.thmStack, 16, 8⟩
def thmStackKTherm : Fld := ⟨.thmStack, 24, 4⟩
def thmStackDiv4 : Fld := ⟨.thmStack, 28, 1⟩
def thmStackFast : Fld := ⟨.thmStack, 29, 1⟩
def thmStackSuspect : Fld := ⟨.thmStack, 32, 8⟩
def thmStackSoftEvents : Fld := ⟨.thmStack, 40, 16⟩
def clkStatusRef : Fld := ⟨.clkStatus, 0, 1⟩
def clkStatusRefOk : Fld := ⟨.clkStatus, 1, 1⟩
def clkStatusTickHo : Fld := ⟨.clkStatus, 2, 1⟩
def clkStatusRefLosses : Fld := ⟨.clkStatus, 16, 16⟩
def clkStatusHoMs : Fld := ⟨.clkStatus, 32, 16⟩
def clkDomStep : Fld := ⟨.clkDom, 0, 6⟩
def clkDomTarget : Fld := ⟨.clkDom, 6, 6⟩
def clkDomFmaxStep : Fld := ⟨.clkDom, 12, 6⟩
def clkDomState : Fld := ⟨.clkDom, 18, 3⟩
def clkDomResult : Fld := ⟨.clkDom, 21, 2⟩
def clkDomStretch : Fld := ⟨.clkDom, 23, 1⟩
def clkDomDiv4 : Fld := ⟨.clkDom, 24, 1⟩
def clkDomLocked : Fld := ⟨.clkDom, 25, 1⟩
def clkDomReset : Fld := ⟨.clkDom, 26, 1⟩
def clkDomMhz : Fld := ⟨.clkDom, 32, 11⟩
def clkStretchCycles : Fld := ⟨.clkStretch, 0, 48⟩
def clkStretchEvents : Fld := ⟨.clkStretch, 48, 16⟩
def clkSkipSkipped : Fld := ⟨.clkSkip, 0, 48⟩
def clkSkipK : Fld := ⟨.clkSkip, 48, 4⟩
def clkXingState : Fld := ⟨.clkXing, 0, 2⟩
def clkXingLatency : Fld := ⟨.clkXing, 8, 8⟩
def clkXingAligns : Fld := ⟨.clkXing, 16, 16⟩
def clkXingSlips : Fld := ⟨.clkXing, 32, 16⟩
def ledHeadSeq : Fld := ⟨.ledHead, 0, 64⟩
def ledOldestSeq : Fld := ⟨.ledOldest, 0, 64⟩
def ledDropFault : Fld := ⟨.ledDrop, 0, 16⟩
def ledDropEvent : Fld := ⟨.ledDrop, 16, 16⟩
def ledDropTrace : Fld := ⟨.ledDrop, 32, 16⟩
def ledDropQueue : Fld := ⟨.ledDrop, 48, 16⟩
def ledCurSeq : Fld := ⟨.ledCur, 0, 48⟩
def ledCurHeld : Fld := ⟨.ledCur, 48, 1⟩
def ledWinData : Fld := ⟨.ledWin, 0, 64⟩
def tstCtlPresent : Fld := ⟨.tstCtl, 0, 1⟩
def tstCtlActive : Fld := ⟨.tstCtl, 1, 1⟩
def tstLambdaBus : Fld := ⟨.tstLambda, 0, 8⟩
def tstLambdaChan : Fld := ⟨.tstLambda, 8, 6⟩
def tstLambdaDelay : Fld := ⟨.tstLambda, 14, 8⟩
def tstLambdaEn : Fld := ⟨.tstLambda, 22, 1⟩
def tstZfPort : Fld := ⟨.tstZf, 0, 2⟩
def tstZfK : Fld := ⟨.tstZf, 2, 4⟩
def tstZfDelay : Fld := ⟨.tstZf, 6, 10⟩
def tstZfDropRsp : Fld := ⟨.tstZf, 16, 1⟩
def tstZfEn : Fld := ⟨.tstZf, 17, 1⟩
def tstBpStack : Fld := ⟨.tstBp, 0, 5⟩
def tstBpHbmPct : Fld := ⟨.tstBp, 5, 7⟩
def tstBpPort : Fld := ⟨.tstBp, 12, 2⟩
def tstBpPortPct : Fld := ⟨.tstBp, 14, 7⟩
def tstStretchStack : Fld := ⟨.tstStretch, 0, 4⟩
def tstStretchLen : Fld := ⟨.tstStretch, 4, 12⟩
def tstStretchPeriodUs : Fld := ⟨.tstStretch, 16, 16⟩
def tstStretchEn : Fld := ⟨.tstStretch, 32, 1⟩
def tstTimeoutScale : Fld := ⟨.tstTimeout, 0, 4⟩
def tstParityPoint : Fld := ⟨.tstParity, 0, 3⟩
def tstParityUnit : Fld := ⟨.tstParity, 3, 5⟩
def tstParityTile : Fld := ⟨.tstParity, 8, 9⟩
def tstParityArm : Fld := ⟨.tstParity, 17, 1⟩
def tstCountFired : Fld := ⟨.tstCount, 0, 32⟩
def tstCountActed : Fld := ⟨.tstCount, 32, 32⟩
def plnStatusSource : Fld := ⟨.plnStatus, 0, 2⟩
def plnStatusSwitching : Fld := ⟨.plnStatus, 2, 1⟩
def plnStatusReady : Fld := ⟨.plnStatus, 3, 1⟩
def plnStatusLinesDeacc : Fld := ⟨.plnStatus, 8, 7⟩
def plnLaserState : Fld := ⟨.plnLaser, 0, 3⟩
def plnLaserLatch : Fld := ⟨.plnLaser, 3, 1⟩
def plnLaserSeated : Fld := ⟨.plnLaser, 4, 1⟩
def plnLaserPwrDrop : Fld := ⟨.plnLaser, 8, 8⟩
def plnLaserLinesLow : Fld := ⟨.plnLaser, 16, 6⟩
def plnLaserTonesBad : Fld := ⟨.plnLaser, 22, 6⟩
def plnLaserOnHours : Fld := ⟨.plnLaser, 32, 32⟩
def plnThermBand : Fld := ⟨.plnTherm, 0, 4⟩
def plnThermFast : Fld := ⟨.plnTherm, 4, 1⟩
def plnErrUncorr : Fld := ⟨.plnErr, 0, 16⟩
def plnErrWrongId : Fld := ⟨.plnErr, 16, 16⟩
def plnErrLockLoss : Fld := ⟨.plnErr, 32, 16⟩
def plnErrPlausReject : Fld := ⟨.plnErr, 48, 16⟩
def plnFecCorrBytes : Fld := ⟨.plnFecCorr, 0, 64⟩
def plnRingSelSite : Fld := ⟨.plnRingSel, 0, 6⟩
def plnRingSelBus : Fld := ⟨.plnRingSel, 8, 8⟩
def plnRingDataData : Fld := ⟨.plnRingData, 0, 64⟩
def plnMapSelBus : Fld := ⟨.plnMapSel, 0, 6⟩
def plnMapSelChan : Fld := ⟨.plnMapSel, 8, 6⟩
def plnMapDataLine : Fld := ⟨.plnMapData, 0, 6⟩
def plnMapDataValid : Fld := ⟨.plnMapData, 6, 1⟩
def plnMapDataCalAge : Fld := ⟨.plnMapData, 8, 8⟩
def plnBusChannels : Fld := ⟨.plnBus, 0, 6⟩
def plnBusHealthy : Fld := ⟨.plnBus, 6, 7⟩
def plnBusCalLine : Fld := ⟨.plnBus, 13, 6⟩
def plnBusCalNone : Fld := ⟨.plnBus, 19, 1⟩
def plnBusCalStale : Fld := ⟨.plnBus, 20, 1⟩
def plnBusTxGroups : Fld := ⟨.plnBus, 21, 4⟩
def plnBusCalSteps : Fld := ⟨.plnBus, 32, 16⟩
def plnSiteRxLimit : Fld := ⟨.plnSite, 0, 10⟩
def plnSiteRxStatic : Fld := ⟨.plnSite, 10, 10⟩
def plnSiteRxPool : Fld := ⟨.plnSite, 20, 10⟩
def plnSiteRingsDeacc : Fld := ⟨.plnSite, 32, 16⟩
def plnCycCycles : Fld := ⟨.plnCyc, 0, 64⟩
def plnPmcCount : Fld := ⟨.plnPmc, 0, 48⟩
def plnPmselEvent : Fld := ⟨.plnPmsel, 0, 8⟩
def plnPmselArg : Fld := ⟨.plnPmsel, 8, 6⟩
def plnPmselOvf : Fld := ⟨.plnPmsel, 16, 1⟩
def plnPmctlEnable : Fld := ⟨.plnPmctl, 0, 1⟩
def plnBwBytes : Fld := ⟨.plnBw, 0, 32⟩
def memStatusState : Fld := ⟨.memStatus, 0, 2⟩
def memStatusInSvc : Fld := ⟨.memStatus, 2, 6⟩
def memStatusSpares : Fld := ⟨.memStatus, 8, 3⟩
def memStatusBand : Fld := ⟨.memStatus, 11, 2⟩
def memStatusMigrating : Fld := ⟨.memStatus, 13, 1⟩
def memIdMfr : Fld := ⟨.memId, 0, 8⟩
def memIdHeight : Fld := ⟨.memId, 8, 5⟩
def memIdCapGb : Fld := ⟨.memId, 16, 16⟩
def memIdSerial : Fld := ⟨.memId, 32, 32⟩
def memTempTemp : Fld := ⟨.memTemp, 0, 8⟩
def memTempMax : Fld := ⟨.memTemp, 8, 8⟩
def memErrUncorr : Fld := ⟨.memErr, 0, 16⟩
def memErrWparity : Fld := ⟨.memErr, 16, 16⟩
def memErrTimeout : Fld := ⟨.memErr, 32, 16⟩
def memErrPoisonRd : Fld := ⟨.memErr, 48, 16⟩
def memErrAddrChannel : Fld := ⟨.memErrAddr, 0, 5⟩
def memErrAddrKind : Fld := ⟨.memErrAddr, 5, 3⟩
def memErrAddrValid : Fld := ⟨.memErrAddr, 8, 1⟩
def memErrAddrLine : Fld := ⟨.memErrAddr, 10, 25⟩
def memStatsMerged : Fld := ⟨.memStats, 0, 48⟩
def memCmtCtlHalf : Fld := ⟨.memCmtCtl, 0, 1⟩
def memCmtCtlNn : Fld := ⟨.memCmtCtl, 1, 10⟩
def memCmtCtlPending : Fld := ⟨.memCmtCtl, 11, 1⟩
def memChanState : Fld := ⟨.memChan, 0, 3⟩
def memChanLogical : Fld := ⟨.memChan, 3, 5⟩
def memChanPprLeft : Fld := ⟨.memChan, 8, 8⟩
def memChanCorr : Fld := ⟨.memChan, 16, 24⟩
def memChanUncorr : Fld := ⟨.memChan, 40, 16⟩
def memPoisonSlot : Fld := ⟨.memPoison, 0, 64⟩
def memCycCycles : Fld := ⟨.memCyc, 0, 64⟩
def memPmcCount : Fld := ⟨.memPmc, 0, 48⟩
def memPmselEvent : Fld := ⟨.memPmsel, 0, 8⟩
def memPmselArg : Fld := ⟨.memPmsel, 8, 6⟩
def memPmselOvf : Fld := ⟨.memPmsel, 16, 1⟩
def memPmctlEnable : Fld := ⟨.memPmctl, 0, 1⟩
def memBwRead : Fld := ⟨.memBw, 0, 32⟩
def memBwWritten : Fld := ⟨.memBw, 32, 32⟩
def memCmtChannel : Fld := ⟨.memCmt, 0, 5⟩
def memCmtStack : Fld := ⟨.memCmt, 5, 5⟩
def memCmtValid : Fld := ⟨.memCmt, 10, 1⟩
def prtStatusGroup : Fld := ⟨.prtStatus, 0, 5⟩
def prtStatusRingPos : Fld := ⟨.prtStatus, 5, 5⟩
def prtStatusGateway : Fld := ⟨.prtStatus, 10, 1⟩
def prtStatusAltGateway : Fld := ⟨.prtStatus, 11, 1⟩
def prtStatusMaster : Fld := ⟨.prtStatus, 12, 1⟩
def prtStatusRelay : Fld := ⟨.prtStatus, 13, 1⟩
def prtStatusLanesUp : Fld := ⟨.prtStatus, 16, 5⟩
def prtRouteEpoch : Fld := ⟨.prtRoute, 0, 1⟩
def prtRouteGrace : Fld := ⟨.prtRoute, 1, 1⟩
def prtRouteFlips : Fld := ⟨.prtRoute, 16, 16⟩
def prtTickState : Fld := ⟨.prtTick, 0, 2⟩
def prtTickOffset : Fld := ⟨.prtTick, 16, 16⟩
def prtTickRate : Fld := ⟨.prtTick, 32, 32⟩
def prtZfErrHdr : Fld := ⟨.prtZfErr, 0, 16⟩
def prtZfErrCrc : Fld := ⟨.prtZfErr, 16, 16⟩
def prtZfErrEpochLate : Fld := ⟨.prtZfErr, 32, 16⟩
def prtZfErrHops : Fld := ⟨.prtZfErr, 48, 16⟩
def prtZfBadCode : Fld := ⟨.prtZfBad, 0, 4⟩
def prtZfBadType : Fld := ⟨.prtZfBad, 4, 4⟩
def prtZfBadValid : Fld := ⟨.prtZfBad, 8, 1⟩
def prtZfBadSrc : Fld := ⟨.prtZfBad, 16, 10⟩
def prtZfBadLane : Fld := ⟨.prtZfBad, 26, 6⟩
def prtTelemMode : Fld := ⟨.prtTelem, 0, 1⟩
def prtTelemK : Fld := ⟨.prtTelem, 1, 5⟩
def prtTelemDropped : Fld := ⟨.prtTelem, 16, 32⟩
def prtRtSelDev : Fld := ⟨.prtRtSel, 0, 10⟩
def prtRtSelVer : Fld := ⟨.prtRtSel, 10, 1⟩
def prtRtLanesLanes : Fld := ⟨.prtRtLanes, 0, 64⟩
def prtRtFlagsValid : Fld := ⟨.prtRtFlags, 0, 1⟩
def prtRtFlagsLocal : Fld := ⟨.prtRtFlags, 1, 1⟩
def prtLaneState : Fld := ⟨.prtLane, 0, 3⟩
def prtLaneRole : Fld := ⟨.prtLane, 3, 2⟩
def prtLanePair : Fld := ⟨.prtLane, 5, 4⟩
def prtLaneMiswired : Fld := ⟨.prtLane, 9, 1⟩
def prtLaneRetrains : Fld := ⟨.prtLane, 10, 6⟩
def prtLaneEqBand : Fld := ⟨.prtLane, 16, 4⟩
def prtLanePeer : Fld := ⟨.prtLane, 20, 10⟩
def prtLaneUncorr : Fld := ⟨.prtLane, 32, 16⟩
def prtLaneDelay : Fld := ⟨.prtLane, 48, 12⟩
def prtRmSeqInUse : Fld := ⟨.prtRmSeq, 0, 14⟩
def prtRmSeqFull : Fld := ⟨.prtRmSeq, 16, 16⟩
def prtRmSeqDuplicate : Fld := ⟨.prtRmSeq, 32, 16⟩
def prtRmSeqStale : Fld := ⟨.prtRmSeq, 48, 16⟩
def prtRmCombInUse : Fld := ⟨.prtRmComb, 0, 9⟩
def prtRmCombMerged : Fld := ⟨.prtRmComb, 16, 32⟩
def prtRmCombFull : Fld := ⟨.prtRmComb, 48, 16⟩
def prtRmAtomRecords : Fld := ⟨.prtRmAtom, 0, 15⟩
def prtRmAtomReplayed : Fld := ⟨.prtRmAtom, 16, 16⟩
def prtRmAtomReplayMiss : Fld := ⟨.prtRmAtom, 32, 16⟩
def prtRmAtomFull : Fld := ⟨.prtRmAtom, 48, 16⟩
def prtRmOwnSrc : Fld := ⟨.prtRmOwn, 0, 10⟩
def prtRmOwnType : Fld := ⟨.prtRmOwn, 10, 4⟩
def prtRmOwnValid : Fld := ⟨.prtRmOwn, 14, 1⟩
def prtRmOwnUnit : Fld := ⟨.prtRmOwn, 16, 31⟩
def prtRmOwnCount : Fld := ⟨.prtRmOwn, 48, 16⟩
def prtLaneBwSent : Fld := ⟨.prtLaneBw, 0, 32⟩
def prtLaneBwReceived : Fld := ⟨.prtLaneBw, 32, 32⟩
def prtCycCycles : Fld := ⟨.prtCyc, 0, 64⟩
def prtPmcCount : Fld := ⟨.prtPmc, 0, 48⟩
def prtPmselEvent : Fld := ⟨.prtPmsel, 0, 8⟩
def prtPmselArg : Fld := ⟨.prtPmsel, 8, 6⟩
def prtPmselOvf : Fld := ⟨.prtPmsel, 16, 1⟩
def prtPmctlEnable : Fld := ⟨.prtPmctl, 0, 1⟩
def prtDdrStatusState : Fld := ⟨.prtDdrStatus, 0, 3⟩
def prtDdrStatusRate : Fld := ⟨.prtDdrStatus, 3, 2⟩
def prtDdrStatusCapGb : Fld := ⟨.prtDdrStatus, 8, 10⟩
def prtDdrStatusRanks : Fld := ⟨.prtDdrStatus, 18, 2⟩
def prtDdrStatusX8 : Fld := ⟨.prtDdrStatus, 20, 1⟩
def prtDdrStatusHeight3ds : Fld := ⟨.prtDdrStatus, 21, 3⟩
def prtDdrStatusTemp : Fld := ⟨.prtDdrStatus, 24, 8⟩
def prtDdrErrCorr : Fld := ⟨.prtDdrErr, 0, 24⟩
def prtDdrErrUncorr : Fld := ⟨.prtDdrErr, 24, 16⟩
def prtDdrErrWparity : Fld := ⟨.prtDdrErr, 40, 16⟩
def prtDdrErrAddrKind : Fld := ⟨.prtDdrErrAddr, 0, 3⟩
def prtDdrErrAddrValid : Fld := ⟨.prtDdrErrAddr, 3, 1⟩
def prtDdrErrAddrLine : Fld := ⟨.prtDdrErrAddr, 8, 33⟩
def prtDdrBwRead : Fld := ⟨.prtDdrBw, 0, 32⟩
def prtDdrBwWritten : Fld := ⟨.prtDdrBw, 32, 32⟩
def cmpSpareFailCol : Fld := ⟨.cmpSpare, 0, 5⟩
def cmpSpareSpareOk : Fld := ⟨.cmpSpare, 5, 1⟩
def tileIdLx : Fld := ⟨.tileId, 0, 4⟩
def tileIdLy : Fld := ⟨.tileId, 4, 4⟩
def tileIdCol : Fld := ⟨.tileId, 8, 5⟩
def tileIdRow : Fld := ⟨.tileId, 13, 4⟩
def tileIdStack : Fld := ⟨.tileId, 17, 4⟩
def tileIdState : Fld := ⟨.tileId, 21, 3⟩
def tileSramMapResGran : Fld := ⟨.tileSramMap, 0, 5⟩
def tileSramMapCarryGran : Fld := ⟨.tileSramMap, 8, 5⟩
def tileSramMapBank : Fld := ⟨.tileSramMap, 16, 1⟩
def tileCtlEngine : Fld := ⟨.tileCtl, 0, 3⟩
def tileCtlReqTag : Fld := ⟨.tileCtl, 8, 8⟩
def tileCtlRspTag : Fld := ⟨.tileCtl, 16, 8⟩
def tileCtlWdog : Fld := ⟨.tileCtl, 32, 16⟩
def tileCtlUcnt : Fld := ⟨.tileCtl, 48, 1⟩
def tileFaultCode : Fld := ⟨.tileFault, 0, 4⟩
def tileFaultThread : Fld := ⟨.tileFault, 4, 3⟩
def tileFaultValid : Fld := ⟨.tileFault, 7, 1⟩
def tileFaultPc : Fld := ⟨.tileFault, 8, 24⟩
def tileFaultCount : Fld := ⟨.tileFault, 32, 16⟩
def tileFaultParity : Fld := ⟨.tileFault, 48, 16⟩
def tileRemoteRetries : Fld := ⟨.tileRemote, 0, 16⟩
def tileRemoteLate : Fld := ⟨.tileRemote, 16, 16⟩
def tileRemoteAbandoned : Fld := ⟨.tileRemote, 32, 16⟩
def tileRemoteRcLines : Fld := ⟨.tileRemote, 48, 8⟩
def tileArithRangeCur : Fld := ⟨.tileArith, 0, 16⟩
def tileArithInvalidCur : Fld := ⟨.tileArith, 16, 16⟩
def tileArithRangeLast : Fld := ⟨.tileArith, 32, 16⟩
def tileArithInvalidLast : Fld := ⟨.tileArith, 48, 16⟩
def tileThreadState : Fld := ⟨.tileThread, 0, 4⟩
def tileThreadMode : Fld := ⟨.tileThread, 4, 1⟩
def tileThreadPc : Fld := ⟨.tileThread, 8, 24⟩
def tileCycCycles : Fld := ⟨.tileCyc, 0, 64⟩
def tilePmcCount : Fld := ⟨.tilePmc, 0, 48⟩
def tilePmselEvent : Fld := ⟨.tilePmsel, 0, 8⟩
def tilePmselArg : Fld := ⟨.tilePmsel, 8, 4⟩
def tilePmselSample : Fld := ⟨.tilePmsel, 12, 1⟩
def tilePmselThread : Fld := ⟨.tilePmsel, 13, 3⟩
def tilePmselOvf : Fld := ⟨.tilePmsel, 16, 1⟩
def tilePmctlEnable : Fld := ⟨.tilePmctl, 0, 1⟩
def tilePmctlHandler : Fld := ⟨.tilePmctl, 8, 24⟩

end F

/-- Every register kind. -/
def RegKind.all : List RegKind := [
  .glbId, .glbCap, .glbStatus, .glbReset, .glbBwCtl, .glbQuad,
  .glbSite, .curStatus, .curBoot, .curCat, .curIdent, .curXferCtl,
  .curCmd, .curRes, .curWear, .curParam, .curXfer, .frmState,
  .frmFrame, .frmCommitted, .frmConfig, .frmTiming, .frmHold, .frmAdmit,
  .frmFault, .frmLimits, .frmMirror, .frmDigest, .frmPdigest, .frmResync,
  .frmWithdraw, .frmLenPend, .frmLenCommit, .mbxData, .mbxStat, .mbxFull,
  .pwrStatus, .pwrLimit, .pwrShare, .pwrExc, .pwrEnFrame, .pwrEnJob,
  .pwrAssign, .pwrRpt, .pwrCoef, .thmStatus, .thmSel, .thmData,
  .thmStack, .clkStatus, .clkDom, .clkStretch, .clkSkip, .clkXing,
  .ledHead, .ledOldest, .ledDrop, .ledCur, .ledWin, .tstCtl,
  .tstLambda, .tstZf, .tstBp, .tstStretch, .tstTimeout, .tstParity,
  .tstCount, .plnStatus, .plnLaser, .plnTherm, .plnErr, .plnFecCorr,
  .plnRingSel, .plnRingData, .plnMapSel, .plnMapData, .plnBus, .plnSite,
  .plnCyc, .plnPmc, .plnPmsel, .plnPmctl, .plnBw, .memStatus,
  .memId, .memTemp, .memErr, .memErrAddr, .memStats, .memCmtCtl,
  .memChan, .memPoison, .memCyc, .memPmc, .memPmsel, .memPmctl,
  .memBw, .memCmt, .prtStatus, .prtRoute, .prtTick, .prtZfErr,
  .prtZfBad, .prtTelem, .prtRtSel, .prtRtLanes, .prtRtFlags, .prtLane,
  .prtRmSeq, .prtRmComb, .prtRmAtom, .prtRmOwn, .prtLaneBw, .prtCyc,
  .prtPmc, .prtPmsel, .prtPmctl, .prtDdrStatus, .prtDdrErr, .prtDdrErrAddr,
  .prtDdrBw, .cmpSpare, .tileId, .tileSramMap, .tileCtl, .tileFault,
  .tileRemote, .tileArith, .tileThread, .tileCyc, .tilePmc, .tilePmsel,
  .tilePmctl]

/-- The C-space offset of register `i` of a kind in block number `b` (R13). -/
def RegKind.addr (k : RegKind) (b i : Nat) : Nat :=
  let p := k.place
  p.block.base b + p.off + p.stride * (i / p.inner) + 8 * (i % p.inner)

/-- The register index at offset `o` inside a block, if register kind `k` occupies it. -/
def RegKind.indexAt (k : RegKind) (o : Nat) : Option Nat :=
  let p := k.place
  let d := o - p.off
  let i := (d / p.stride) * p.inner + (d % p.stride) / 8
  if p.off ≤ o ∧ i < p.count ∧ p.off + p.stride * (i / p.inner) + 8 * (i % p.inner) = o then some i
  else none

/-- The register at a C-space offset: kind, block number, index; `none` where no register lies (R14). MEM_CMT
lies in the block of M0 only (R266). -/
def regAt (o : Nat) : Option (RegKind × Nat × Nat) :=
  match Block.ofOffset o with
  | none => none
  | some (blk, b, off) =>
    (RegKind.all.find? (fun k => k.place.block == blk && (k.indexAt off).isSome &&
        !(k == .memCmt && b != 0))).bind
      (fun k => (k.indexAt off).map (fun i => (k, b, i)))

end Sys2Proof.Machine
end

