-- ==== Sys2Proof/Machine/Ops.lean ====
section
/-! DEFINITION. The named operations over the device that the commands share: registers (R13–R17), counters,
the Ledger (R496–R500), what leaves the device, units of tiles and dies, holds, job stops and withdrawals
(R169–R173, R431). -/

namespace Sys2Proof.Machine

/-! ## Registers -/

/-- The whole reset value of a register: its Reset column, with what silicon fixes (R43, R131, R233, R316,
R368). (DESIGN CHOICE, log entry 11) -/
def RegKind.resetAt (k : RegKind) (b i : Nat) : Nat :=
  match k with
  | .glbId => k.reset0 + Config.boardRev.toNat * 2 ^ 32
  | .tileId => b % 272 % 17 * 2 ^ 8 + b % 272 / 17 * 2 ^ 13 + b / 272 * 2 ^ 17
  | .prtLane => if i < 16 then i * 2 ^ 5 else 0
  | .plnRingSel => 4 * b
  | .clkDom => if i < 16 then k.reset0 else 0
  | k => k.reset0

/-- What `regs` holds a register against: its reset value; for TILE_SRAM_MAP, while an odd number of commits has toggled BANK in every
tile (R86, R163), with that bit toggled. -/
def Device.restAt (s : Device) (k : RegKind) (b i : Nat) : Nat :=
  match k with
  | .tileSramMap => k.resetAt b i ^^^ (if s.fr.swapped then 2 ^ F.tileSramMapBank.lo else 0)
  | k => k.resetAt b i

/-- The value of register `i` of a kind in block number `b`. (DEDUCED, log entry 115) -/
def Device.rd (s : Device) (k : RegKind) (b : Nat := 0) (i : Nat := 0) : Nat :=
  (s.regs.get 0 (k.addr b i) ^^^ BitVec.ofNat 64 (s.restAt k b i)).toNat

/-- Write a whole register (no access code applies: the device's own update). (DEDUCED, log entry 115) -/
def Device.wr (s : Device) (k : RegKind) (b i v : Nat) : Device :=
  { s with regs := s.regs.set 0 (k.addr b i) (BitVec.ofNat 64 v ^^^ BitVec.ofNat 64 (s.restAt k b i)) }

/-- The value of a field. -/
def Device.fget (s : Device) (f : Fld) (b : Nat := 0) (i : Nat := 0) : Nat := bits (s.rd f.kind b i) f.lo f.w

/-- Set a field, its register's other bits kept. -/
def Device.fset (s : Device) (f : Fld) (b i v : Nat) : Device := s.wr f.kind b i (setBits (s.rd f.kind b i) f.lo f.w v)

/-- Add to a counter field that saturates. -/
def Device.fsat (s : Device) (f : Fld) (b i n : Nat) : Device :=
  s.fset f b i (min (2 ^ f.w - 1) (s.fget f b i + n))

/-- Add to a counter field that wraps. -/
def Device.finc (s : Device) (f : Fld) (b i n : Nat) : Device := s.fset f b i (s.fget f b i + n)

/-- A flag field as a Bool. -/
def Device.flag (s : Device) (f : Fld) (b : Nat := 0) (i : Nat := 0) : Bool := s.fget f b i == 1

/-- Register a flag. -/
def Device.setFlag (s : Device) (f : Fld) (b i : Nat) (v : Bool) : Device := s.fset f b i (b2n v)

/-- Return every register at offsets `lo` to below `hi` to its reset value. -/
def Device.resetRegs (s : Device) (lo hi : Nat) : Device := { s with regs := s.regs.clear lo hi }

/-! ## Outcomes -/

/-- A command's effect, when the units it names exist; nothing can act on one that does not (R8).
(DESIGN CHOICE, log entries 1 and 2) -/
def onUnits (ok : Bool) (f : Device → Device) (s : State) : Host.Outcome State Fault Refusal :=
  if ok then .next { s with toDevice := f s.toDevice } else .fault .noSuchUnit

/-- A command's effect on the device. (DESIGN CHOICE, log entry 1) -/
def onDevice (f : Device → Device) (s : State) : Host.Outcome State Fault Refusal :=
  .next { s with toDevice := f s.toDevice }

/-- Let something leave the device or reach an agent of it. (DESIGN CHOICE, log entry 109) -/
def Device.emit (s : Device) (o : Out) : Device := { s with out := s.out ++ [o] }

/-- Draw a free word: a value the spec leaves open. (DESIGN CHOICE, log entry 12) -/
def Device.drawWord (s : Device) : Word × Device := (Config.freeWord s.free, { s with free := s.free + 1 })

/-! ## Units -/

def Device.tile (s : Device) (c t : Nat) : Tile := s.tiles.get {} (272 * c + t)
def Device.setTile (s : Device) (c t : Nat) (x : Tile) : Device :=
  { s with tiles := s.tiles.set {} (272 * c + t) x }
def Device.modTile (s : Device) (c t : Nat) (f : Tile → Tile) : Device := s.setTile c t (f (s.tile c t))

def Device.die (s : Device) (c : Nat) : Die := s.dies.get {} c
def Device.modDie (s : Device) (c : Nat) (f : Die → Die) : Device := { s with dies := s.dies.upd {} c f }

def Device.port (s : Device) (p : Nat) : Port := s.ports.get {} p
def Device.modPort (s : Device) (p : Nat) (f : Port → Port) : Device := { s with ports := s.ports.upd {} p f }

def Tile.thread (x : Tile) (n : Nat) : Thread := x.threads.get {} n
def Tile.modThread (x : Tile) (n : Nat) (f : Thread → Thread) : Tile :=
  { x with threads := x.threads.upd {} n f }

def Device.thread (s : Device) (c t n : Nat) : Thread := (s.tile c t).thread n
def Device.modThread (s : Device) (c t n : Nat) (f : Thread → Thread) : Device :=
  s.modTile c t (fun x => x.modThread n f)

def Device.modFr (s : Device) (f : Frames → Frames) : Device := { s with fr := f s.fr }
def Device.modMem (s : Device) (f : Memory → Memory) : Device := { s with mem := f s.mem }
def Device.modPln (s : Device) (f : Plinth → Plinth) : Device := { s with pln := f s.pln }
def Device.modFab (s : Device) (f : Fabric → Fabric) : Device := { s with fab := f s.fab }
def Device.modCtl (s : Device) (f : Control → Control) : Device := { s with ctl := f s.ctl }
def Device.modBoot (s : Device) (f : Boot → Boot) : Device := { s with boot := f s.boot }
def Device.modPwr (s : Device) (f : Power → Power) : Device := { s with pwr := f s.pwr }
def Device.modThm (s : Device) (f : Thermal → Thermal) : Device := { s with thm := f s.thm }

/-! ## Job state -/

/-- Job states (R178). -/
def jNone : Nat := 0
def jLoading : Nat := 1
def jReady : Nat := 2
def jRunning : Nat := 3
def jStopped : Nat := 4
def jWithdrawn : Nat := 5

def Device.jobState (s : Device) : Nat := s.fget F.frmStateJob
def Device.running (s : Device) : Bool := s.jobState == jRunning

/-- The admitted image, or an empty one. -/
def Device.job (s : Device) : Job := s.fr.job.getD {}

/-- This device's number: the job's while one is admitted (R181), else the Catalogue's (R457). -/
def Device.self (s : Device) : Nat :=
  if 2 ≤ s.jobState then s.fget F.frmConfigDevice else s.fget F.glbStatusDeviceNo

/-- The current frame, phase and program (R145, R180). -/
def Device.frame (s : Device) : Nat := s.fget F.frmFrameFrame
def Device.phase (s : Device) : Nat := s.fget F.frmStatePhase
def Device.program (s : Device) : Nat := s.fget F.frmStateProgram

/-- A settle interval is in progress (R143, R164): it follows every tick of a running job until the confirm
point. -/
def Device.settling (s : Device) : Bool := s.running && s.fr.settle

/-- The stamping epoch (R297). -/
def Device.epoch (s : Device) : Bool := s.flag F.prtRouteEpoch

/-! ## The Ledger -/

/-- A record's parts that its rule fixes: source kind and index (R497), priority, class (R415), cause with its
code table (R498), unit, detail. -/
structure Note where
  kind : Nat
  index : Nat := 0
  prio : Nat
  cls : Nat
  cause : Nat
  unit : Nat := 0
  detail : Nat := 0
  deriving DecidableEq, Repr

/-- Source kinds (R497). -/
def kGlb : Nat := 0
def kCur : Nat := 1
def kFrm : Nat := 2
def kMbx : Nat := 3
def kPwr : Nat := 4
def kThm : Nat := 5
def kClk : Nat := 6
def kLed : Nat := 7
def kTst : Nat := 8
def kPln : Nat := 9
def kMem : Nat := 10
def kPrt : Nat := 11
def kCmp : Nat := 12
def kTile : Nat := 13

/-- A source of records, as a key (R499). -/
def srcKey (kind index : Nat) : Nat := kind * 65536 + index

/-- The records the device can hold: the ring buffer less the ALARM table, and the spill region while the
DDR5 tier lasts (R496, R258). -/
def Device.ledgerRoom (s : Device) : Nat := if s.mem.ddrLost then 61440 else 61440 + 16777216

/-- Write a record: it takes the next SEQ and its source's suppressed count (R497, R499). -/
def Device.writeRecord (s : Device) (r : Record) : Device :=
  let key := srcKey r.srcKind r.srcIndex
  let r := { r with seq := s.led.nextSeq, suppressed := s.led.suppressed.get 0 key }
  let recs := s.led.recs ++ [r]
  { s with led := { s.led with
      recs := recs.drop (recs.length - s.ledgerRoom)
      nextSeq := s.led.nextSeq + 1
      suppressed := s.led.suppressed.del key
      totals := s.led.totals.upd 0 r.prio (· + 1) } }

/-- The record a note makes now (R497). -/
def Device.recordOf (s : Device) (n : Note) : Record :=
  { time := s.now / 2, tick := if s.running then s.fr.tick else 2 ^ 64 - 1, frame := s.frame,
    prio := n.prio, cls := n.cls, srcKind := n.kind, srcIndex := n.index, cause := n.cause,
    unit := n.unit, detail := n.detail }

/-- GLB_STATUS follows the ALARM table: ALERT while any ALARM is unacknowledged, and from the beginning of start-up to Ready
(R416, R449, R451, R490); an alert that begins interrupts the I3C bus (R517). (DEDUCED, log entry 75) -/
def Device.showAlarms (s : Device) : Device :=
  let n := (s.led.alarms.filter (fun a => !a.acked)).length
  let on := decide (n ≠ 0) || (s.boot.pwrgd && !s.flag F.glbStatusReady)
  let s := if on && !s.flag F.glbStatusAlert then s.emit .inBand else s
  (s.fset F.glbStatusAlarmsUnack 0 0 (min 0xFFF n)).setFlag F.glbStatusAlert 0 0 on

/-- The index of the newest ALARM that matches, if any. -/
def newestAlarm (l : List AlarmRec) (f : AlarmRec → Bool) : Option Nat :=
  (List.range l.length).foldl (fun o i => if (l[i]?).any f then some i else o) none

/-- R500: an ALARM enters the table, or when the table is full of 4,096 joins the newest of its cause and
unit, or the newest of all, which then also carries ALARM_OVERFLOW. (DEDUCED, log entry 39) -/
def joinAlarm (l : List AlarmRec) (a : AlarmRec) : List AlarmRec :=
  if l.length < 4096 then l ++ [a]
  else
    match newestAlarm l (fun x => x.cause == a.cause && x.unit == a.unit) with
    | some i => modAt (fun x => { x with repeats := x.repeats + 1 }) l i
    | none => modAt (fun x => { x with repeats := x.repeats + 1, overflow := true }) l (l.length - 1)

/-- Record an ALARM: it bypasses buckets, queues and coalescing (R500) and asserts MOD_ALERT_N (R416). -/
def Device.postAlarm (s : Device) (r : Record) : Device :=
  let seq := s.led.nextSeq
  let s := s.writeRecord r
  { s with led := { s.led with
      alarms := joinAlarm s.led.alarms { seq := seq, cause := r.cause, unit := r.unit } } }.showAlarms

/-- LED_DROP's field of a priority (R502). -/
def dropField (prio : Nat) : Fld :=
  if prio = 1 then F.ledDropFault else if prio = 2 then F.ledDropEvent else F.ledDropTrace

/-- A record that is dropped: counted by priority and in its source's suppressed count (R496, R499). -/
def Device.dropRecord (s : Device) (f : Fld) (key : Nat) : Device :=
  { s with led := { s.led with suppressed := s.led.suppressed.upd 0 key (· + 1) } }.fsat f 0 0 1

/-- The tokens of a bucket that are spent, keyed by source and priority (R499). -/
def bucketKey (kind index prio : Nat) : Nat := srcKey kind index * 4 + prio

/-- R499: a FAULT, EVENT or TRACE record takes a token, opens or joins its source's coalescing entry, or is
dropped. -/
def Device.postLimited (s : Device) (r : Record) : Device :=
  let key := srcKey r.srcKind r.srcIndex
  let bk := bucketKey r.srcKind r.srcIndex r.prio
  let burst := s.led.burst.getD (r.prio - 1) 0
  if s.led.spent.get 0 bk < burst then
    ({ s with led := { s.led with spent := s.led.spent.upd 0 bk (· + 1) } } : Device).writeRecord r
  else if (s.led.open_.any (fun e => e.1 == key)) then
    let o := s.led.open_.get {} key
    if o.prio = r.prio ∧ o.cause = r.cause ∧ o.unit = r.unit then
      { s with led := { s.led with open_ := s.led.open_.ins key { o with repeats := o.repeats + 1 } } }
    else s.dropRecord (dropField r.prio) key
  else { s with led := { s.led with open_ := s.led.open_.ins key r } }

/-- Post a record to its block's queue of 16 (R496): a record that finds the queue full is dropped. The
Curator drains the queues in idle steps. -/
def Device.note (s : Device) (n : Note) : Device :=
  let r := s.recordOf n
  if n.prio = 0 then s.postAlarm r
  else if n.prio = 3 ∧ s.led.traceOff then s
  else
    let key := srcKey n.kind n.index
    if 16 ≤ s.led.queues.get 0 key then s.dropRecord F.ledDropQueue key
    else ({ s with led := { s.led with queues := s.led.queues.upd 0 key (· + 1) } } : Device).postLimited r

/-! ## Perturbation (R505, R506) -/

/-- Parity flips fire at these points (R506). -/
def ptSram : Nat := 1
def ptLb : Nat := 2
def ptHbm : Nat := 3
def ptDdr : Nat := 4
def ptFabric : Nat := 5

/-- An armed parity flip matches a line of this point, unit and tile. (DEDUCED, log entry 93) -/
def Device.flipArmed (s : Device) (point unit tile : Nat) : Bool :=
  s.flag F.tstCtlPresent && s.flag F.tstCtlActive && s.flag F.tstParityArm && s.fget F.tstParityPoint == point &&
    s.fget F.tstParityUnit == unit && (decide (2 < point) || s.fget F.tstParityTile == tile)

/-- The flip fires: ARM clears, FIRED counts. -/
def Device.flipFires (s : Device) : Device := (s.setFlag F.tstParityArm 0 0 false).fsat F.tstCountFired 0 0 1

/-! ## Counter sets of sites, HBM4 controllers and port dies (R492, R493), and bandwidth bytes (R494) -/

/-- The fields of one kind of counter set. -/
structure PmcSet where
  event : Fld
  arg : Fld
  cnt : Fld
  ovf : Fld
  en : Fld
  deriving DecidableEq, Repr

def pmcPln : PmcSet := ⟨F.plnPmselEvent, F.plnPmselArg, F.plnPmcCount, F.plnPmselOvf, F.plnPmctlEnable⟩
def pmcMem : PmcSet := ⟨F.memPmselEvent, F.memPmselArg, F.memPmcCount, F.memPmselOvf, F.memPmctlEnable⟩
def pmcPrt : PmcSet := ⟨F.prtPmselEvent, F.prtPmselArg, F.prtPmcCount, F.prtPmselOvf, F.prtPmctlEnable⟩

/-- Counter `i` of a set counts `k` events: modulo 2^48, with OVF at a wrap (R136, R492). -/
def Device.pmcOne (s : Device) (f : PmcSet) (b i k : Nat) : Device :=
  let v := s.fget f.cnt b i + k
  let s1 := s.fset f.cnt b i v
  if v < 2 ^ 48 then s1 else s1.setFlag f.ovf b i true

/-- Count `k` events `ev` of resource `arg` in set number `j` of block `b`; ARG 63 counts all (R493). -/
def Device.pmc (s : Device) (f : PmcSet) (b j ev arg k : Nat) : Device :=
  if s.flag f.en b j && k != 0 then
    (List.range 8).foldl (fun s n =>
      let i := 8 * j + n
      if s.fget f.event b i == ev && (s.fget f.arg b i == arg || s.fget f.arg b i == 63) then s.pmcOne f b i k
      else s) s
  else s

/-- Add bytes moved in the present bandwidth window: `half` 0 for bits [31:0], 1 for [63:32] (R494). -/
def Device.bw (s : Device) (k : RegKind) (b i half bytes : Nat) : Device :=
  s.modCtl (fun x => { x with bwBytes := x.bwBytes.upd 0 (2 * k.addr b i + half) (· + bytes) })

/-! ## Sending over the fabric (R293–R296) -/

/-- Lane states and roles (R316). -/
def lDown : Nat := 0
def lTraining : Nat := 1
def lUp : Nat := 2
def lInterrupted : Nat := 3
def lDimmed : Nat := 4
def lFailed : Nat := 5
def lSpare : Nat := 6
def rSwitch : Nat := 0
def rRing : Nat := 1
def rHost : Nat := 2

def Device.laneState (s : Device) (z : Nat) : Nat := s.fget F.prtLaneState (z / 16) (z % 16)
def Device.laneRole (s : Device) (z : Nat) : Nat := s.fget F.prtLaneRole (z / 16) (z % 16)

/-- Write a field of a lane's register; while its port die's spare transceiver serves the lane's pair, of the spare's register too (R316). -/
def Device.laneSet (s : Device) (f : Fld) (z v : Nat) : Device :=
  let s1 := s.fset f (z / 16) (z % 16) v
  if (s.port (z / 16)).spareOn = some (z % 16) then s1.fset f (z / 16) 16 v else s1

/-- Count in a field of a lane's register, and of its spare's. -/
def Device.laneCount (s : Device) (f : Fld) (z n : Nat) : Device :=
  let s1 := s.fsat f (z / 16) (z % 16) n
  if (s.port (z / 16)).spareOn = some (z % 16) then s1.fsat f (z / 16) 16 n else s1

/-- What a lane is sending is lost when it can send no more (R279). -/
def Device.cutLane (s : Device) (z st : Nat) : Device :=
  if st = lUp ∨ st = lDimmed ∨ s.fab.sending.get 0 z = 0 then s
  else s.modFab (fun f => { f with laneQ := f.laneQ.upd 0 z (· - f.sending.get 0 z), sending := f.sending.del z })

/-- A lane's state. -/
def Device.setLane (s : Device) (z st : Nat) : Device := (s.laneSet F.prtLaneState z st).cutLane z st

/-- Bytes of a packet on a lane: header, payload, payload CRC (R287). -/
def pktBytes (p : Pkt) : Nat := 32 + 16 * p.len + (if p.len = 0 then 0 else 4)

/-- A routing-table entry of a version (R293). -/
def Device.routeEntry (s : Device) (ver : Bool) (dst : Nat) : Route := s.fab.tables.get {} (1024 * b2n ver + dst)

/-- The lanes of a mask in a given state that routing may use; HOST lanes and lanes whose opening neighbour
has quiesced take no part (R285, R304). -/
def Device.eligible (s : Device) (lanes : Word) (state : Nat) : List Nat :=
  (List.range 64).filter (fun z =>
    bit lanes.toNat z && s.laneState z == state && s.laneRole z != rHost &&
      !(s.laneRole z == rRing && s.fab.quiesced.contains (z % 16 - 12 + 4 * (z / 16 % 2), decide (32 ≤ z))))

/-- The lane with the fewest bytes queued, the lowest of equals (R294). -/
def Device.leastQueued (s : Device) (zs : List Nat) : Option Nat :=
  zs.foldl (fun o z =>
    match o with
    | none => some z
    | some y => if s.fab.laneQ.get 0 z < s.fab.laneQ.get 0 y then some z else some y) none

/-- R294: an UP lane, else a DIMMED one (R282). -/
def Device.pickLane (s : Device) (lanes : Word) : Option Nat :=
  (s.leastQueued (s.eligible lanes lUp)).orElse (fun _ => s.leastQueued (s.eligible lanes lDimmed))

/-- TST_ZF acts on one packet in 2^K that its port die sends: it delays the packet, or drops a response (R506).
(DEDUCED, log entry 94) -/
def Device.zfActs (s : Device) (z : Nat) : Bool :=
  s.flag F.tstCtlPresent && s.flag F.tstCtlActive && s.flag F.tstZfEn && s.fget F.tstZfPort == z / 16 &&
    ((List.range 16).map (fun j => s.fab.counted.get 0 (2 * (z / 16 * 16 + j)))).sum % 2 ^ s.fget F.tstZfK == 0

/-- TICK, HOLD and LEASE are priority packets (R296). -/
def isPriority (p : Pkt) : Bool := p.typ == tTick || p.typ == tHold || p.typ == tLease

/-- A hop over ring lane z crosses the link between the highest and the lowest ring position (R283, R286). -/
def Device.crossesTop (s : Device) (z : Nat) : Bool :=
  let peer := s.fab.peerPos.get 0 z
  let own := s.fget F.prtStatusRingPos 0 0
  peer != 0 && (if 32 ≤ z then decide (peer ≤ own + 1) else decide (own + 1 ≤ peer))

/-- A packet as it goes over a lane: on a ring lane it has its virtual channel (R286). -/
def Device.onLane (s : Device) (z : Nat) (p : Pkt) : Pkt :=
  { p with vc := if s.laneRole z ≠ rRing then 0 else if isPriority p then 2 else if p.vc = 1 ∨ s.crossesTop z then 1 else 0 }

/-- The far end of a lane grants a virtual channel credit. -/
def Device.credit (s : Device) (z vc : Nat) : Bool := !s.fab.blocked.contains (4 * z + vc)

/-- The packet that a lane sends next: a priority packet before any other, else the oldest whose virtual channel has credit (R286, R296). -/
def Device.nextOn (s : Device) (z : Nat) : Option Nat :=
  let l := s.fab.txq.get [] z
  (l.findIdx? (fun p => isPriority p && s.credit z p.vc)).orElse (fun _ => l.findIdx? (fun p => s.credit z p.vc))

/-- A lane begins to send a packet. (DESIGN CHOICE, log entry 7) -/
def Device.startPkt (s : Device) (z : Nat) (p : Pkt) : Device :=
  let n := pktBytes p
  let s := (s.pmc pmcPrt (z / 16) 0 0x01 (z % 16) 1).bw .prtLaneBw (z / 16) (z % 16) 0 n
  let s := s.modFab (fun f => { f with sending := f.sending.set 0 z n, counted := f.counted.upd 0 (2 * z) (· + 1) })
  if s.zfActs z then
    let s := s.fsat F.tstCountActed 0 0 1
    if s.flag F.tstZfDropRsp && isResponse p then s else s.emit (.packet z p)
  else s.emit (.packet z p)

/-- A lane that sends nothing begins with the next packet of its queue. -/
def Device.startNext (s : Device) (z : Nat) : Device :=
  match s.nextOn z with
  | some i =>
    let l := s.fab.txq.get [] z
    (s.modFab (fun f => { f with txq := f.txq.set [] z (dropAt l i) })).startPkt z (l.getD i blankPkt)
  | none => s

/-- Put a packet on a lane's transmit queue; a lane that is UP and sends nothing takes it up at once. -/
def Device.sendOn (s : Device) (z : Nat) (p : Pkt) : Device :=
  let q := s.onLane z p
  let s := s.modFab (fun f => { f with laneQ := f.laneQ.upd 0 z (· + pktBytes p), txq := f.txq.upd [] z (· ++ [q]) })
  if s.laneState z == lUp && s.fab.sending.get 0 z == 0 then s.startNext z else s

/-- A lane has sent `b` more bytes, and goes on with what waits. -/
def Device.pump : Nat → Device → Nat → Nat → Device
  | 0, s, _, _ => s
  | n + 1, s, z, b =>
    let left := s.fab.sending.get 0 z
    if b < left then s.modFab (fun f => { f with sending := f.sending.set 0 z (left - b), laneQ := f.laneQ.upd 0 z (· - b) })
    else
      let s := s.modFab (fun f => { f with sending := f.sending.del z, laneQ := f.laneQ.upd 0 z (· - left) })
      let s := s.startNext z
      if s.fab.sending.get 0 z = 0 then s else pump n s z (b - left)

/-- The lane of one destination of an MCAST_WRITE: the lowest eligible that is UP (R298). -/
def Device.mcastLane (s : Device) (p : Pkt) (i : Nat) : Option Nat :=
  (s.eligible (s.routeEntry p.epoch (32 * p.mgrp + i)).lanes lUp).head?

/-- An MCAST_WRITE with its mask reduced to some bits. -/
def maskedPkt (p : Pkt) (is : List Nat) : Pkt := sealPkt { p with mask := (is.map (fun i => 2 ^ i)).sum }

/-- Copies of an MCAST_WRITE for the bits `away`: one on each distinct lane, with the bits routed there; bits with no lane UP wait. -/
def Device.sendCopies (s : Device) (p : Pkt) (away : List Nat) : Device :=
  let lanes := (away.filterMap (fun i => s.mcastLane p i)).eraseDups
  let s1 := lanes.foldl (fun s' z => s'.sendOn z (maskedPkt p (away.filter (fun i => s.mcastLane p i == some z)))) s
  let rest := away.filter (fun i => (s.mcastLane p i).isNone)
  if rest.isEmpty then s1 else s1.modFab (fun f => { f with held := f.held ++ [maskedPkt p rest] })

/-- R298: a LOCAL device's copy is delivered, and copies go to the others. -/
def Device.transmitMcast (s : Device) (p : Pkt) : Device :=
  let here := (List.range 32).filter (fun i => bit p.mask i && (s.routeEntry p.epoch (32 * p.mgrp + i)).isLocal)
  let away := (List.range 32).filter (fun i =>
    bit p.mask i && (s.routeEntry p.epoch (32 * p.mgrp + i)).valid && !(s.routeEntry p.epoch (32 * p.mgrp + i)).isLocal)
  (if here.isEmpty then s else s.emit (.request (maskedPkt p here))).sendCopies p away

/-- Hand a packet that this device sends to its router (R294, R297): it takes the lane of its destination's
entry in the table of its EPOCH, or waits while no lane is UP or DIMMED. Without a VALID entry it is lost
(R291 code 13); one addressed to this device stays inside it. -/
def Device.transmit (s : Device) (p : Pkt) : Device :=
  let e := s.routeEntry p.epoch p.dst
  if p.typ = tMcast then s.transmitMcast p
  else if !e.valid then s
  else if e.isLocal then s.emit (.request p)
  else
    match s.pickLane e.lanes with
    | some z => s.sendOn z p
    | none => s.modFab (fun f => { f with held := f.held ++ [p] })

/-- Packets that waited for a lane are offered again, in order, priority packets first, once one is UP (R294, R296). -/
def Device.offerHeld (s : Device) : Device :=
  (s.fab.held.filter isPriority ++ s.fab.held.filter (fun p => !isPriority p)).foldl (fun s p => s.transmit p)
    (s.modFab (fun f => { f with held := [] }))

/-! ## The tick tree (R301, R303) -/

/-- The ring lane of a side that carries TICK and HOLD: the lowest that is UP. West lanes lie on P0 and P1, east ones on P2
and P3 (R276). -/
def Device.treeRing (s : Device) (east : Bool) : Option Nat :=
  (List.range 8).findSome? (fun k =>
    let z := (if east then 32 else 0) + 16 * (k / 4) + 12 + k % 4
    if s.laneRole z == rRing && s.laneState z == lUp && !s.fab.quiesced.contains (k, east) then some z else none)

/-- This device's links of the tick tree: both ring sides, and for a relay the lanes toward its upstream relay. -/
def Device.treeLanes (s : Device) : List Nat :=
  (s.treeRing false).toList ++ (s.treeRing true).toList ++
    (if s.flag F.prtStatusRelay then (List.range 64).filter (fun z => bit s.boot.cat.upLanes z && s.laneState z == lUp)
     else [])

/-- Send a packet on every tick-tree link but the one it came on. A relay's downstream relays hear it too: the spec names no
lane for them. (DEDUCED, log entry 64) -/
def Device.sendTree (s : Device) (p : Pkt) (came : Option Nat) : Device :=
  let s := (s.treeLanes.filter (fun z => some z != came)).foldl (fun s z => s.sendOn z p) s
  if s.flag F.prtStatusRelay then s.emit (.tree p) else s

/-! ## Holds, job stops and withdrawals -/

/-- Hold reasons (R169). -/
def hDeadline : Nat := 1
def hTile : Nat := 2
def hAccession : Nat := 3
def hMemory : Nat := 4
def hCrossing : Nat := 5
def hOptics : Nat := 6
def hFabric : Nat := 7
def hHost : Nat := 8

/-- Job stop causes (R185). -/
def jcTile : Nat := 1
def jcRange : Nat := 2
def jcInvalid : Nat := 3
def jcHoldBudget : Nat := 4
def jcWithdrawal : Nat := 5
def jcHostStop : Nat := 6
def jcMapWriteSet : Nat := 7

/-- Causes of withdrawal (R432). -/
def wHoldBudget : Nat := 1
def wStackLost : Nat := 2
def wResources : Nat := 3
def wHbmHard : Nat := 4
def wDdrHard : Nat := 5
def wCarryLost : Nat := 6
def wStateLost : Nat := 7
def wMemoryCritical : Nat := 8
def wCombLost : Nat := 9
def wTickLost : Nat := 10
def wCuratorLost : Nat := 11
def wThermal : Nat := 12

/-- FRM_MIRROR.SYNC values (R444). -/
def sySynced : Nat := 1
def syCopying : Nat := 2
def syCatchingUp : Nat := 3
def syJoining : Nat := 4
def syMismatch : Nat := 5
def syUnsynced : Nat := 6

/-- The partner is in lockstep (R443). -/
def Device.synced (s : Device) : Bool := s.fget F.frmMirrorSync == sySynced

/-- A resynchronisation is under way (R443). -/
def Device.copying (s : Device) : Bool := decide (syCopying ≤ s.fget F.frmMirrorSync ∧ s.fget F.frmMirrorSync ≤ syJoining)

/-- This partner resynchronises or is out of lockstep: it runs ticks but no frame program and raises no holds (R443). A lease
holder whose partner does so goes on. -/
def Device.resyncing (s : Device) : Bool :=
  s.fget F.frmMirrorRole != 1 && (s.copying || s.fget F.frmMirrorSync == syUnsynced)

/-- R443: a resynchronisation restarts at step 1. After three restarts it ends: the standby stays UNSYNCED, with an ALARM, and the
holder goes on without a partner. (DESIGN CHOICE, log entry 66) -/
def Device.restartCopy (s : Device) : Device :=
  let n := s.fget F.frmResyncRestarts
  let s := s.modFr (fun f => { f with journal := [] })
  if n < 3 then
    ((s.fset F.frmMirrorSync 0 0 syCopying).wr .frmResync 0 0 ((n + 1) * 2 ^ 56)).note
      { kind := kFrm, prio := 2, cls := 1, cause := 30, unit := s.self }
  else if s.fget F.frmMirrorRole = 1 then s.fset F.frmMirrorSync 0 0 0
  else (s.fset F.frmMirrorSync 0 0 syUnsynced).note { kind := kFrm, prio := 0, cls := 4, cause := 30, unit := s.self }

/-- The frame period in ns. -/
def Device.periodNs (s : Device) : Nat := 1000 * s.fget F.frmConfigPeriodUs

/-- A hold raised now for the coming tick is late: the cut-off, 20 µs before it, has passed (R143, R169).
(DEDUCED, log entry 72) -/
def Device.lateNow (s : Device) : Bool := s.fr.past || decide (s.fr.tickAt + s.periodNs < s.now + 20000)

/-- The HOLD packet of a hold or stop (R288, R303), raised by this device's Curator. -/
def Device.holdPacket (s : Device) (h : HoldRec) : Pkt :=
  sealPkt { blankPkt with
    dst := s.self, src := h.raiser, epoch := s.epoch, typ := tHold, seng := 132, addr := h.target,
    arg := h.reason + (if h.stop then 64 else 0) + (if h.late then 128 else 0) }

/-- Register a hold or stop for its target tick (R169, R173). (DEDUCED, log entry 59) -/
def Device.addHold (s : Device) (h : HoldRec) : Device := s.modFr (fun f => { f with holds := addNew f.holds h })

/-- Raise a hold or stop for the coming tick: register it, send it on the tick tree and record it (R169, R173,
R303). One already raised with the same reason is not raised twice. (DEDUCED, log entry 59) -/
def Device.raise (s : Device) (reason : Nat) (stop : Bool) : Device :=
  let h : HoldRec := { target := s.fr.tick + 1, reason := reason, late := s.lateNow, stop := stop,
                       raiser := s.self }
  if s.fr.holds.contains h then s
  else
    ((s.addHold h).sendTree (s.holdPacket h) none).note
      { kind := kFrm, prio := 1, cls := if stop then 5 else 2,
        cause := (if stop then 8 * 256 else 2 * 256) + reason, unit := s.self }

/-- Raise a job stop (R173); FRM_FAULT records it at the target tick. -/
def Device.jobStop (s : Device) (cause : Nat) : Device := if s.running then s.raise cause true else s

/-- The 16 payload bytes of a LEASE beacon for tick `k` (R438). -/
def Device.beaconPayload (s : Device) (k : Nat) (held release : Bool) : List Byte :=
  let role := s.fget F.frmMirrorRole
  leBytes 8 (if held then 0 else s.fget F.frmDigestDigest) ++ leBytes 4 k ++
    leBytes 1 (role + 4 * b2n release + 8 * b2n s.synced + 16 * b2n held) ++
    leBytes 1 (if role = 1 then s.fget F.frmMirrorCount else 0) ++ leBytes 2 s.fr.beaconTick

/-- A LEASE packet with a payload, to the partner (R288, R438). -/
def Device.leasePacket (s : Device) (payload : List Byte) : Pkt :=
  sealPkt { blankPkt with
    dst := s.fget F.frmMirrorPartner, src := s.self, epoch := s.epoch, typ := tLease, len := 1,
    seng := 132, payload := payload }

/-- Send a beacon to the partner and to the gateway (R438). -/
def Device.sendBeacon (s : Device) (k : Nat) (held release : Bool) : Device :=
  let p := s.leasePacket (s.beaconPayload k held release)
  (s.transmit p).emit (.toGateway p)

/-- A LEASE beacon with RELEASE set, sent at once (R431, R438); the lease is given up. -/
def Device.sendRelease (s : Device) : Device :=
  (s.modFr (fun f => { f with beaconRelease := true })).sendBeacon s.fr.tick s.fr.heldBeacon true

/-- A standby leaves its pair (R431): a beacon tells the partner at once that no partner is in lockstep any more.
(DEDUCED, log entry 68) -/
def Device.leavePair (s : Device) : Device :=
  let s := s.fset F.frmMirrorSync 0 0 syUnsynced
  ((s.fset F.frmMirrorRole 0 0 0).sendBeacon s.fr.tick s.fr.heldBeacon false).fset F.frmMirrorRole 0 0 2

/-- No Curator core is active: heartbeats have stopped for 100 ms, or a takeover is not yet complete (R434).
(DEDUCED, log entry 131) -/
def Device.coreless (s : Device) : Bool := s.ctl.coreRuns && (s.ctl.takingOver || decide (s.ctl.heartbeatAt + 100000000 ≤ s.now))

/-- The reason of the hold that a cause of withdrawal raises while no core is active (R169, R434). (DEDUCED, log entry 131) -/
def withdrawReason (cause : Nat) : Nat :=
  if cause = wStackLost then hCrossing
  else if cause = wCarryLost then hTile
  else if cause = wHbmHard ∨ cause = wDdrHard ∨ cause = wStateLost ∨ cause = wMemoryCritical then hMemory
  else if cause = wResources ∨ cause = wCombLost then hOptics
  else if cause = wTickLost then hFabric
  else hDeadline

/-- R431: the cause of a withdrawal arises in a running job. With no Curator core active it waits under a hold (R434). The device leaves at the coming tick: with a
job stop (R185 names HOLD_BUDGET apart from the other causes), with a RELEASE and a hold, or as a standby without either.
(DEDUCED, log entries 63 and 68) -/
def Device.withdraw (s : Device) (cause : Nat) : Device :=
  if !s.running || s.fr.withdraw != 0 then s
  else if s.coreless then (s.modFr (fun f => { f with withdrawDue := cause })).raise (withdrawReason cause) false
  else
    let s := s.modFr (fun f => { f with withdraw := cause })
    if s.synced && s.fget F.frmMirrorRole == 1 then s.sendRelease.raise hFabric false
    else if s.fget F.frmMirrorRole == 2 then (if s.synced then s.leavePair else s)
    else s.jobStop (if cause = wHoldBudget then jcHoldBudget else jcWithdrawal)

/-- A core is active again: what waited for it is done. -/
def Device.coreBack (s : Device) : Device :=
  if s.fr.withdrawDue = 0 then s else (s.modFr (fun f => { f with withdrawDue := 0 })).withdraw s.fr.withdrawDue

/-- Raise a hold for the coming tick (R169): nothing in a device that resynchronises (R443) or already
withdraws; at the hold budget the device escalates instead (R172). -/
def Device.raiseHold (s : Device) (reason : Nat) : Device :=
  if !s.running || s.resyncing || s.fr.withdraw != 0 then s
  else if s.fget F.frmHoldLimit ≤ s.fget F.frmHoldConsec then s.withdraw wHoldBudget
  else s.raise reason false

/-- R421: the hold budget leaves room for `n` more holds. (DEDUCED, log entry 113) -/
def Device.roomForHolds (s : Device) (n : Nat) : Bool :=
  decide (s.fget F.frmHoldConsec + n ≤ s.fget F.frmHoldLimit)

/-- The holds an accession of `us` µs needs (R421). -/
def Device.holdsNeeded (s : Device) (us : Nat) : Nat := ceilDiv us (max 1 (s.fget F.frmConfigPeriodUs)) + 1

end Sys2Proof.Machine
end

