-- ==== Sys2Proof/Machine/Energy.lean ====
section
/-! DEFINITION. The energy model (R384, R385): events counted where they occur, in fJ, by account. The accounts run on from power-up;
what reads them keeps the values they had at the start of its interval. -/

namespace Sys2Proof.Machine

/-- The accounts: a stack's dynamic energy as at the budgeted step, and as drawn at the voltage in force; a HBM4 stack; the DDR5 tier;
LINKS as lit, and with nothing dimmed; the SRAM layer of a region of a stack (R399). -/
def acStack (c : Nat) : Nat := c
def acDrawn (c : Nat) : Nat := 16 + c
def acHbm (m : Nat) : Nat := 32 + m
def acDdr : Nat := 52
def acLinks : Nat := 53
def acUndimmed : Nat := 54
def acSram (c k : Nat) : Nat := 64 + 8 * c + k

/-- Coefficient k (R384, R410). -/
def Device.coef (s : Device) (k : Nat) : Nat := s.fget F.pwrCoefValue 0 k

/-- The budgeted step of the image. (DEDUCED, log entry 95) -/
def Device.budgetStep (s : Device) : Nat := (s.job.clkMhz - 750) / 25

/-- The Catalogue's voltage of a step, in mV. -/
def Device.voltOf (s : Device) (c k : Nat) : Nat := s.boot.cat.volt.getD (37 * c + k) 0

/-- A dynamic energy at the voltage in force: scaled by (V_s / V_b)². -/
def Device.atVolt (s : Device) (c e : Nat) : Nat :=
  let v := s.voltOf c (s.die c).volt
  let b := s.voltOf c s.budgetStep
  if b = 0 then e else e * (v * v) / (b * b)

def Device.addEnergy (s : Device) (a e : Nat) : Device := if e = 0 then s else { s with energy := s.energy.upd 0 a (· + e) }

/-- The region of a tile's SRAM layer: the number k = 2i + h of its stack's SRAM sensor (R390, R399). -/
def regionOf (t : Nat) : Nat := 2 * (t / 17 / 4) + (if t % 17 < 9 then 0 else 1)

/-- `n` events of coefficient k at a tile; line accesses are those of its SRAM layer. -/
def Device.spendTile (s : Device) (c t k n : Nat) : Device :=
  let e := s.coef k * n
  if e = 0 then s
  else
    let d := s.atVolt c e
    let s := (s.addEnergy (acStack c) e).addEnergy (acDrawn c) d
    if k = 3 then s.addEnergy (acSram c (regionOf t)) d else s

/-- The coefficient of a tile event that R139 counts too, and its size: a line access, a flit's hop, the 64 lanes of a vector instruction. -/
def eventCoef (ev : Nat) : Option (Nat × Nat) :=
  if ev = 0x06 ∨ ev = 0x07 then some (3, 1)
  else if ev = 0x08 then some (4, 1)
  else if ev = 0x05 then some (2, 64)
  else none

def Device.spendEvent (s : Device) (c t ev n : Nat) : Device :=
  match eventCoef ev with
  | some (k, m) => s.spendTile c t k (m * n)
  | none => s

/-- Bytes read or written at a HBM4 stack, and at a DIMM. -/
def Device.spendHbm (s : Device) (m bytes : Nat) : Device := s.addEnergy (acHbm m) (s.coef 6 * bytes)
def Device.spendDdr (s : Device) (bytes : Nat) : Device := s.addEnergy acDdr (s.coef 7 * bytes)

end Sys2Proof.Machine
end

