-- ==== Sys2Proof/Machine/Float.lean ====
section
/-! DEFINITION. Binary floating point: one decoder, one rounding to nearest even (R73), and the exact
operations of the vector unit over them (R50, R51, R74, R75). -/

namespace Sys2Proof.Machine

/-- A binary format: precision p (hidden bit included) and exponent width (R50). -/
structure Fmt where
  p : Nat
  ew : Nat
  deriving DecidableEq, Repr

/-- FP32, FP16 and BF16 (R50). -/
def fp32 : Fmt := ⟨24, 8⟩
def fp16 : Fmt := ⟨11, 5⟩
def bf16 : Fmt := ⟨8, 8⟩

/-- The exponent bias (R50). -/
def Fmt.bias (f : Fmt) : Int := (2 ^ (f.ew - 1) : Nat) - 1

/-- The width of a code. -/
def Fmt.width (f : Fmt) : Nat := f.p + f.ew

/-- The code of +Inf. -/
def Fmt.inf (f : Fmt) : Nat := (2 ^ f.ew - 1) * 2 ^ (f.p - 1)

/-- The sign bit's weight. -/
def Fmt.sign (f : Fmt) : Nat := 2 ^ (f.p + f.ew - 1)

/-- The canonical quiet NaN (R71): 0x7FC0_0000, 0x7E00, 0x7FC0. -/
def Fmt.nan (f : Fmt) : Nat := f.inf + 2 ^ (f.p - 2)

/-- A decoded value: NaN, an infinity, or (−1)^neg × m × 2^e. -/
inductive FV where
  | nan
  | inf (neg : Bool)
  | fin (neg : Bool) (m : Nat) (e : Int)
  deriving DecidableEq, Repr

/-- R51: the value of a code. -/
def Fmt.decode (f : Fmt) (c : Nat) : FV :=
  let neg := bit c (f.p + f.ew - 1)
  let ex := bits c (f.p - 1) f.ew
  let m := bits c 0 (f.p - 1)
  if ex = 2 ^ f.ew - 1 then (if m = 0 then .inf neg else .nan)
  else if ex = 0 then .fin neg m (1 - f.bias - ((f.p : Int) - 1))
  else .fin neg (2 ^ (f.p - 1) + m) (ex - f.bias - ((f.p : Int) - 1))

/-- The nearest integer to m × 2^(−k), ties to even; `sticky` says the exact number lies strictly between
m and m + 1. -/
def rneShift (m k : Nat) (sticky : Bool) : Nat :=
  let q := m / 2 ^ k
  let r := m % 2 ^ k
  let half := 2 ^ k / 2
  if k = 0 then q
  else if r > half ∨ (r = half ∧ (sticky ∨ q % 2 = 1)) then q + 1
  else q

/-- The magnitude code of m × 2^e rounded once to nearest even, subnormals kept, not yet checked against
the largest finite code (R71, R73, R74). -/
def Fmt.roundMag (f : Fmt) (m : Nat) (e : Int) (sticky : Bool) : Nat :=
  if m = 0 then 0
  else
    let lead : Int := Nat.log2 m + e
    let emin : Int := 1 - f.bias
    let q : Int := max (lead - ((f.p : Int) - 1)) (emin - ((f.p : Int) - 1))
    let k : Int := q - e
    let r := if k ≤ 0 then m * 2 ^ (-k).toNat else rneShift m k.toNat sticky
    ((q - (emin - ((f.p : Int) - 1))).toNat) * 2 ^ (f.p - 1) + r

/-- The code of (−1)^neg × m × 2^e rounded once, with overflow to ±Inf (R71, R74). (DEDUCED, log entry 110) -/
def Fmt.round (f : Fmt) (neg : Bool) (m : Nat) (e : Int) (sticky : Bool) : Nat :=
  let r := f.roundMag m e sticky
  (if neg then f.sign else 0) + (if f.inf ≤ r then f.inf else r)

/-- The code of a decoded value. (DEDUCED, log entry 110) -/
def Fmt.encode (f : Fmt) : FV → Nat
  | .nan => f.nan
  | .inf neg => (if neg then f.sign else 0) + f.inf
  | .fin neg m e => f.round neg m e false

/-- The signed integer of a finite value at exponent `e0` ≤ e. -/
def scaled (neg : Bool) (m : Nat) (e e0 : Int) : Int :=
  let n : Int := (m * 2 ^ (e - e0).toNat : Nat)
  if neg then -n else n

/-- The exact sum of two finite values, rounded once; an exact zero from unlike signs is +0. -/
def Fmt.addFin (f : Fmt) (na : Bool) (ma : Nat) (ea : Int) (nb : Bool) (mb : Nat) (eb : Int) : Nat :=
  let e0 := min ea eb
  let t := scaled na ma ea e0 + scaled nb mb eb e0
  if t = 0 then (if na && nb then f.sign else 0)
  else f.round (decide (t < 0)) t.natAbs e0 false

/-- Addition (R74). -/
def Fmt.addV (f : Fmt) : FV → FV → Nat
  | .nan, _ => f.nan
  | _, .nan => f.nan
  | .inf a, .inf b => if a = b then f.encode (.inf a) else f.nan
  | .inf a, .fin _ _ _ => f.encode (.inf a)
  | .fin _ _ _, .inf b => f.encode (.inf b)
  | .fin na ma ea, .fin nb mb eb => f.addFin na ma ea nb mb eb

/-- The value with its sign turned. -/
def FV.neg : FV → FV
  | .nan => .nan
  | .inf a => .inf (!a)
  | .fin n m e => .fin (!n) m e

/-- The exact product of two values; NaN for 0 × Inf. -/
def FV.mul : FV → FV → FV
  | .nan, _ => .nan
  | _, .nan => .nan
  | .inf a, .inf b => .inf (a != b)
  | .inf a, .fin n m _ => if m = 0 then .nan else .inf (a != n)
  | .fin n m _, .inf b => if m = 0 then .nan else .inf (n != b)
  | .fin na ma ea, .fin nb mb eb => .fin (na != nb) (ma * mb) (ea + eb)

/-- Fused multiply-add: the exact a × b + c rounded once (R74). -/
def Fmt.fmaV (f : Fmt) (a b c : FV) : Nat := f.addV (a.mul b) c

/-- Division, correctly rounded (R74). -/
def Fmt.divV (f : Fmt) : FV → FV → Nat
  | .nan, _ => f.nan
  | _, .nan => f.nan
  | .inf _, .inf _ => f.nan
  | .inf a, .fin n _ _ => f.encode (.inf (a != n))
  | .fin n _ _, .inf b => f.encode (.fin (n != b) 0 0)
  | .fin na ma ea, .fin nb mb eb =>
    if mb = 0 then (if ma = 0 then f.nan else f.encode (.inf (na != nb)))
    else
      let num := ma * 2 ^ 64
      f.round (na != nb) (num / mb) (ea - eb - 64) (decide (num % mb ≠ 0))

/-- The integer square root, bit by bit from bit `k`. -/
def isqrt : Nat → Nat → Nat → Nat
  | 0, _, r => r
  | k + 1, n, r => isqrt k n (if (r + 2 ^ k) * (r + 2 ^ k) ≤ n then r + 2 ^ k else r)

/-- Square root, correctly rounded; NaN below zero, ±0 for ±0 (R74). -/
def Fmt.sqrtV (f : Fmt) : FV → Nat
  | .nan => f.nan
  | .inf neg => if neg then f.nan else f.inf
  | .fin neg m e =>
    if m = 0 then (if neg then f.sign else 0)
    else if neg then f.nan
    else
      let s : Nat := if e % 2 = 0 then 64 else 65
      let n := m * 2 ^ s
      let r := isqrt 64 n 0
      f.round false r ((e - s) / 2) (decide (r * r ≠ n))

/-- The order of R74's minimum and maximum over two values that are not NaN: −0 below +0. -/
def FV.lt : FV → FV → Bool
  | .nan, _ => false
  | _, .nan => false
  | .inf a, .inf b => a && !b
  | .inf a, .fin _ _ _ => a
  | .fin _ _ _, .inf b => !b
  | .fin na ma ea, .fin nb mb eb =>
    let e0 := min ea eb
    let x := scaled na ma ea e0
    let y := scaled nb mb eb e0
    decide (x < y) || (decide (x = 0 ∧ y = 0) && na && !nb)

/-- Minimum and maximum of two codes (R74): NaN if either is NaN. -/
def Fmt.minC (f : Fmt) (a b : Nat) : Nat :=
  let x := f.decode a
  let y := f.decode b
  if x = .nan ∨ y = .nan then f.nan else if y.lt x then b else a

def Fmt.maxC (f : Fmt) (a b : Nat) : Nat :=
  let x := f.decode a
  let y := f.decode b
  if x = .nan ∨ y = .nan then f.nan else if x.lt y then b else a

/-- FP32 to int32: nearest even, saturating, NaN to 0 (R74). -/
def toInt32 (c : Nat) : Nat :=
  match fp32.decode c with
  | .nan => 0
  | .inf neg => if neg then 0x80000000 else 0x7FFFFFFF
  | .fin neg m e =>
    let r : Nat := if e ≥ 0 then m * 2 ^ e.toNat else rneShift m (-e).toNat false
    if neg then (if r > 0x80000000 then 0x80000000 else unsigned 32 (-(r : Int)))
    else (if r > 0x7FFFFFFF then 0x7FFFFFFF else r)

/-- int32 to FP32, correctly rounded (R74). -/
def ofInt32 (c : Nat) : Nat :=
  let x := signed 32 c
  fp32.round (decide (x < 0)) x.natAbs 0 false

/-- Conversion between formats, correctly rounded with overflow to ±Inf, NaN canonical (R74). -/
def convert (src dst : Fmt) (c : Nat) : Nat := dst.encode (src.decode c)

/-- An FP32 lane rounded to BF16 and held widened (R75, R97 RBF). -/
def toBf (c : Nat) : Nat := convert bf16 fp32 (convert fp32 bf16 c)

/-- An FP32 lane rounded to FP16 and held as FP32 (R97 RHF). -/
def toHf (c : Nat) : Nat := convert fp16 fp32 (convert fp32 fp16 c)

/-- A binary operation on FP32 lanes, or in BF16 mode on lanes first rounded to BF16, with the exact
result rounded once to BF16 (R75). `op` is an operation of `Fmt` over decoded values. -/
def laneOp2 (bf : Bool) (op : Fmt → FV → FV → Nat) (a b : Nat) : Nat :=
  if bf then convert bf16 fp32 (op bf16 (fp32.decode (toBf a)) (fp32.decode (toBf b)))
  else op fp32 (fp32.decode a) (fp32.decode b)

/-- FP32 operations on codes, each rounded once (`rn` and `fma` of R76). -/
def fAdd (a b : Nat) : Nat := fp32.addV (fp32.decode a) (fp32.decode b)
def fSub (a b : Nat) : Nat := fp32.addV (fp32.decode a) (fp32.decode b).neg
def fMul (a b : Nat) : Nat := fp32.encode ((fp32.decode a).mul (fp32.decode b))
def fDiv (a b : Nat) : Nat := fp32.divV (fp32.decode a) (fp32.decode b)
def fFma (a b c : Nat) : Nat := fp32.fmaV (fp32.decode a) (fp32.decode b) (fp32.decode c)

/-- The FP32 code with its sign bit turned. -/
def fNeg (a : Nat) : Nat := if bit a 31 then a - 2 ^ 31 else a + 2 ^ 31

/-- The FP32 code of the magnitude. -/
def fAbs (a : Nat) : Nat := a % 2 ^ 31

/-- copysign(g, x) of R76. -/
def fCopysign (g x : Nat) : Nat := g % 2 ^ 31 + (if bit x 31 then 2 ^ 31 else 0)

/-- The FP32 code of an integer. -/
def fOfInt (x : Int) : Nat := fp32.round (decide (x < 0)) x.natAbs 0 false

/-- rint of R76 as an integer: nearest, ties to even (0 for NaN and Inf). -/
def fRint (a : Nat) : Int :=
  match fp32.decode a with
  | .fin neg m e =>
    let r : Nat := if e ≥ 0 then m * 2 ^ e.toNat else rneShift m (-e).toNat false
    if neg then -(r : Int) else r
  | _ => 0

/-- rn(y × 2^k): one rounding (R77). -/
def fScale (a : Nat) (k : Int) : Nat :=
  match fp32.decode a with
  | .fin neg m e => fp32.round neg m (e + k) false
  | v => fp32.encode v

/-- x < y over FP32 codes; false when either is NaN. −0 is not below 0 (R78). -/
def fLt (a b : Nat) : Bool :=
  match fp32.decode a, fp32.decode b with
  | .fin na ma ea, .fin nb mb eb =>
    let e0 := min ea eb
    decide (scaled na ma ea e0 < scaled nb mb eb e0)
  | x, y => x.lt y

def fIsNan (a : Nat) : Bool := decide (fp32.decode a = .nan)

end Sys2Proof.Machine
end

