-- ==== Sys2Proof/Machine/Numfmt.lean ====
section
/-! DEFINITION. Element formats, exact window accumulation and the conversions out of it (R50–R75, R109,
R111). -/

namespace Sys2Proof.Machine

/-- The element formats in the encoding of R109. -/
inductive Elem where
  | bxint4 | mxfp4 | bq3 | e4m3 | e5m2 | e3m2 | e2m3 | mxint8
  deriving DecidableEq, Repr

/-- R109; codes 8–15 are rejected. -/
def Elem.ofCode : Nat → Option Elem
  | 0 => some .bxint4 | 1 => some .mxfp4 | 2 => some .bq3 | 3 => some .e4m3
  | 4 => some .e5m2 | 5 => some .e3m2 | 6 => some .e2m3 | 7 => some .mxint8
  | _ => none

/-- Element width in bits (R50). -/
def Elem.width : Elem → Nat
  | .bxint4 => 4 | .mxfp4 => 4 | .bq3 => 3 | .e4m3 => 8 | .e5m2 => 8 | .e3m2 => 6 | .e2m3 => 6 | .mxint8 => 8

/-- Bytes per block of 32 (R55). -/
def Elem.blockBytes (f : Elem) : Nat := 4 * f.width

/-- The layout of a floating-point element: mantissa bits, exponent bits, bias (R50). -/
def Elem.layout : Elem → Nat × Nat × Int
  | .mxfp4 => (1, 2, 1) | .e4m3 => (3, 4, 7) | .e5m2 => (2, 5, 15)
  | .e3m2 => (2, 3, 3) | .e2m3 => (3, 2, 1) | _ => (0, 0, 0)

/-- An element code that is a NaN or Inf (R50, R52). -/
def Elem.invalid : Elem → Nat → Bool
  | .e4m3, c => c % 128 == 127
  | .e5m2, c => 124 ≤ c % 128
  | _, _ => false

/-- R51: significand and exponent of an element; a BQ3 code reads its codebook word. -/
def Elem.decode (f : Elem) (cb c : Nat) : Int × Int :=
  match f with
  | .bxint4 => (signed 4 c, 0)
  | .mxint8 => (signed 8 c, -6)
  | .bq3 => (signed 4 (bits cb (4 * (c % 8)) 4), 0)
  | _ =>
    let (n, ew, bias) := f.layout
    let e := bits c n ew
    let m := bits c 0 n
    let q : Int := if e = 0 then m else (2 ^ n + m : Nat)
    let ex : Int := (if e = 0 then 1 else (e : Int)) - bias - n
    (if bit c (n + ew) then -q else q, ex)

/-- The operand pairs of R56 in the encoding of R108: W4A8, BQ3-A8, W4A4, W8A8. -/
def pairOk (pair : Nat) (w a : Elem) : Bool :=
  let a8 := a == .e4m3 || a == .e5m2 || a == .e3m2 || a == .e2m3 || a == .mxint8
  let w8 := w == .e4m3 || w == .e5m2 || w == .e3m2 || w == .e2m3 || w == .mxint8
  match pair with
  | 0 => (w == .bxint4 || w == .mxfp4) && a8
  | 1 => w == .bq3 && a8
  | 2 => (w == .bxint4 || w == .mxfp4 || w == .bq3) && (a == .mxfp4 || a == .bxint4)
  | 3 => w8 && a8
  | _ => false

/-- R62: the sum of two EWA values. (DEDUCED, log entry 110) -/
def Ewa.add (x y : Ewa) : Ewa := ⟨x.v + y.v, x.range || y.range, x.invalid || y.invalid⟩

/-- An EWA value from an exact integer n × 2^k, truncated toward minus infinity and saturated (R60). -/
def Ewa.align (n k : Int) : Ewa :=
  let p : Int := if k ≥ 0 then n * (2 ^ k.toNat : Nat) else n / (2 ^ (-k).toNat : Nat)
  let hi : Int := (2 ^ 95 : Nat) - 1
  let lo : Int := -(2 ^ 95 : Nat)
  if p > hi then ⟨BitVec.ofInt 120 hi, true, false⟩
  else if p < lo then ⟨BitVec.ofInt 120 lo, true, false⟩
  else ⟨BitVec.ofInt 120 p, false, false⟩

/-- The invalid product of R60: zero, with INVALID. -/
def Ewa.bad : Ewa := ⟨0, false, true⟩

/-- R60: one product of an activation element and a weight element under an anchor. (DEDUCED, log entry 110) -/
def product (fa fw : Elem) (cb ca cw xa xw : Nat) (anchor : Int) : Ewa :=
  if fa.invalid ca || fw.invalid cw || xa == 255 || xw == 255 then .bad
  else
    let (qa, ea) := fa.decode 0 ca
    let (qw, ew) := fw.decode cb cw
    let n := qa * qw
    let k := ea + ew + ((xa : Int) - 127) + ((xw : Int) - 127) - anchor
    if n = 0 then {} else Ewa.align n k

/-- R67: an FP32 value entering an EWA register. -/
def Ewa.ofFp32 (c : Nat) (anchor : Int) : Ewa :=
  match fp32.decode c with
  | .fin neg m e => if m = 0 then {} else Ewa.align (if neg then -(m : Int) else m) (e - anchor)
  | _ => .bad

/-- R63: the window value and whether RANGE is set once it is read. -/
def Ewa.window (x : Ewa) : Int × Bool :=
  let v := x.v.toInt
  let hi : Int := (2 ^ 95 : Nat) - 1
  let lo : Int := -(2 ^ 95 : Nat)
  if v > hi then (hi, true) else if v < lo then (lo, true) else (v, x.range)

/-- R66: the memory form. -/
def Ewa.toNat (x : Ewa) : Nat :=
  x.v.toNat + (if x.range then 2 ^ 120 else 0) + (if x.invalid then 2 ^ 121 else 0)

/-- R66: reserved bits are ignored on input. -/
def Ewa.ofNat (n : Nat) : Ewa := ⟨BitVec.ofNat 120 n, bit n 120, bit n 121⟩

/-- Events of one conversion: range and invalid (R68). -/
structure Events where
  range : Nat := 0
  invalid : Nat := 0
  deriving DecidableEq, Repr

def Events.add (x y : Events) : Events := ⟨x.range + y.range, x.invalid + y.invalid⟩

/-- R71: conversion of an EWA value of anchor A to FP32, FP16 or BF16, with its events (R68). A result that
rounds to zero is +0. -/
def Ewa.toFloat (x : Ewa) (f : Fmt) (anchor : Int) : Nat × Events :=
  if x.invalid then (f.nan, ⟨0, 1⟩)
  else
    let (s, r) := x.window
    let c := f.round (decide (s < 0)) s.natAbs anchor false
    (if c % f.sign = 0 then 0 else c, ⟨if r || c % f.sign == f.inf then 1 else 0, 0⟩)

/-- emax and the magnitude code of the clamp bound (R72). -/
def Elem.emax : Elem → Int
  | .e4m3 => 8 | .e5m2 => 15 | .e3m2 => 4 | .e2m3 => 2 | .mxfp4 => 2 | .mxint8 => 0 | .bxint4 => 2 | .bq3 => 0

def Elem.clampMag : Elem → Nat
  | .e4m3 => 0x7E | .e5m2 => 0x7B | .e3m2 => 0x1F | .e2m3 => 0x1F | .mxfp4 => 7 | _ => 0

/-- A nearest-even integer of n × 2^e. -/
def rneInt (n : Int) (e : Int) : Int :=
  if e ≥ 0 then n * (2 ^ e.toNat : Nat)
  else
    let r : Int := rneShift n.natAbs (-e).toNat false
    if n < 0 then -r else r

/-- R72: the element code of s × 2^e (already divided by the block scale). -/
def Elem.encode (f : Elem) (s e : Int) : Nat :=
  match f with
  | .mxint8 => unsigned 8 (max (-128) (min 127 (rneInt s (e + 6))))
  | .bxint4 => unsigned 4 (max (-8) (min 7 (rneInt s e)))
  | .bq3 => 0
  | _ =>
    let (n, ew, _) := f.layout
    let g : Fmt := ⟨n + 1, ew⟩
    let r := g.roundMag s.natAbs e false
    let r := if f.clampMag < r then f.clampMag else r
    r + (if s < 0 ∧ r ≠ 0 then 2 ^ (n + ew) else 0)

/-- floor(log2 (m × 2^e)) for m ≠ 0. -/
def log2Of (m : Nat) (e : Int) : Int := Nat.log2 m + e

/-- The largest of |s| × 2^e over a block: magnitude and exponent, compared exactly. -/
def blockMax : List (Int × Int) → Nat × Int
  | [] => (0, 0)
  | (s, e) :: l =>
    let (m, e') := blockMax l
    let e0 := min e e'
    if m * 2 ^ (e' - e0).toNat ≤ s.natAbs * 2 ^ (e - e0).toNat then (s.natAbs, e) else (m, e')

/-- R72: one block of 32 numbers s × 2^e to a scale byte, 32 element codes, and whether the shared exponent
was clamped at 127. `none` in the list is an invalid input. (DEDUCED, log entry 110) -/
def mxConvert (f : Elem) (vs : List (Option (Int × Int))) : Nat × List Nat × Bool :=
  if vs.any (· == none) then (0xFF, vs.map (fun _ => 0), false)
  else
    let ns := vs.filterMap id
    let (m, e) := blockMax ns
    if m = 0 then (0, ns.map (fun _ => 0), false)
    else
      let x0 := log2Of m e - f.emax
      let x := max (-127) (min 127 x0)
      ((x + 127).toNat, ns.map (fun (s, e) => f.encode s (e - x)), decide (x0 > 127))

/-- R72 with R68: a block of EWA values of one anchor to an MX format. -/
def mxOfEwa (f : Elem) (anchor : Int) (xs : List Ewa) : Nat × List Nat × Events :=
  let (sc, es, cl) := mxConvert f (xs.map (fun x =>
    if x.invalid then none else some (x.window.1, anchor)))
  let ev := xs.foldl (fun (a : Events) x =>
    a.add (if x.invalid then ⟨0, 1⟩ else if x.window.2 then ⟨1, 0⟩ else ⟨0, 0⟩)) {}
  (sc, es, ev.add ⟨if cl then 1 else 0, 0⟩)

/-- The number that an FP32 lane holds, for a conversion; none for a NaN or an infinity (R75). -/
def laneNumber (c : Nat) : Option (Int × Int) :=
  match fp32.decode c with
  | .fin neg m e => some (if neg then -(m : Int) else m, e)
  | _ => none

/-- R75: the vector unit's conversion of 32 FP32 or widened BF16 values to a format of R72. No instruction of R97 names it, so
no command reaches it (log entry 117). -/
def mxOfLanes (f : Elem) (cs : List Nat) : Nat × List Nat × Bool := mxConvert f (cs.map laneNumber)

/-- Elements of one block packed little-endian (R55). -/
def packBlock (f : Elem) (es : List Nat) : List Byte :=
  leBytes f.blockBytes (es.foldr (fun e acc => acc * 2 ^ f.width + e) 0)

/-- Element k of a packed block (R55). -/
def blockElem (f : Elem) (block : List Byte) (k : Nat) : Nat := bits (leNat block) (f.width * k) f.width

end Sys2Proof.Machine
end

