-- ==== Sys2Proof/Machine/Flags.lean ====
section
/-! DEFINITION. Event and flag computations of a tile: its performance counters and their wrap (R136–R140),
its range and invalid events (R68–R70). -/

namespace Sys2Proof.Machine

/-- Countable tile events (R139). -/
def evIssue : Nat := 0x01
def evThreadWait : Nat := 0x02
def evMmaBusy : Nat := 0x03
def evProductsK : Nat := 0x04
def evVecIssue : Nat := 0x05
def evSramRd : Nat := 0x06
def evSramWr : Nat := 0x07
def evLinkOut : Nat := 0x08
def evLinkIn : Nat := 0x09
def evLinkStall : Nat := 0x0A
def evJoins : Nat := 0x0B
def evRemoteReq : Nat := 0x0C
def evRemoteLate : Nat := 0x0D
def evUnwritten : Nat := 0x0E
def evParity : Nat := 0x0F
def evLbMerged : Nat := 0x10
def evLbConflict : Nat := 0x11
def evRouteMiss : Nat := 0x12

/-- A thread can be diverted: not in IDLE, DONE or FAULTED, and not in its handler (R140). -/
def Thread.divertible (th : Thread) : Bool :=
  !(th.st == .idle || th.st == .done || th.st == .faulted) && !th.inHandler

/-- R140: counter n of a tile wraps: OVF is set, and with SAMPLE the named thread is diverted to HANDLER. A diverted thread that waits
goes on waiting, and runs the handler once its wait ends: the spec does not say whether a diversion breaks a wait. (DESIGN CHOICE,
log entry 118) -/
def Device.counterWrap (s : Device) (c t n : Nat) : Device :=
  let b := 272 * c + t
  let s1 := s.setFlag F.tilePmselOvf b n true
  let k := s.fget F.tilePmselThread b n
  if s.flag F.tilePmselSample b n && (s.thread c t k).divertible then
    s1.modThread c t k (fun th =>
      { th with epc := th.pc, pc := s.fget F.tilePmctlHandler b, inHandler := true })
  else s1

/-- Link events, which ARG narrows to a port (R137). -/
def isLinkEvent (ev : Nat) : Bool := ev == evLinkOut || ev == evLinkIn || ev == evLinkStall

/-- Counter n counts event `ev` of resource `arg`: a port for a link event, a thread for THREAD_WAIT, where ARG 8 takes all
(R137, R139). -/
def Device.selects (s : Device) (b n ev arg : Nat) : Bool :=
  let a := s.fget F.tilePmselArg b n
  s.fget F.tilePmselEvent b n == ev && (!isLinkEvent ev || a == arg) && (ev != evThreadWait || a == arg || a == 8)

/-- Add `k` events to counter n, modulo 2^48 (R136). -/
def Device.countOne (s : Device) (c t n k : Nat) : Device :=
  let b := 272 * c + t
  let v := s.fget F.tilePmcCount b n + k
  let s1 := s.fset F.tilePmcCount b n v
  if v < 2 ^ 48 then s1 else s1.counterWrap c t n

/-- `k` events of a kind at a tile: their energy (R385), and the tile's counters when they are enabled (R138). -/
def Device.count (s : Device) (c t ev arg k : Nat) : Device :=
  let s := s.spendEvent c t ev k
  let b := 272 * c + t
  if s.flag F.tilePmctlEnable b && k != 0 then
    (List.range 8).foldl (fun s n => if s.selects b n ev arg then s.countOne c t n k else s) s
  else s

/-- R68: count conversion events at a tile; under a FAULT policy of the image the first event makes the frame
a job fault, which stops the job without a hold. -/
def Device.arith (s : Device) (c t : Nat) (e : Events) : Device :=
  let b := 272 * c + t
  let s := (s.fsat F.tileArithRangeCur b 0 e.range).fsat F.tileArithInvalidCur b 0 e.invalid
  let s := if e.range != 0 && bit s.job.policy 0 then s.jobStop jcRange else s
  if e.invalid != 0 && bit s.job.policy 1 then s.jobStop jcInvalid else s

end Sys2Proof.Machine
end

