-- ==== Sys2Proof/Machine/Operands.lean ====
section
/-! DEFINITION. Operand forms: tile-local addresses and the SRAM behind them (R84–R87, R106), register
operands (R90), the fields of the matrix, conversion and stream descriptors (R108, R111, R119), memory
layouts of a vector (R97). -/

namespace Sys2Proof.Machine

/-! ## Tile-local addresses -/

/-- What a tile-local address needs to be resolved: RES_TOP, CS, the bank of the carry-in window, and whether
the carry-out window may be written (R164) and read (R87) now. -/
structure SramMap where
  resTop : Nat
  cs : Nat
  bank : Nat
  outWrite : Bool
  outRead : Bool
  deriving DecidableEq, Repr

/-- R84: CB0. -/
def SramMap.cb0 (m : SramMap) : Nat := 0x180000 - 2 * m.cs

/-- The map of a tile now. Between a provisional commit and its confirm point the bits of the carry-out bank
are not yet cleared, and a read through its window returns zeros (R87). -/
def Device.sramMap (s : Device) (c t : Nat) : SramMap :=
  let b := 272 * c + t
  { resTop := 65536 * s.fget F.tileSramMapResGran b, cs := 16384 * s.fget F.tileSramMapCarryGran b,
    bank := s.fget F.tileSramMapBank b, outWrite := !s.settling, outRead := !s.fr.provisional }

/-- The regions of R84. -/
inductive SramRegion where
  | resident | scratch | carryIn | carryOut
  deriving DecidableEq, Repr

/-- R84, R86: the region and physical SRAM offset of a tile-local address; `none` is a RANGE fault. -/
def SramMap.at_ (m : SramMap) (a : Nat) : Option (SramRegion × Nat) :=
  if a < m.resTop then some (.resident, a)
  else if a < m.cb0 then some (.scratch, a)
  else if 0x800000 ≤ a ∧ a < 0x800000 + m.cs then some (.carryIn, m.cb0 + m.bank * m.cs + (a - 0x800000))
  else if 0xC00000 ≤ a ∧ a < 0xC00000 + m.cs then
    some (.carryOut, m.cb0 + (1 - m.bank) * m.cs + (a - 0xC00000))
  else none

/-- The tile-local addresses of the lines that `n` bytes at `a` touch. -/
def linesOf (a n : Nat) : List Nat :=
  if n = 0 then [] else (List.range ((a % 64 + n + 63) / 64)).map (fun i => 64 * (a / 64) + 64 * i)

/-- A line reads as stored: it is resident, or its written bit is set and its window may be read (R87). -/
def Tile.holds (x : Tile) (m : SramMap) (a : Nat) : Bool :=
  match m.at_ a with
  | some (.resident, _) => true
  | some (.carryOut, p) => m.outRead && x.written.contains (p / 64)
  | some (_, p) => x.written.contains (p / 64)
  | none => false

/-- A read of the line at `a` finds a byte-parity error: stored so, or hit by the upset of this command. -/
def Tile.lineBad (x : Tile) (m : SramMap) (upset : Option Nat) (a : Nat) : Bool :=
  x.holds m a && (upset == some a || (m.at_ a).any (fun r => x.bad.contains (r.2 / 64)))

/-- One byte at a tile-local address; unwritten lines read as zeros (R87). -/
def Tile.byteAt (x : Tile) (m : SramMap) (a : Nat) : Byte :=
  if x.holds m (64 * (a / 64)) then
    match m.at_ a with
    | some (_, p) => x.sram.get 0 p
    | none => 0
  else 0

/-- The outcome of a read of tile SRAM: a fault code (0 for none), the bytes, the line that failed. -/
structure SramRead where
  fault : Nat
  data : List Byte
  line : Nat
  deriving DecidableEq, Repr

/-- Fault codes (R104). -/
def fIllegal : Nat := 1
def fAlign : Nat := 2
def fRange : Nat := 3
def fDescriptor : Nat := 4
def fRemote : Nat := 5
def fWatchdog : Nat := 6
def fParity : Nat := 7
def fMode : Nat := 8
def fMesh : Nat := 9
def fRouteMiss : Nat := 10

/-- R84, R87, R106: read `n` bytes at a tile-local address. -/
def Tile.read (x : Tile) (m : SramMap) (upset : Option Nat) (a n : Nat) : SramRead :=
  let ls := linesOf a n
  if ls.any (fun l => (m.at_ l).isNone) then ⟨fRange, [], 0⟩
  else
    match ls.find? (x.lineBad m upset) with
    | some l => ⟨fParity, [], l⟩
    | none => ⟨0, (List.range n).map (fun i => x.byteAt m (a + i)), 0⟩

/-- Lines of a read whose written bit is clear (R87, R139 UNWRITTEN_READ). -/
def Tile.unwrittenLines (x : Tile) (m : SramMap) (a n : Nat) : Nat :=
  ((linesOf a n).filter (fun l => !x.holds m l)).length

/-- R85, R86, R164: a line that may be written: scratch, and carry-out outside the settle interval. -/
def SramMap.writable (m : SramMap) (a : Nat) : Bool :=
  match m.at_ a with
  | some (.scratch, _) => true
  | some (.carryOut, _) => m.outWrite
  | _ => false

/-- Set the written bit of the line at physical offset `p`; its first write merges into zeros (R87). -/
def Tile.openLine (x : Tile) (p : Nat) : Tile :=
  if x.written.contains (p / 64) then x
  else
    { x with
      written := (p / 64) :: x.written
      sram := x.sram.clear (64 * (p / 64)) (64 * (p / 64) + 64)
      bad := x.bad.filter (· != p / 64) }

/-- Store bytes at a tile-local address whose lines are writable. A whole line written anew has good
parity. -/
def Tile.store (x : Tile) (m : SramMap) (a : Nat) (bs : List Byte) : Tile :=
  let x := (linesOf a bs.length).foldl (fun x l =>
    match m.at_ l with
    | some (_, p) => x.openLine p
    | none => x) x
  let x := { x with bad := x.bad.filter (fun p =>
    !((linesOf a bs.length).any (fun l => a ≤ l && l + 64 ≤ a + bs.length && (m.at_ l).any (fun r => r.2 / 64 == p)))) }
  match m.at_ a with
  | some (_, p) => { x with sram := writeBytes x.sram p bs }
  | none => x

/-- Whether a write of `n` bytes at `a` is admitted; otherwise it is a RANGE fault (R85, R86, R164). -/
def SramMap.writeOk (m : SramMap) (a n : Nat) : Bool := (linesOf a n).all m.writable

/-! ## Register operands (R90) -/

/-- A general register; G0 reads zero. -/
def Thread.gr (th : Thread) (n : Nat) : Word := if n = 0 then 0 else th.g.get 0 n

/-- Write a general register; a write to G0 is ignored. -/
def Thread.setG (th : Thread) (n : Nat) (v : Word) : Thread :=
  if n = 0 then th else { th with g := th.g.set 0 n v }

/-- Lane i of a vector register. -/
def Thread.lane (th : Thread) (r i : Nat) : Nat := (th.x.get 0 (64 * r + i)).toNat

/-- The 64 lanes of a vector register. -/
def Thread.vec (th : Thread) (r : Nat) : List Nat := (List.range 64).map (th.lane r)

/-- Write the 64 lanes of a vector register. -/
def Thread.setVec (th : Thread) (r : Nat) (vs : List Nat) : Thread :=
  { th with x := (List.range 64).foldl (fun x i => x.set 0 (64 * r + i) (BitVec.ofNat 32 (vs.getD i 0))) th.x }

/-- G[A] + sext(IMM) as an address (R95). -/
def Thread.addrB (th : Thread) (a : Nat) (imm : BitVec 16) : Nat := (th.gr a + imm.signExtend 64).toNat

/-- The address of VLD and VST: IMM[15:3] a signed offset in units of 8 bytes (R97). -/
def Thread.addrV (th : Thread) (a : Nat) (imm : BitVec 16) : Nat :=
  (th.gr a + (imm &&& 0xFFF8#16).signExtend 64).toNat

/-- A pair of general registers, low word first (R101). -/
def Thread.pair (th : Thread) (n : Nat) : Nat := (th.gr n).toNat + 2 ^ 64 * (th.gr (n + 1)).toNat

/-! ## Vector layouts (R97) -/

/-- IMM[2:0] of VLD and VST: the element format in memory; `none` is ILLEGAL. -/
def vecFmt (imm : BitVec 16) : Option Fmt :=
  match imm.toNat % 8 with
  | 0 => some fp32 | 1 => some bf16 | 2 => some fp16 | _ => none

/-- The lanes of a vector in memory, widened exactly (R74, R97); FP32 lanes are taken as they stand. -/
def unpackVec (f : Fmt) (bs : List Byte) : List Nat :=
  let w := f.width / 8
  (List.range 64).map (fun i =>
    let c := leNat ((bs.drop (w * i)).take w)
    if f = fp32 then c else convert f fp32 c)

/-- The memory form of 64 lanes, narrowed with the rounding and overflow of R74 (R97). -/
def packVec (f : Fmt) (vs : List Nat) : List Byte :=
  (vs.map (fun c => leBytes (f.width / 8) (if f = fp32 then c else convert fp32 f c))).flatten

/-! ## Descriptors -/

/-- The four words of a 32-byte descriptor. -/
def descWords (bs : List Byte) : Word × Word × Word × Word :=
  let w (i : Nat) : Word := BitVec.ofNat 64 (leNat ((bs.drop (8 * i)).take 8))
  (w 0, w 1, w 2, w 3)

/-- A descriptor word's field. -/
def fld (w : Word) (lo n : Nat) : Nat := bits w.toNat lo n

/-- R108: the checks of a matrix descriptor. They hold for A_ADDR and A_STRIDE with KEEP_A = 1 too, where R110 ignores the two fields.
(DESIGN CHOICE, log entry 118) -/
def mmaOk (w0 w1 w2 w3 : Word) : Bool :=
  match Elem.ofCode (fld w0 3 4), Elem.ofCode (fld w0 7 4) with
  | some wf, some af =>
    pairOk (fld w0 0 3) wf af &&
    decide (1 ≤ fld w0 11 7 ∧ fld w0 11 7 ≤ 64 ∧ 1 ≤ fld w0 18 6 ∧ fld w0 18 6 ≤ 32 ∧
      1 ≤ fld w0 24 5 ∧ fld w0 24 5 ≤ 16 ∧ fld w0 39 25 = 0 ∧
      fld w1 0 24 % 4 = 0 ∧ fld w1 24 16 % 4 = 0 ∧ fld w2 0 24 % 4 = 0 ∧ fld w2 24 16 % 4 = 0 ∧
      fld w3 0 24 % 4 = 0 ∧ fld w3 29 35 = 0 ∧ (wf = .bq3 ∨ fld w3 0 24 = 0))
  | _, _ => false

/-- Bytes of one converted value, by OFMT (R111). -/
def ofmtBytes : Nat → Nat
  | 0 => 4 | 1 => 2 | 2 => 2 | 6 => 16 | _ => 1

/-- R111: the checks of a conversion descriptor. -/
def mcvtOk (w0 w1 w2 w3 : Word) : Bool :=
  let o := fld w0 0 3
  let blk := decide (3 ≤ o ∧ o ≤ 5)
  decide (o ≤ 6 ∧ 1 ≤ fld w0 3 7 ∧ fld w0 3 7 ≤ 64 ∧ 1 ≤ fld w0 10 6 ∧ fld w0 10 6 ≤ 32 ∧
    fld w0 25 39 = 0 ∧ fld w1 0 24 % ofmtBytes o = 0 ∧ fld w1 24 16 % ofmtBytes o = 0 ∧
    w2 = 0 ∧ fld w3 0 24 = 0 ∧ fld w3 29 35 = 0) &&
  (!blk || fld w0 10 6 == 32)

/-! Stream descriptor fields (R119). -/

def sdKind (w0 : Word) : Nat := fld w0 0 4
def sdTag (w0 : Word) : Nat := fld w0 4 8
def sdTc (w0 : Word) : Nat := fld w0 12 4
def sdTcEn (w0 : Word) : Bool := fld w0 16 1 == 1
def sdVe (w0 : Word) : Bool := fld w0 17 1 == 1
def sdRows (w0 : Word) : Nat := fld w0 32 13
def sdRowLines (w0 : Word) : Nat := fld w0 45 12
def sdAddr (w1 : Word) : Nat := fld w1 0 24
def sdStride (w1 : Word) : Int := signed 32 (fld w1 32 32)
def sdLine (w2 : Word) : Nat := fld w2 0 17
def sdEdge (w2 : Word) : Nat := fld w2 18 2

/-- Kinds of R120. -/
def kSend : Nat := 0
def kReceive : Nat := 1
def kSendEwa : Nat := 2
def kReceiveEwa : Nat := 3
def kLbRead : Nat := 4
def kLbWrite : Nat := 5
def kGet : Nat := 6
def kPut : Nat := 7

def isEwaKind (k : Nat) : Bool := k == kSendEwa || k == kReceiveEwa
def isSramKind (k : Nat) : Bool := k == kSend || k == kReceive || k == kGet || k == kPut
def isLbKind (k : Nat) : Bool := k == kLbRead || k == kLbWrite
def isRemoteKind (k : Nat) : Bool := k == kGet || k == kPut
def isSending (k : Nat) : Bool := k == kSend || k == kSendEwa || k == kLbRead
def isReceiving (k : Nat) : Bool := k == kReceive || k == kReceiveEwa || k == kLbWrite

/-- Lines a descriptor moves. -/
def sdLines (w0 : Word) : Nat := sdRows w0 * sdRowLines w0

/-- The SRAM address, first register or first line of line n of a descriptor (R119): rows step by STRIDE. -/
def sdPlace (w0 w1 w2 : Word) (n : Nat) : Int :=
  let rl := max 1 (sdRowLines w0)
  let k := sdKind w0
  if isLbKind k then (sdLine w2 + n : Nat)
  else (sdAddr w1 : Int) + (n / rl : Nat) * sdStride w1 + (if isEwaKind k then 4 else 64) * (n % rl : Nat)

/-- Fields that the table of R119 sets to 0 for a kind, and reserved fields, are zero. -/
def sdZeros (w0 w1 w2 w3 : Word) : Bool :=
  let k := sdKind w0
  decide (fld w0 18 14 = 0 ∧ fld w0 57 7 = 0 ∧ fld w1 24 8 = 0 ∧ fld w3 15 49 = 0) &&
  (isEwaKind k || !sdVe w0) &&
  (!isLbKind k || (sdAddr w1 == 0 && fld w1 32 32 == 0 && fld w2 20 44 == 0 && fld w2 17 1 == 0)) &&
  (isLbKind k || isRemoteKind k || w2 == 0) &&
  (k == kPut || fld w3 0 15 == 0)

/-- Fields in their ranges (R119). -/
def sdRanges (w0 w1 w2 : Word) : Bool :=
  let k := sdKind w0
  decide (1 ≤ sdRows w0 ∧ sdRows w0 ≤ 4096 ∧ 1 ≤ sdRowLines w0 ∧ sdRowLines w0 ≤ 2048) &&
  (!isSramKind k || (sdAddr w1 % 64 == 0 && sdStride w1 % 64 == 0)) &&
  (!isEwaKind k || sdStride w1 % 4 == 0) &&
  (!isRemoteKind k || w2.toNat % 64 == 0)

/-- The logical tile borders edge d (0 N, 1 E, 2 S, 3 W; R19, R123). -/
def bordersEdge (lx ly d : Nat) : Bool :=
  match d with
  | 0 => ly == 0 | 1 => lx == 15 | 2 => ly == 15 | _ => lx == 0

/-- Every register, SRAM address and landing-buffer line the descriptor touches is in range (R119). The
carry-out window counts as writable whatever the moment: R164 acts when a line is written. -/
def sdTouches (m : SramMap) (lx ly : Nat) (w0 w1 w2 : Word) : Bool :=
  let k := sdKind w0
  let m := { m with outWrite := true }
  let place (n : Nat) : Int := sdPlace w0 w1 w2 n
  if isLbKind k then decide (sdLine w2 + sdLines w0 ≤ 131072) && bordersEdge lx ly (sdEdge w2)
  else
    (List.range (sdRows w0)).all (fun r =>
      let lo := place (r * sdRowLines w0)
      let hi := place (r * sdRowLines w0 + sdRowLines w0 - 1)
      if isEwaKind k then decide (0 ≤ lo ∧ hi + 4 ≤ (if sdVe w0 then 64 else 2048))
      else
        decide (0 ≤ lo) && (List.range (sdRowLines w0)).all (fun i =>
          let a := lo.toNat + 64 * i
          if k == kReceive || k == kGet then m.writable a else (m.at_ a).isSome))

end Sys2Proof.Machine
end

