-- ==== Sys2Proof/Machine/Tiles.lean ====
section
/-! DEFINITION. Operations on a tile and its threads: position (R8, R35, R126), faults (R104, R106, R134), waits
and their ends (R92, R95, R330, R331), tile counters, end of work (R93, R161), and the issue of one
instruction (R91, R94). -/

namespace Sys2Proof.Machine

/-! ## Position -/

/-- The logical coordinates of a physical tile of a stack (R35, R126); `none` for a tile that holds no logical
position. -/
def Device.logicalOf (s : Device) (c t : Nat) : Option (Nat × Nat) :=
  let row := t / 17
  let col := t % 17
  let fc := s.fget F.cmpSpareFailCol c row
  if col = fc then none
  else
    let p0 := if fc < col then col - 1 else col
    if p0 > 15 then none
    else if s.flag F.glbSiteRot 0 c then some (15 - p0, 15 - row) else some (p0, row)

/-- The physical tile that holds a logical position (R35, R126). -/
def Device.physicalOf (s : Device) (c x y : Nat) : Nat :=
  let rot := s.flag F.glbSiteRot 0 c
  let row := if rot then 15 - y else y
  let p0 := if rot then 15 - x else x
  17 * row + (if s.fget F.cmpSpareFailCol c row ≤ p0 then p0 + 1 else p0)

/-- The logical neighbour on port d (0 N, 1 E, 2 S, 3 W); y counts from north to south (R19). -/
def neighbour (x y d : Nat) : Option (Nat × Nat) :=
  match d with
  | 0 => if y = 0 then none else some (x, y - 1)
  | 1 => if x = 15 then none else some (x + 1, y)
  | 2 => if y = 15 then none else some (x, y + 1)
  | _ => if x = 0 then none else some (x - 1, y)

/-! ## Waits and their ends -/

/-- A thread leaves its wait. -/
def Thread.ready (th : Thread) : Thread := { th with st := .ready, wait := .nothing }

/-- TBAR: a thread of the mask has arrived: it waits at a TBAR with the same mask, or is IDLE, DONE or FAULTED
(R95). -/
def Thread.arrived (th : Thread) (mask : Nat) : Bool :=
  th.wait == .bar mask || th.st == .idle || th.st == .done || th.st == .faulted

/-- Every thread named in the mask has arrived. -/
def Tile.barrierMet (x : Tile) (mask : Nat) : Bool :=
  (List.range 8).all (fun n => !bit mask n || (x.thread n).arrived mask)

/-- What each waiting thread's end condition is now: a tile counter (R95), a barrier (R95). -/
def Tile.waitOver (x : Tile) (th : Thread) : Bool :=
  match th.wait with
  | .tc i v => decide (v ≤ x.tc.get 0 i)
  | .bar mask => x.barrierMet mask
  | _ => false

/-- Threads whose TCWAIT or TBAR is over become READY. Barriers are judged on the states before. -/
def Tile.wake (x : Tile) : Tile :=
  { x with threads := x.threads.map (fun e => (e.1, if x.waitOver e.2 then e.2.ready else e.2)) }

/-- Increment a tile counter of 32 bits; waiting threads see the incremented value (R95). -/
def Tile.incTc (x : Tile) (i : Nat) : Tile :=
  ({ x with tc := x.tc.upd 0 i (fun v => (v + 1) % 2 ^ 32) } : Tile).wake

/-- Requests that a thread itself has outstanding (R330): SLD, SST and SATM. -/
def Device.threadReqs (s : Device) (c t n : Nat) : List Req :=
  s.reqs.filter (fun r => r.c == c && r.t == t && r.n == n &&
    (r.kind == .sld || r.kind == .sst || r.kind == .m2ld || r.kind == .m2st || r.kind == .atomic))

/-- R330: the conditions of a thread's FENCE hold. -/
def Device.fenceMet (s : Device) (c t n : Nat) : Bool :=
  (s.threadReqs c t n).isEmpty &&
    (s.tile c t).slots.all (fun d => !(d.thread == n && isRemoteKind (sdKind d.w0)))

/-- Threads of a tile whose FENCE is over become READY, and the tile's read cache is invalidated (R330,
R342). -/
def Device.wakeFences (s : Device) (c t : Nat) : Device :=
  (List.range 8).foldl (fun s n =>
    if (s.thread c t n).wait == .fence && s.fenceMet c t n then
      s.modTile c t (fun x => { (x.modThread n Thread.ready) with rcache := [] })
    else s) s

/-- CCWAIT is over for a thread (R331). -/
def Device.ccMet (s : Device) (th : Thread) : Bool :=
  match th.wait with
  | .cc k v => decide (v ≤ s.mem.cc.get 0 k)
  | _ => false

/-- Threads whose CCWAIT is over become READY, and the read cache of their tile is invalidated (R331, R342). -/
def Device.wakeCc (s : Device) : Device :=
  { s with tiles := s.tiles.map (fun e =>
      if e.2.threads.any (fun h => s.ccMet h.2) then
        (e.1, { e.2 with
          rcache := []
          threads := e.2.threads.map (fun h => (h.1, if s.ccMet h.2 then h.2.ready else h.2)) })
      else e) }

/-- Count at a completion counter: one more, saturating at 2^32 − 1; the tests see it (R331). -/
def Device.countCc (s : Device) (k : Nat) : Device :=
  (s.modMem (fun m => { m with cc := m.cc.upd 0 k (fun v => min (2 ^ 32 - 1) (v + 1)) })).wakeCc

/-! ## Faults -/

/-- Job faults among the fault codes (R104). -/
def isJobFault (code : Nat) : Bool := decide ((1 ≤ code ∧ code ≤ 5) ∨ code = 8 ∨ code = 9)

/-- TILE_FAULT takes a fault: the record while VALID is 0, COUNT always (R134). -/
def Device.logTileFault (s : Device) (c t code n pc : Nat) : Device :=
  let b := 272 * c + t
  let s := if s.flag F.tileFaultValid b then s
    else (((s.fset F.tileFaultCode b 0 code).fset F.tileFaultThread b 0 n).fset F.tileFaultPc b 0 pc).setFlag
      F.tileFaultValid b 0 true
  s.fsat F.tileFaultCount b 0 1

/-- R104: the first fault of a tile in a frame attempt is reported to the Curator, which records it and stops
the job or raises a hold. An error that a parity flip provoked has source TST (R506). -/
def Device.reportTileFault (s : Device) (c t code : Nat) (tst : Bool := false) : Device :=
  if (s.tile c t).faulted then s
  else
    let s := s.modTile c t (fun x => { x with faulted := true })
    let s := (s.modFr (fun f => { f with fault := true })).note
      { kind := if tst then kTst else kTile, index := if tst then 0 else t, prio := 1,
        cls := if isJobFault code then 5 else 2, cause := 256 + code, unit := c }
    if isJobFault code then s.jobStop jcTile else s.raiseHold hTile

/-- A fault registered at a tile, without a thread of its own (R103, R116). -/
def Device.tileFault (s : Device) (c t code n pc : Nat) (tst : Bool := false) : Device :=
  (s.logTileFault c t code n pc).reportTileFault c t code tst

/-- R104: a fault of the instruction at `pc` stops its thread in FAULTED; a barrier counts it as arrived (R95). -/
def Device.faultAt (s : Device) (c t n pc code : Nat) (tst : Bool := false) : Device :=
  let s := s.modTile c t (fun x =>
    (x.modThread n (fun th => { th with st := .faulted, wait := .nothing })).wake)
  s.tileFault c t code n pc tst

/-- A fault of the instruction that a thread is about to issue. -/
def Device.threadFault (s : Device) (c t n code : Nat) (tst : Bool := false) : Device :=
  s.faultAt c t n (s.thread c t n).pc code tst

/-- R106: a read of the line at tile-local address `a` failed its parity: it is counted (R134, R139), and the
Curator will act on it at the coming tick; a carry-in line cannot be restored, and the device withdraws. -/
def Device.markBadLine (s : Device) (c t a : Nat) : Device :=
  let s := ((s.modTile c t (fun x => { x with badLines := addNew x.badLines a })).fsat F.tileFaultParity (272 * c + t) 0 1).count c t
    evParity 0 1
  if 0x800000 ≤ a ∧ a < 0xC00000 then s.withdraw wCarryLost else s

/-! ## End of work -/

/-- R93: a tile's end of work. Requests of a tile include abandoned ones, whose tracker entry stays until the
tick (R324). -/
def Device.tileEnd (s : Device) (c t : Nat) : Bool :=
  let x := s.tile c t
  x.threads.all (fun e => !e.2.started || e.2.st == .done) && x.slots.isEmpty && x.queue.isEmpty &&
    s.reqs.all (fun r => !(r.c == c && r.t == t))

/-- R204: every window line bound for memory has been written by its controller: one that was lost, or refused there for its parity, never
is (R265). -/
def Device.windowsStored (s : Device) : Bool :=
  !s.pln.unstored && s.pln.heldLines.isEmpty &&
    s.pln.flight.all (fun e => e.2.all (fun c => !(decide (16 ≤ c.dst ∧ c.dst < 36)))) &&
    s.dies.all (fun e => e.2.sendQ.all (fun q => q.2.all (fun l =>
      let d := (((s.job.maps.getD s.phase [])[l.entry]?).map (fun m => m.dsts.getD 0 0)).getD 0
      !(decide (16 ≤ d ∧ d < 36)))))

/-- Every scheduled transfer of the frame has been sent (R161, R300); those sent and not acknowledged are among the requests. -/
def Device.schedDone (s : Device) : Bool :=
  (List.range s.job.sched.length).all (fun i =>
    decide ((s.job.sched.getD i {}).lines ≤ 8 * s.fab.schedSent.get 0 i))

/-- R161: the device's end of work: every tile at its end of work, no stream engine with a request, every
scheduled transfer and store acknowledged, no tile fault. -/
def Device.workEnded (s : Device) : Bool :=
  s.tiles.all (fun e => !bit s.job.stackSet (e.1 / 272) || s.tileEnd (e.1 / 272) (e.1 % 272)) &&
    s.reqs.all (fun r => r.kind == .reg || r.kind == .hostReq) && s.schedDone && s.windowsStored && !s.fr.fault

/-- An attempt's slack, in units of 100 ns: the period less the time since the tick, that rounded down. (DESIGN CHOICE, log entry 118) -/
def Device.slackNow (s : Device) : Nat := s.periodNs / 100 - (s.now - s.fr.tickAt) / 100

/-- The end-of-work point, when it is reached now (R161, R182): EOW_LAST in units of 100 ns from the tick, rounded down, and
the smallest slack. A missed deadline leaves EOW_LAST at 0xFFFF; work that ends after it still has a slack.
(DESIGN CHOICE, log entry 118) -/
def Device.noteEow (s : Device) : Device :=
  if s.running && !s.fr.eowMet && !s.fr.lateEow && !s.fr.idle && s.workEnded then
    let s := s.fset F.frmTimingSlackMin 0 0 (min (s.fget F.frmTimingSlackMin) s.slackNow)
    if s.fr.missed then s.modFr (fun f => { f with lateEow := true })
    else
      (((s.modFr (fun f => { f with eowMet := true })).fset F.frmTimingEowLast 0 0 (min ((s.now - s.fr.tickAt) / 100) 0xFFFE))).modPwr
        (fun p => { p with slackMin := min p.slackMin s.slackNow })
  else s

/-! ## Issue -/

/-- What an instruction comes to: a fault with its code (and the line, for PARITY), a resource that is full,
or its effect. -/
inductive Issued where
  | fault (code : Nat)
  | parity (line : Nat)
  | waits (r : UnitRes)
  | done (s : Device)

/-- Requests of a tile (R83: at most 64). -/
def Device.tileReqs (s : Device) (c t : Nat) : List Req := s.reqs.filter (fun r => r.c == c && r.t == t &&
  (r.kind == .sld || r.kind == .sst || r.kind == .m2ld || r.kind == .m2st || r.kind == .atomic ||
    r.kind == .get || r.kind == .put))

/-- The tracker is full (R99). -/
def Device.trackerFull (s : Device) (c t : Nat) : Bool := decide (64 ≤ (s.tileReqs c t).length)

/-- The resource that an instruction of thread n needs is full, or held by a VE descriptor (R91, R107, R121, R122). -/
def Device.unitFull (s : Device) (c t n : Nat) : UnitRes → Bool
  | .queue => decide (4 ≤ (s.tile c t).queue.length)
  | .slots => decide (16 ≤ (s.tile c t).slots.length)
  | .tracker => s.trackerFull c t
  | .stores => decide (16 ≤ (s.thread c t n).stores)
  | .veSlots => (s.tile c t).slots.any (fun d => isEwaKind (sdKind d.w0) && sdVe d.w0)

/-- The state of a thread (R92): one that waited for a resource is READY as soon as it finds it free. -/
def Device.tstate (s : Device) (c t n : Nat) : TState :=
  let th := s.thread c t n
  match th.wait with
  | .unit r => if th.st == .waitUnit && !s.unitFull c t n r then .ready else th.st
  | _ => th.st

/-- The threads that stand before thread n in the search for the next to issue (R91). -/
def Tile.ahead (x : Tile) (n : Nat) : List Nat :=
  ((List.range 8).map (fun i => (x.lastIssued + 1 + i) % 8)).takeWhile (fun k => k != n)

/-- The thread can issue: it is READY, no thread before it in the round robin can (R91), its tile has been released (R175) and the
job runs a frame program. Which READY threads cannot issue for want of an operand or a unit, the command says. (DESIGN CHOICE, log
entry 7) -/
def Device.canIssue (s : Device) (w : Who) : Bool :=
  s.running && (s.tile w.c w.t).released && s.tstate w.c w.t w.n == .ready &&
    ((s.tile w.c w.t).ahead w.n).all (fun k => s.tstate w.c w.t k != .ready || w.stalled.contains k)

/-- Instruction fetch (R85, R106): from the resident region only, with good parity. R139 counts SRAM lines read without naming fetches:
they are not counted. (DESIGN CHOICE, log entry 118) -/
def Device.fetch (s : Device) (w : Who) : Issued :=
  let x := s.tile w.c w.t
  let m := s.sramMap w.c w.t
  let pc := (x.thread w.n).pc
  if m.resTop ≤ pc then .fault fRange
  else if x.lineBad m w.upset (64 * (pc / 64)) then .parity (64 * (pc / 64))
  else .done s

/-- The word at the thread's PC (R94). -/
def Device.wordAt (s : Device) (w : Who) : Nat :=
  let pc := (s.thread w.c w.t w.n).pc
  leNat ((List.range 4).map (fun i => (s.tile w.c w.t).byteAt (s.sramMap w.c w.t) (pc + i)))

/-- The issuing thread moves on: PC + 4, READY (R90). What the instruction before it stored lies in an earlier cycle (R89). -/
def Device.advance (s : Device) (w : Who) : Device :=
  (s.modTile w.c w.t (fun x => { x with lastIssued := w.n, stored := none })).modThread w.c w.t w.n
    (fun th => { th with pc := th.pc + 4, last := th.pc, st := .ready, wait := .nothing })

/-- Carry an instruction's outcome out (R91, R92, R104): a faulting instruction has no effect. -/
def Device.conclude (s : Device) (w : Who) : Issued → Device
  | .fault code => (s.threadFault w.c w.t w.n code).noteEow
  | .parity l => ((s.markBadLine w.c w.t l).threadFault w.c w.t w.n fParity).noteEow
  | .waits r => s.modThread w.c w.t w.n (fun th => { th with st := .waitUnit, wait := .unit r, last := th.pc })
  | .done s' => s'.count w.c w.t evIssue 0 1

/-- Issue one instruction: fetch its word, then run `body` on the state in which the thread has moved on. A word of undefined OP or FN
is an ILLEGAL fault (R94); where the word fetched is that of another instruction, this one is not issued. A thread that cannot issue
issues nothing. An armed parity flip of the tile hits the line fetched (R506). -/
def Device.issue (s : Device) (w : Who) (i : Instr) (body : Device → Issued) : Device :=
  if s.canIssue w then
    match s.fetch w with
    | .done s0 =>
      if s.flipArmed ptSram w.c w.t then
        ((s.flipFires.markBadLine w.c w.t (64 * ((s.thread w.c w.t w.n).pc / 64))).threadFault w.c w.t w.n fParity true).noteEow
      else if encodeDocent i = some (s.wordAt w) then s.conclude w (body (s0.advance w))
      else if definedWord (s.wordAt w) then s
      else s.conclude w (.fault fIllegal)
    | o => s.conclude w o
  else s

/-- Instruction `i` of a thread, on a thread that exists; its register fields `rs` are of 5 bits (R94). -/
def docent (i : Instr) (w : Who) (rs : List Nat) (body : Device → Issued) (s : State) : Host.Outcome State Fault Refusal :=
  onUnits (w.ok && rs.all (fun r => decide (r < 32))) (fun d => d.issue w i body) s

/-- The field checks of R94: a register field in range and every field that must be zero. -/
def legalIf (ok : Bool) (r : Issued) : Issued := if ok then r else .fault fIllegal

/-- A register result of the issuing thread. -/
def Device.setReg (s : Device) (w : Who) (d : Nat) (v : Word) : Device :=
  s.modThread w.c w.t w.n (fun th => th.setG d v)

/-- The issuing thread's register. -/
def Device.reg (s : Device) (w : Who) (n : Nat) : Word := (s.thread w.c w.t w.n).gr n

/-- The address of the instruction being issued, whose thread has moved on to the next. -/
def Device.pcNow (s : Device) (w : Who) : Nat := (s.thread w.c w.t w.n).pc - 4

/-- The thread goes on at a target: one outside the resident region faults when it is fetched from (R85). -/
def Device.jump (s : Device) (w : Who) (target : Nat) : Device :=
  s.modThread w.c w.t w.n (fun th => { th with pc := target })

/-- Cycles of a stack's domain since release of MOD_RST_N (R136). -/
def Device.cycles (s : Device) (c : Nat) : Nat := (s.die c).cycAcc / 960000 - (s.die c).skipped

/-- Read tile SRAM for an instruction or a descriptor of the tile; `k` continues with the bytes. Counts the
lines read and the unwritten ones (R139). -/
def Device.loadSram (s : Device) (w : Who) (a n : Nat) (k : Device → List Byte → Issued) : Issued :=
  let m := s.sramMap w.c w.t
  let x := s.tile w.c w.t
  let r := x.read m w.upset a n
  if r.fault = fParity then .parity r.line
  else if r.fault ≠ 0 then .fault r.fault
  else
    k ((s.count w.c w.t evSramRd 0 (linesOf a n).length).count w.c w.t evUnwritten 0 (x.unwrittenLines m a n))
      r.data

/-- Write tile SRAM for an instruction (R85–R87). -/
def Device.storeSram (s : Device) (w : Who) (a : Nat) (bs : List Byte) : Issued :=
  let m := s.sramMap w.c w.t
  if m.writeOk a bs.length then
    .done ((s.modTile w.c w.t (fun x => { (x.store m a bs) with
      stored := (m.at_ a).map (fun r => (s.cycles w.c, r.2, bs)) })).count w.c w.t evSramWr 0 (linesOf a bs.length).length)
  else .fault fRange

/-- A stream writes tile SRAM. Of a thread's store to the same line in the same cycle the stream's write comes first (R89). -/
def Tile.streamStore (x : Tile) (m : SramMap) (cycle a : Nat) (bs : List Byte) : Tile :=
  let y := x.store m a bs
  match x.stored with
  | some (k, p, old) =>
    if k = cycle ∧ (m.at_ a).any (fun r => (linesOf r.2 bs.length).any (linesOf p old.length).contains) then
      { y with sram := writeBytes y.sram p old }
    else y
  | none => y

end Sys2Proof.Machine
end

