-- ==== Sys2Proof/Machine/Windows.lean ====
section
/-! DEFINITION. Buses, sites and phase maps (R188–R190, R199–R202): numbering, the entries in force, outbound
windows and what a write into one does. -/

namespace Sys2Proof.Machine

/-! ## Numbering (R188, R228) -/

/-- The source site of a bus. -/
def srcSite (b : Nat) : Nat := if b < 128 then b / 8 else if b < 208 then 16 + (b - 128) / 4 else 36 + (b - 208) / 4

/-- The local index of a bus at its source site. -/
def busIdx (b : Nat) : Nat := if b < 128 then b % 8 else b % 4

/-- The landing-buffer edge that owns a compute bus. -/
def busEdge (b : Nat) : Nat := b % 8 / 2

/-- The quadrant of a site, and its local site number there. -/
def siteQuad (t : Nat) : Nat := if t < 16 then t / 4 else if t < 36 then (t - 16) / 5 else t - 36
def siteLocal (t : Nat) : Nat := if t < 16 then t % 4 else if t < 36 then 4 + (t - 16) % 5 else 9

/-- The quadrant whose comb a bus carries (R189), and its local bus number there. -/
def busQuad (b : Nat) : Nat := siteQuad (srcSite b)
def busLocal (b : Nat) : Nat := if b < 128 then b % 32 else if b < 208 then 32 + (b - 128) % 20 else 52 + (b - 208) % 4

/-- The global bus of local bus i of quadrant q. -/
def busOf (q i : Nat) : Nat := if i < 32 then 32 * q + i else if i < 52 then 128 + 20 * q + i - 32 else 208 + 4 * q + i - 52

def isCompute (t : Nat) : Bool := decide (t < 16)
def isMemSite (t : Nat) : Bool := decide (16 ≤ t ∧ t < 36)
def isPortSite (t : Nat) : Bool := decide (36 ≤ t ∧ t < 40)

/-- Key of a logical channel. -/
def chKey (b k : Nat) : Nat := 64 * b + k

/-! ## Phase maps (R199–R201) -/

def tAssign : Nat := 1
def tPool : Nat := 2
def tFetch : Nat := 3

/-- A phase map is in force: a device that runs no frame program uses none. -/
def Device.mapped (s : Device) : Bool := s.running && !s.fr.idle

/-- The entries of a phase, and of the phase map in force. -/
def Device.mapOf (s : Device) (p : Nat) : List MapEnt := s.job.maps.getD p []
def Device.mapNow (s : Device) : List MapEnt := if s.mapped then s.mapOf s.phase else []

/-- An entry names a channel. -/
def MapEnt.names (e : MapEnt) (b k : Nat) : Bool := e.bus == b && decide (e.chan ≤ k ∧ k < e.chan + e.chans)

/-- ASSIGN and FETCH entries. -/
def MapEnt.isStatic (e : MapEnt) : Bool := e.typ == tAssign || e.typ == tFetch

/-- Lines of an entry's window: of the scheduled transfer that names it, for an ASSIGN to a port site (R200,
R201). -/
def Device.windowLines (s : Device) (p i : Nat) (e : MapEnt) : Nat :=
  if isPortSite (e.dsts.getD 0 0) then
    ((s.job.sched.find? (fun t => t.phase == p && t.mapEntry == i)).map Sched.lines).getD 0
  else e.lines

/-- The outbound windows of the phase that hold a line of a landing buffer: their entries' indexes. Windows may overlap, and a line of
several is sent once for each. -/
def Device.windowsAt (s : Device) (c edge line : Nat) : List Nat :=
  (List.range s.mapNow.length).filter (fun i =>
    match s.mapNow[i]? with
    | some e => e.typ == tAssign && decide (e.bus < 128) && srcSite e.bus == c && busEdge e.bus == edge &&
        decide (e.srcLine ≤ line ∧ line < e.srcLine + s.windowLines s.phase i e)
    | none => false)

/-! ## Landing-buffer writes (R123, R202) -/

/-- Key of a landing-buffer line (R123). -/
def lbKey (edge line : Nat) : Nat := 131072 * edge + line

/-- The line and parity a landing buffer gives: an unwritten line reads as zeros (R87, R123). -/
def Die.lbRead (x : Die) (k : Nat) : Line × Word :=
  if x.lbWritten.contains k then (x.lb.get 0 k, x.lbParity.get 0 k) else (0, 0)

/-- Write a landing-buffer line with its parity (R87, R123). -/
def Die.lbStore (x : Die) (k : Nat) (l : Line) (par : Word) : Die :=
  { x with lb := x.lb.set 0 k l, lbParity := x.lbParity.set 0 k par, lbWritten := addNew x.lbWritten k }

/-- A write of this line need not wait: it lies in no window, or the send queue has room for each of its windows (R202). -/
def Device.lbRoom (s : Device) (c edge line : Nat) : Bool :=
  (s.windowsAt c edge line).isEmpty ||
    decide (((s.die c).sendQ.get [] edge).length + (s.windowsAt c edge line).length ≤ 4096)

/-! The banks of a landing buffer in a cycle (R124). A cycle is the stack's; which of several ports comes first, the order of the
commands says. -/

/-- The accesses made in the present cycle of a stack to a bank: their line, and whether a receiver wrote it. -/
def Device.lbAccesses (s : Device) (c edge bank : Nat) : List (Nat × Bool) :=
  let x := s.die c
  if x.lbCycle = s.cycles c then
    (x.lbUse.filter (fun u => u.1 == edge && u.2.1 == bank)).map (fun u => (u.2.2.1, u.2.2.2))
  else []

/-- A port must wait for the bank of a line: another line of it has been accessed in this cycle, or a receiver has written there. -/
def Device.lbBusy (s : Device) (c edge line : Nat) : Bool :=
  (s.lbAccesses c edge (line % 16)).any (fun u => u.1 != line || u.2)

/-- A port read of this line merges with one already made in this cycle. -/
def Device.lbShared (s : Device) (c edge line : Nat) : Bool := (s.lbAccesses c edge (line % 16)).any (fun u => u.1 == line && !u.2)

/-- Note an access. -/
def Device.lbTake (s : Device) (c edge line : Nat) (receiver : Bool) : Device :=
  let now := s.cycles c
  s.modDie c (fun y => { y with
    lbUse := (if y.lbCycle = now then y.lbUse else []) ++ [(edge, line % 16, line, receiver)], lbCycle := now })

/-- A line enters its landing buffer's send queue, once until its cell is formed (R202). -/
def queueLine (q : List SendLine) (x : SendLine) : List SendLine := if q.contains x then q else q ++ [x]

/-- Write a landing-buffer line; one inside an outbound window enters the send queue, for each such window (R202). -/
def Device.lbWrite (s : Device) (c edge line : Nat) (l : Line) (par : Word) : Device :=
  let s1 := s.modDie c (fun y => y.lbStore (lbKey edge line) l par)
  (s.windowsAt c edge line).foldl (fun s1 i =>
    s1.modDie c (fun y => { y with sendQ := y.sendQ.upd [] edge (queueLine · { entry := i, line := line }) })) s1

end Sys2Proof.Machine
end

