-- ==== Sys2Proof/Machine/Optics.lean ====
section
/-! DEFINITION. The optical resources in service and how phase maps use them (R190, R191, R193, R207, R226): lines,
rings, capacities, moved channels. -/

namespace Sys2Proof.Machine

/-! ## Lines and channels (R193) -/

def lineKey (b l : Nat) : Nat := 64 * b + l

def Device.lineDead (s : Device) (b l : Nat) : Bool := s.pln.deadLines.contains (lineKey b l)

/-- H: the healthy lines of a bus. -/
def Device.healthyLines (s : Device) (b : Nat) : List Nat := (List.range 64).filter (fun l => !s.lineDead b l)

/-- T: transmit lane groups in service (PLN_BUS.TX_GROUPS; 12 on other than compute buses). -/
def Device.txGroups (s : Device) (b : Nat) : Nat := s.fget F.plnBusTxGroups (busQuad b) (busLocal b)

/-- CHANNELS (R193). -/
def Device.chansOf (s : Device) (b : Nat) : Nat :=
  min 60 (min ((s.healthyLines b).length - 1) (5 * s.txGroups b))

/-- The line that carries channel k, and the calibration line (R193, R212). -/
def Device.lineOf (s : Device) (b k : Nat) : Nat :=
  let v := s.pln.lineOf.get 0 (chKey b k)
  if v = 0 then k else v - 1
def Device.calLineOf (s : Device) (b : Nat) : Nat :=
  let v := s.pln.calLine.get 0 b
  if v = 0 then 60 else v - 1

def Device.setLine (s : Device) (b k l : Nat) : Device :=
  s.modPln (fun p => { p with lineOf := p.lineOf.set 0 (chKey b k) (if l = k then 0 else l + 1) })
/-- A line becomes the calibration line: its next pass counts from now (R213). (DESIGN CHOICE, log entry 92) -/
def Device.setCal (s : Device) (b l : Nat) : Device :=
  s.modPln (fun p => { p with
    calLine := p.calLine.set 0 b (if l = 60 then 0 else l + 1)
    passed := p.passed.filter (· != lineKey b l) })

/-- The working lines of a bus. -/
def Device.workLines (s : Device) (b : Nat) : List Nat := (List.range (s.chansOf b)).map (s.lineOf b)

/-- The channel a line carries. -/
def Device.chanOn (s : Device) (b l : Nat) : Option Nat := (List.range (s.chansOf b)).find? (fun k => s.lineOf b k == l)

/-- Standby lines: healthy, neither working nor the calibration line (R193). -/
def Device.standbyLines (s : Device) (b : Nat) : List Nat :=
  (s.healthyLines b).filter (fun l =>
    !(s.workLines b).contains l && l != s.calLineOf b && !s.pln.unproven.contains (lineKey b l))

/-- CAL_STALE reads 1 while a working line of the bus is stale (R213). -/
def Device.publishStale (s : Device) (b : Nat) : Device :=
  s.setFlag F.plnBusCalStale (busQuad b) (busLocal b) ((s.workLines b).any (fun l => s.pln.stale.contains (lineKey b l)))

/-- PLN_BUS publishes the bus (R226, R236). -/
def Device.publishBus (s : Device) (b : Nat) : Device :=
  let q := busQuad b
  let i := busLocal b
  let h := (s.healthyLines b).length
  let s := (s.fset F.plnBusChannels q i (s.chansOf b)).fset F.plnBusHealthy q i h
  ((s.fset F.plnBusCalLine q i (s.calLineOf b)).setFlag F.plnBusCalNone q i (h == 0)).publishStale b

/-- Healthy lines of a bus that carry none of its first n channels and are not the calibration line; lines proven before others. -/
def Device.freeLines (s : Device) (b n : Nat) : List Nat :=
  let ls := (s.healthyLines b).filter (fun l => !((List.range n).map (s.lineOf b)).contains l && l != s.calLineOf b)
  ls.filter (fun l => !s.pln.unproven.contains (lineKey b l)) ++ ls.filter (fun l => s.pln.unproven.contains (lineKey b l))

/-- A dead calibration line is replaced by a free line (R212). -/
def Device.renewCal (s : Device) (b : Nat) : Device :=
  if s.lineDead b (s.calLineOf b) then
    match (s.freeLines b (s.chansOf b)).head? with
    | some l => s.setCal b l
    | none => s
  else s

/-- Channels that come back with a line of the bus take free lines, so that every line keeps one role (R193). -/
def Device.addChannels (s : Device) (b n : Nat) : Device :=
  (List.range (s.chansOf b - n)).foldl (fun s i =>
    match (s.freeLines b (n + i)).head? with
    | some l => s.setLine b (n + i) l
    | none => s) s

/-! ## Rings (R191, R225) -/

def ringKey (t b r : Nat) : Nat := (224 * t + b) * 8 + r
def rLocked : Nat := 1
def rAcquiring : Nat := 2
def rDeacc : Nat := 3

/-- A drop ring: one not yet moved is locked to line r once its quadrant's start-up is complete. (DESIGN CHOICE, log entry 8) -/
def Device.ring (s : Device) (t b r : Nat) : Ring :=
  match s.pln.rings.get none (ringKey t b r) with
  | some x => x
  | none => if s.flag F.plnStatusReady (siteQuad t) then { state := rLocked, line := r } else {}
def Device.setRing (s : Device) (t b r : Nat) (x : Ring) : Device :=
  s.modPln (fun p => { p with rings := p.rings.set none (ringKey t b r) (some x) })

/-- The temperature band of a ring: that of its nearest Plinth sensor (R216, R398). -/
def Device.ringBand (s : Device) (t b r : Nat) : Nat := (s.thm.sensors.get {} (Config.nearestSensor (ringKey t b r))).band

/-- The calibrated lock point of a ring on a line, from the preset of its band (R215, R220), and the lock point itself. -/
def lockKey (t b r l : Nat) : Nat := 64 * ringKey t b r + l
/-- A bus passes every site but its own source (R189). -/
def passes (b t : Nat) : Bool := srcSite b != t
/-- The line a ring follows; the monitor ring of a bus, ring 0 at its source site, follows the calibration line (R212). -/
def Device.ringLine (s : Device) (t b r : Nat) : Nat := if passes b t then (s.ring t b r).line else s.calLineOf b
def Device.lockOffset (s : Device) (t b r : Nat) : Int := s.pln.lock.get 0 (lockKey t b r (s.ringLine t b r))
def Device.lockPoint (s : Device) (t b r : Nat) : Int :=
  Config.lockPreset (s.ringBand t b r) (s.ringLine t b r) + s.lockOffset t b r

/-- The heater drive of a ring: the bias waveform of its band, at a compute site ahead of the temperature predicted for its stack
(R216, R217). -/
def Device.ringDrive (s : Device) (t b r : Nat) : Int :=
  Config.heaterDrive (ringKey t b r) (s.ringBand t b r) (if t < 16 then (s.die t).heater else none)

/-- Rings of a site on a bus in service (R191). -/
def Device.ringsIn (s : Device) (t b : Nat) : Nat :=
  if passes b t then ((List.range 8).filter (fun r => (s.ring t b r).state != rDeacc)).length else 0

/-! ## Crossings on a cell's way (R354, R355, R358) -/

/-- A crossing carries its traffic: it is ALIGNED. -/
def Device.carries (s : Device) (x : Nat) : Bool := s.fget F.clkXingState 0 x == 2

/-- The crossing that attaches the die of a site: none for a memory site. -/
def siteXing (t : Nat) : Option Nat := if t < 16 then some t else if t < 36 then none else some (t - 20)

/-- The die of a site sends and receives: its crossing carries, and a compute site is not isolated. -/
def Device.siteOpen (s : Device) (t : Nat) : Bool := (siteXing t).all s.carries && !(decide (t < 16) && (s.die t).isolated)

/-- The bridges from quadrant q to quadrant r, at crossings 20 to 23. The spec does not say which two lead to the opposite quadrant: those
that follow in ascending order of quadrants. (DESIGN CHOICE, log entry 136) -/
def bridges (q r : Nat) : List Nat :=
  match (r + 4 - q) % 4 with
  | 0 => []
  | 1 => [20 + q]
  | 2 => [20 + q, 20 + (q + 1) % 4]
  | _ => [20 + r]

/-- Cells of a bus reach a site: the bridges between carry, and the site receives. -/
def Device.reaches (s : Device) (b t : Nat) : Bool := (bridges (busQuad b) (siteQuad t)).all s.carries && s.siteOpen t

/-- The lane group that a bus's cells take in the stack they leave or come to (R37): one of the 12 of its source site's bus, or one of the
100 that receive. Which of them the spec does not say. (DESIGN CHOICE, log entry 136) -/
def txGroup (b k : Nat) : Nat := 12 * (b % 8) + k % 12
def rxGroup (b : Nat) : Nat := 96 + b % 100

/-- Entries come into the rate adapter of a lane group, which holds 64 (R354). -/
def Device.adapt (s : Device) (c g n : Nat) : Device :=
  s.modDie c (fun y => { y with adapter := y.adapter.upd 0 g (fun k => min 64 (k + n)) })

/-! ## Receive limits (R190) -/

/-- Lane groups of a stack (R37), numbered here: 0–95 transmit, 96–195 receive (25 for each edge), 196–199 control,
200 + 16t + i between the logic and SRAM layers of tile t. -/
def gTx (i : Nat) : Nat := 12 * i
def gRx : Nat := 96
def gCtl : Nat := 196
def gSram : Nat := 200

def Device.groupOut (s : Device) (c g : Nat) : Bool := (s.die c).groupsOut.contains g

/-- G and G_d: receive lane groups in service. -/
def Device.rxGroups (s : Device) (c : Nat) : Nat := ((List.range 100).filter (fun i => !s.groupOut c (gRx + i))).length
def Device.rxGroupsEdge (s : Device) (c d : Nat) : Nat :=
  ((List.range 25).filter (fun i => !s.groupOut c (gRx + 25 * d + i))).length

/-- Receivers in service: 512 at a compute site, 128 for each edge, 192 at a memory site, 256 at a port site, less those lost. -/
def Device.receiversEdge (s : Device) (t d : Nat) : Nat := 128 - s.pln.rxOut.get 0 (4 * t + d)
def Device.receivers (s : Device) (t : Nat) : Nat :=
  if isCompute t then s.receiversEdge t 0 + s.receiversEdge t 1 + s.receiversEdge t 2 + s.receiversEdge t 3
  else (if isMemSite t then 192 else 256) - s.pln.rxOut.get 0 (4 * t)

/-- Receive λ-channels of a site and of a landing-buffer edge. -/
def Device.rxLimit (s : Device) (t : Nat) : Nat :=
  if isCompute t then min (s.receivers t) (s.rxGroups t * 128 / 25) else s.receivers t
def Device.rxEdge (s : Device) (c d : Nat) : Nat := min (s.receiversEdge c d) (s.rxGroupsEdge c d * 128 / 25)

/-- A receiver leaves service (R226); at other than compute sites the edge is 0. (DESIGN CHOICE, log entry 122) -/
def Device.loseReceiver (s : Device) (t d : Nat) : Device :=
  s.modPln (fun p => { p with rxOut := p.rxOut.upd 0 (4 * t + (if isCompute t then d % 4 else 0)) (· + 1) })

/-- PLN_SITE publishes the site's limit (R226, R237). -/
def Device.publishSite (s : Device) (t : Nat) : Device :=
  s.fset F.plnSiteRxLimit (siteQuad t) (siteLocal t) (s.rxLimit t)

/-! ## Use by a phase (R207) -/

/-- λ-channels the static entries of a phase bring to a site, and to an edge. -/
def staticRx (m : List MapEnt) (t : Nat) : Nat :=
  ((m.filter (fun e => e.isStatic && e.dsts.contains t)).map MapEnt.chans).foldl (· + ·) 0
def staticRxEdge (m : List MapEnt) (t d : Nat) : Nat :=
  ((m.filter (fun e => e.isStatic && e.dsts.contains t && e.edge == d)).map MapEnt.chans).foldl (· + ·) 0

/-- Rings the static entries of a phase need at a site on a bus. -/
def staticRings (m : List MapEnt) (t b : Nat) : Nat :=
  ((m.filter (fun e => e.isStatic && e.bus == b && e.dsts.contains t)).map MapEnt.chans).foldl (· + ·) 0

/-- The destination set of a channel in a phase: its sites, and the edge where they are compute sites. -/
def destOf (m : List MapEnt) (b k : Nat) : Option (List Nat × Nat) :=
  (m.find? (fun e => e.isStatic && e.names b k)).map (fun e =>
    (e.dsts, if e.dsts.any isCompute then e.edge else 0))

/-- Equal destination sets. -/
def sameDest : Option (List Nat × Nat) → Option (List Nat × Nat) → Bool
  | some (l, d), some (l', d') => l.all l'.contains && l'.all l.contains && d == d'
  | none, none => true
  | _, _ => false

/-- Channels of an entry. -/
def MapEnt.keys (e : MapEnt) : List Nat := (List.range e.chans).map (fun i => chKey e.bus (e.chan + i))

/-- The channels a phase moves (R207): the phase before phase 0 is the last. -/
def movedIn (maps : List (List MapEnt)) (phases p : Nat) : List Nat :=
  let m := maps.getD p []
  let m0 := maps.getD (if p = 0 then phases - 1 else p - 1) []
  (m.filter MapEnt.isStatic).flatMap (fun e => e.keys.filter (fun k =>
    !sameDest (destOf m (k / 64) (k % 64)) (destOf m0 (k / 64) (k % 64))))

/-- R207: the first phase whose map does not fit the optics in service. -/
def Device.opticsFail (s : Device) (maps : List (List MapEnt)) (tab : List PhaseEnt) (phases : Nat) : Option Nat :=
  (List.range phases).find? (fun p =>
    let m := maps.getD p []
    (!(tab.getD p {}).retune && !(movedIn maps phases p).isEmpty) ||
      m.any (fun e => e.isStatic && decide (s.chansOf e.bus < e.chan + e.chans)) ||
      (List.range 40).any (fun t => decide (s.rxLimit t < staticRx m t) ||
        (isCompute t && (List.range 4).any (fun d => decide (s.rxEdge t d < staticRxEdge m t d)))) ||
      m.any (fun e => e.isStatic && e.dsts.any (fun t => decide (s.ringsIn t e.bus < staticRings m t e.bus))))

end Sys2Proof.Machine
end

