-- ==== Sys2Proof/Machine/Spaces.lean ====
section
/-! DEFINITION. The four spaces and the memory behind them: global addresses (R12), translation (R238, R243,
R257), declared regions and who may do what in them (R154, R155, R166, R239), ownership (R341), and the
bytes of HBM4 and DDR5. -/

namespace Sys2Proof.Machine

/-! ## Global addresses (R12) -/

def gDev (a : Nat) : Nat := bits a 54 10
def gSpace (a : Nat) : Nat := bits a 52 2
def gOff (a : Nat) : Nat := bits a 0 52

/-- A global address of a device. -/
def gAddr (dev space off : Nat) : Nat := dev * 2 ^ 54 + space * 2 ^ 52 + off

/-! ## Translation (R243, R257) -/

/-- Keys of memory bytes: channel (m, h) at address a; DIMM k at address a. -/
def chanKey (m h a : Nat) : Nat := (32 * m + h) * 2 ^ 31 + a
def dimmKey (k a : Nat) : Nat := 2 ^ 42 + k * 2 ^ 38 + a

/-- n(m) and N (R240). -/
def Device.nCh (s : Device) (m : Nat) : Nat := s.fget F.memStatusInSvc m
def Device.nAll (s : Device) : Nat := s.fget F.memCmtCtlNn 0

/-- Entry j of the active half of the channel map table (R241). -/
def Device.cmtIndex (s : Device) (j : Nat) : Nat := 2048 * s.fget F.memCmtCtlHalf 0 + j
def Device.cmtStack (s : Device) (j : Nat) : Nat := s.fget F.memCmtStack 0 (s.cmtIndex j)
def Device.cmtChan (s : Device) (j : Nat) : Nat := s.fget F.memCmtChannel 0 (s.cmtIndex j)

/-- The logical channels that name stack m, in ascending entry index (R243). -/
def Device.cmtOf (s : Device) (m : Nat) : List Nat :=
  (List.range s.nAll).filter (fun j => s.flag F.memCmtValid 0 (s.cmtIndex j) && s.cmtStack j == m)

/-- R243, I-space: the port die and memory key of an offset. -/
def Device.locateI (s : Device) (o : Nat) : Option (Nat × Nat) :=
  let nn := s.nAll
  if nn = 0 then none
  else
    let g := o / 256
    let j := g % nn
    let w := g / nn
    if 1491615488 < 256 * (w + 1) then none
    else some (s.cmtStack j / 5, chanKey (s.cmtStack j) (s.cmtChan j) (1491615488 - 256 * (w + 1) + o % 256))

/-- R243, P-space. -/
def Device.locateP (s : Device) (o : Nat) : Option (Nat × Nat) :=
  let m := bits o 36 5
  let r := bits o 0 36
  let n := s.nCh m
  if n = 0 then none
  else
    let g := r / 256
    match (s.cmtOf m)[g % n]? with
    | some j => some (m / 5, chanKey m (s.cmtChan j) (256 * (g / n) + r % 256))
    | none => none

/-- DDR5 channels in use: 8 for Population A, 4 for Population B (R257). -/
def Device.ddrChans (s : Device) : Nat := if s.fget F.prtDdrStatusState 0 1 = 0 then 4 else 8

/-- R257, D-space. -/
def Device.locateD (s : Device) (o : Nat) : Option (Nat × Nat) :=
  let cc := s.ddrChans
  let g := o / 256
  let k := if cc = 8 then g % cc else 2 * (g % cc)
  some (k / 2, dimmKey k (256 * (g / cc) + o % 256))

/-- The home port die (R318) and memory key of a global address in I-, P- or D-space. -/
def Device.locate (s : Device) (a : Nat) : Option (Nat × Nat) :=
  match gSpace a with
  | 0 => s.locateI (gOff a)
  | 1 => s.locateP (gOff a)
  | 2 => s.locateD (gOff a)
  | _ => none

/-- OFFSET is within the limits of R238 while an image is loaded. -/
def Device.offsetOk (s : Device) (a n : Nat) : Bool :=
  let o := gOff a
  match gSpace a with
  | 0 => decide (o + n ≤ s.job.iBytes)
  | 1 => decide (o / 2 ^ 41 = 0 ∧ bits o 36 5 ≤ 19 ∧
      bits o 0 36 + n ≤ 2097152 * s.job.pUnits.getD (bits o 36 5) 0)
  | 2 => decide (o + n ≤ s.job.dBytes)
  | _ => false

/-! ## Regions (R154, R155, R166, R239) -/

def rgReadOnly : Nat := 0
def rgBanked : Nat := 1
def rgAppend : Nat := 2
def rgScratch : Nat := 3

def Region.hostRead (r : Region) : Bool := bit r.flags 0
def Region.hostWrite (r : Region) : Bool := bit r.flags 1
def Region.atomic (r : Region) : Bool := bit r.flags 2

/-- Bytes a region occupies: both banks of a BANKED one (R154). -/
def Region.span (r : Region) : Nat := if r.kind = rgBanked then 2 * r.len else r.len

/-- The region that holds `n` bytes at an address of this device. -/
def Device.regionAt (s : Device) (a n : Nat) : Option Region :=
  s.job.regions.find? (fun r =>
    gSpace r.base == gSpace a && decide (gOff r.base ≤ gOff a ∧ gOff a + n ≤ gOff r.base + r.span))

/-- The bank of a BANKED region an address lies in. -/
def Region.bank (r : Region) (a : Nat) : Nat := (gOff a - gOff r.base) / max 1 r.len

/-- The APPEND slot of an address, and the offset in it (R154, R167). -/
def Region.slotSize (r : Region) : Nat := r.len / max 1 r.slots
def Region.slot (r : Region) (a : Nat) : Nat := r.firstSlot + (gOff a - gOff r.base) / max 1 r.slotSize
def Region.slotOff (r : Region) (a : Nat) : Nat := (gOff a - gOff r.base) % max 1 r.slotSize

/-- The kinds of access that R155 tells apart. -/
inductive Access3 where
  | read | write | atomic
  deriving DecidableEq, Repr

/-- R155: what frame programs, other devices and scheduled transfers may do in a region during the frame. -/
def Device.programMay (s : Device) (r : Region) (k : Access3) (a : Nat) : Bool :=
  let readBank := s.frame % 2
  let writeBank := (s.frame + 1) % 2
  match k with
  | .read => r.kind != rgBanked || r.bank a == readBank
  | .write =>
    if r.kind = rgBanked then r.bank a == writeBank && !r.hostWrite
    else if r.kind = rgAppend then decide (s.fget F.frmLenCommitLength 0 (r.slot a) ≤ r.slotOff a)
    else r.kind == rgScratch
  | .atomic => r.atomic && ((r.kind == rgBanked && r.bank a == writeBank && !r.hostWrite) || r.kind == rgScratch)

/-- R166: the status of a host read in a region. -/
def Device.hostReadStatus (s : Device) (r : Region) (a : Nat) : Nat :=
  if s.jobState = jReady then stOk
  else if s.settling then stStale
  else if r.kind ≠ rgBanked ∨ !r.hostRead then stWriteSet
  else if r.bank a ≠ s.fget F.frmCommittedCount % 2 then stStale
  else stOk

/-- R166: the status of a host write in a region. -/
def Device.hostWriteStatus (s : Device) (r : Region) (a : Nat) : Nat :=
  if s.jobState = jReady then stOk
  else if s.settling then stStale
  else if r.kind ≠ rgBanked ∨ !r.hostWrite then stWriteSet
  else if r.bank a ≠ (s.frame + 1) % 2 then stWriteSet
  else stOk

/-- R239 then R166: the status of an access of `n` bytes to I-, P- or D-space, by a host, the Curator or anyone else. -/
def Device.accessStatus (s : Device) (host curator : Bool) (k : Access3) (a n : Nat) : Nat :=
  let j := s.jobState
  if !(curator || j == jReady || j == jRunning || (host && k == .read && (j == jStopped || j == jWithdrawn))) then stAddress
  else if 256 < gOff a % 256 + n then stAddress
  else if !s.offsetOk a n then stAddress
  else
    match s.regionAt a n with
    | none => stAddress
    | some r =>
      if host then (if k = .read then s.hostReadStatus r a else s.hostWriteStatus r a)
      else if j = jRunning ∧ !s.programMay r k a then stWriteSet
      else stOk

/-- R341: the owner under the running program forbids a store by `src`; host writes (SENG 133) are exempt. -/
def Device.ownedByOther (s : Device) (src seng a : Nat) : Bool :=
  s.running && seng != 133 &&
    s.job.owners.any (fun o =>
      gSpace o.base == gSpace a && bit o.programs s.program &&
        decide (gOff o.base ≤ gOff a ∧ gOff a < gOff o.base + 2097152 * o.units) && o.owner != src)

/-- PRT_RM_OWN records a rejection under R341 (R349). -/
def Device.recordOwn (s : Device) (p src typ a : Nat) : Device :=
  let s := ((s.fset F.prtRmOwnSrc p 0 src).fset F.prtRmOwnType p 0 typ).setFlag F.prtRmOwnValid p 0 true
  (s.fset F.prtRmOwnUnit p 0 (bits (gOff a) 21 31)).fsat F.prtRmOwnCount p 0 1

/-- R436: in a mirror pair, a WRITE, REDUCE or ATOMIC from another device is rejected. -/
def Device.pairRejects (s : Device) (src : Nat) : Bool :=
  s.fr.job.isSome && s.job.mirrorPartner != 0xFFFF && src != s.self

/-! ## Memory bytes -/

/-- All byte enables. -/
def allBytes : Word := 0xFFFFFFFFFFFFFFFF

/-- Bytes of a line with enables merged over others. -/
def mergeLine (old new : Line) (en : Word) : Line :=
  lineOfBytes ((List.range 64).map (fun i =>
    if bit en.toNat i then (bytesOfLine new).getD i 0 else (bytesOfLine old).getD i 0))

/-- The line with key `l` (64-byte units) as stored. (DESIGN CHOICE, log entry 9) -/
def Memory.lineAt (m : Memory) (l : Nat) : Line := lineOfBytes (readBytes m.bytes (64 * l) 64)

/-- Store the enabled bytes of a line. -/
def Memory.putLine (m : Memory) (l : Nat) (data : Line) (en : Word) : Memory :=
  { m with
    bytes := (List.range 64).foldl (fun b i =>
      if bit en.toNat i then b.set 0 (64 * l + i) ((bytesOfLine data).getD i 0) else b) m.bytes
    bad := if en = allBytes then m.bad.filter (· != l) else m.bad }

/-- The channel number (32m + h) of a line key, and the same line in another channel. -/
def lineChan (l : Nat) : Nat := 64 * l / 2 ^ 31
def lineInChan (l ch : Nat) : Nat := ch * 2 ^ 25 + l % 2 ^ 25

/-- A line of a lost HBM4 channel or of the lost DDR5 tier (R253, R259). -/
def Memory.lost (m : Memory) (l : Nat) : Bool :=
  m.lostChans.contains (lineChan l) || (m.ddrLost && decide (2 ^ 36 ≤ l))

/-- Later reads of a written line no longer join earlier ones (R247). -/
def Memory.shutJoins (x : Memory) (l : Nat) : Memory :=
  if (x.waiting.get [] (lineChan l)).isEmpty then x
  else { x with waiting := x.waiting.upd [] (lineChan l) (fun q => q.map (fun e => if e.line = l % 2 ^ 25 then { e with shut := true } else e)) }

/-- Write a line, and its copy while its channel migrates (R252). A full write makes an uncorrectable line
readable (R250). A lost channel takes nothing (R253). -/
def Memory.writeLine (m : Memory) (l : Nat) (data : Line) (en : Word) : Memory :=
  if m.lost l then m
  else
    let spare := m.migrating.get 0 (lineChan l)
    let m := (m.putLine l data en).shutJoins l
    if spare = 0 then m else m.putLine (lineInChan l (spare - 1)) data en

/-- Write bytes at a memory key, line by line. -/
def Memory.writeAt (m : Memory) (key : Nat) (bs : List Byte) : Memory :=
  (List.range ((key % 64 + bs.length + 63) / 64)).foldl (fun m i =>
    let l := key / 64 + i
    let lo := 64 * l
    let en := (List.range 64).foldl (fun e k =>
      if key ≤ lo + k ∧ lo + k < key + bs.length then e + 2 ^ k else e) 0
    let data := (List.range 64).map (fun k => if key ≤ lo + k then bs.getD (lo + k - key) 0 else 0)
    m.writeLine l (lineOfBytes data) (BitVec.ofNat 64 en)) m

/-- The APPEND region that declares a slot (R154). -/
def Device.slotRegion (s : Device) (n : Nat) : Option Region :=
  s.job.regions.find? (fun r => r.kind == rgAppend && decide (r.firstSlot ≤ n ∧ n < r.firstSlot + r.slots))

/-- The stack on which a slot's region lies: APPEND regions lie in P-space (R157). -/
def Device.slotStack (s : Device) (n : Nat) : Nat := ((s.slotRegion n).map (fun r => bits (gOff r.base) 36 5)).getD 0

/-- Set or clear a slot's poison bit (R264, R274). -/
def Device.setPoison (s : Device) (n : Nat) (v : Bool) : Device :=
  let m := s.slotStack n
  s.fset F.memPoisonSlot m (n / 64) (setBits (s.fget F.memPoisonSlot m (n / 64)) (n % 64) 1 (b2n v))

/-- A poisoned APPEND slot's bit (R264, R274). -/
def Device.poisoned (s : Device) (slot : Nat) : Bool :=
  (List.range 20).any (fun m => bit (s.fget F.memPoisonSlot m (slot / 64)) (slot % 64))

/-- An access to an address lies in a poisoned slot. -/
def Device.inPoison (s : Device) (a n : Nat) : Bool :=
  match s.regionAt a n with
  | some r => r.kind == rgAppend && s.poisoned (r.slot a)
  | none => false

/-- The line keys of `n` bytes at a memory key. -/
def keyLines (key n : Nat) : List Nat := (List.range ((key % 64 + n + 63) / 64)).map (fun i => key / 64 + i)

/-- A line that cannot be read: uncorrectable in storage (R261), or on a lost channel (R253). -/
def Memory.unreadable (m : Memory) (l : Nat) : Bool := m.bad.contains l || m.lost l

/-- KIND of MEM_ERR_ADDR by the region a line lies in (R271). -/
def Device.lineKind (s : Device) (r : Option Region) (a : Nat) : Nat :=
  match r with
  | none => 0
  | some r =>
    if r.kind = rgReadOnly then 1
    else if r.kind = rgBanked then (if r.bank a = s.frame % 2 then 2 else 3)
    else if r.kind = rgAppend then 4 else 5

/-- R261: an uncorrectable line is recorded where its controller reports it. -/
def Device.recordUncorr (s : Device) (l kind : Nat) : Device :=
  let key := 64 * l
  if key < 2 ^ 42 then
    let m := lineChan l / 32
    let h := lineChan l % 32
    let s := ((s.fsat F.memErrUncorr m 0 1).fsat F.memChanUncorr m h 1).fset F.memErrAddrChannel m 0 h
    ((s.fset F.memErrAddrKind m 0 kind).setFlag F.memErrAddrValid m 0 true).fset F.memErrAddrLine m 0
      (key % 2 ^ 31 / 64)
  else
    let k := (key - 2 ^ 42) / 2 ^ 38
    let s := (s.fsat F.prtDdrErrUncorr (k / 2) (k % 2) 1).fset F.prtDdrErrAddrKind (k / 2) (k % 2) kind
    (s.setFlag F.prtDdrErrAddrValid (k / 2) (k % 2) true).fset F.prtDdrErrAddrLine (k / 2) (k % 2)
      ((key - 2 ^ 42) % 2 ^ 38 / 64)

/-- Count the lines a controller reads or writes: performance events and bandwidth bytes (R493, R494), and their energy (R385). -/
def Device.countMem (s : Device) (write : Bool) (key n : Nat) : Device :=
  let lines := (keyLines key n).length
  if key < 2 ^ 42 then
    let m := lineChan (key / 64) / 32
    ((s.spendHbm m (64 * lines)).pmc pmcMem m 0 (if write then 0x02 else 0x01) (lineChan (key / 64) % 32) lines).bw .memBw m 0
      (b2n write) (64 * lines)
  else
    let k := (key - 2 ^ 42) / 2 ^ 38
    ((s.spendDdr (64 * lines)).pmc pmcPrt (k / 2) 0 (if write then 0x09 else 0x08) (k % 2) lines).bw .prtDdrBw (k / 2) (k % 2)
      (b2n write) (64 * lines)

/-- An armed parity flip matches a line a controller reads (R506). (DEDUCED, log entry 93) -/
def Device.lineFlip (s : Device) (l : Nat) : Bool :=
  if 64 * l < 2 ^ 42 then s.flipArmed ptHbm (lineChan l / 32) 0 else s.flipArmed ptDdr ((64 * l - 2 ^ 42) / 2 ^ 38) 0

/-- It fires: the line is recorded as an unreadable one would be, and awaits its report (R261, R505). (DEDUCED, log entry 93) -/
def Device.fireLine (s : Device) (l kind : Nat) : Device :=
  (s.flipFires.recordUncorr l kind).modMem (fun m => { m with flipped := addNew m.flipped l })

/-! ## Weight pages (R258, R263) -/

/-- The READ_ONLY regions of I- and P-space, each with its place among the canonical copies. (DEDUCED, log entry 35) -/
def canonicalAt : List Region → Nat → List (Region × Nat)
  | [], _ => []
  | r :: l, n =>
    if r.kind == rgReadOnly && decide (gSpace r.base < 2) then (r, n) :: canonicalAt l (n + r.len)
    else canonicalAt l n

/-- The weight page of an address, when it lies in such a region. -/
def Device.weightPage (s : Device) (a : Nat) : Option Nat :=
  match s.regionAt a 1 with
  | some r => if r.kind == rgReadOnly && decide (gSpace r.base < 2) then some (a / 4096) else none
  | none => none

/-- A read of this address waits for a page repair. -/
def Device.pageHeld (s : Device) (a : Nat) : Bool := s.mem.heldPages.contains (a / 4096)

/-- R243 backwards: the global address of a line of an HBM4 channel, where it lies in I- or P-space. -/
def Device.globalOf (s : Device) (m h addr : Nat) : Option Nat :=
  match (List.range s.nAll).find? (fun j => s.cmtStack j == m && s.cmtChan j == h) with
  | none => none
  | some j =>
    let k := ((s.cmtOf m).findIdx? (· == j)).getD 0
    let r := 256 * (addr / 256 * s.nCh m + k) + addr % 256
    let o := 256 * (((1491615488 - (addr - addr % 256)) / 256 - 1) * s.nAll + j) + addr % 256
    if 1491615488 ≤ addr then none
    else if r < 2097152 * s.job.pUnits.getD m 0 then some (gAddr s.self 1 (2 ^ 36 * m + r))
    else if o < s.job.iBytes then some (gAddr s.self 0 o)
    else none

/-- R257 backwards. -/
def Device.globalOfDimm (s : Device) (k addr : Nat) : Nat :=
  let cc := s.ddrChans
  gAddr s.self 2 (256 * (addr / 256 * cc + (if cc = 8 then k else k / 2)) + addr % 256)

/-! ## Resident copies (R85, R258) -/

/-- The DIMM space (R258): capacities in GB as sold (R9). -/
def Device.dimmSpace (s : Device) : Nat := s.ddrChans * (s.fget F.prtDdrStatusCapGb 0 0 * 1000000000)

/-- The area of one tile's copy: the 5 GiB of R258 over the 4,096 logical tiles. -/
def residentSpan : Nat := 0x140000

/-- Where the copy of logical tile i of stack c lies in D-space: resident region from 0, route memory from 0x100000. The spec does not lay
the area out. (DESIGN CHOICE, log entry 120) -/
def Device.residentAt (s : Device) (c i : Nat) : Nat := s.dimmSpace - 6 * 2 ^ 30 + residentSpan * (256 * c + i)

/-- The D-space offset of a byte of the DIMMs. -/
def Device.dimmOffset (s : Device) (key : Nat) : Nat := gOff (s.globalOfDimm ((key - 2 ^ 42) / 2 ^ 38) (key % 2 ^ 38))

/-- A byte of the memories lies in the copy of a tile. -/
def Device.inResident (s : Device) (c i key : Nat) : Bool :=
  decide (2 ^ 42 ≤ key ∧ s.residentAt c i ≤ s.dimmOffset key ∧ s.dimmOffset key < s.residentAt c i + residentSpan)

/-- The copy of a tile, by offset in its area. -/
def Device.residentCopy (s : Device) (c i : Nat) : NMap Byte :=
  (s.mem.bytes.filter (fun e => s.inResident c i e.1)).foldl (fun m e => m.set 0 (s.dimmOffset e.1 - s.residentAt c i) e.2) []

/-- The route memory of a tile as the bytes of its copy, and back (R114). -/
def Tile.routeBytes (x : Tile) : List (Nat × Byte) :=
  x.route.flatMap (fun e => (List.range 4).map (fun j => (0x100000 + 4 * e.1 + j, BitVec.ofNat 8 (e.2 / 2 ^ (8 * j)))))
def routeOf (m : NMap Byte) : NMap Nat :=
  (List.range 4096).foldl (fun r k => r.set 0 k (leNat (readBytes m (0x100000 + 4 * k) 4))) []

/-- Keep the resident copy of a tile: its resident region and route memory. -/
def Device.keepCopy (s : Device) (c i : Nat) (x : Tile) (resTop : Nat) : Device :=
  let new := x.sram.filter (fun e => decide (e.1 < resTop)) ++ x.routeBytes
  let at_ (o : Nat) : Nat := ((s.locateD (s.residentAt c i + o)).map Prod.snd).getD 0
  s.modMem (fun m => { m with
    bytes := NMap.setAll 0 (m.bytes.filter (fun e => !s.inResident c i e.1)) (new.map (fun e => (at_ e.1, e.2)))
    bad := m.bad.filter (fun l => !s.inResident c i (64 * l)) })

/-! ## Items of the frame digest (R442) -/

/-- A line address with DEV replaced by 0x3FF when it names this device or its partner. -/
def Device.itemKey (s : Device) (a : Nat) : Nat :=
  (if gDev a = s.self ∨ gDev a = s.job.mirrorPartner then gAddr 0x3FF (gSpace a) (gOff a) else a) / 64

/-- Note bytes of one line that the frame's program or a host wrote. -/
def Device.noteItem (s : Device) (a : Nat) (data : Line) (mask : Word) : Device :=
  s.modFr (fun f => { f with
    items := f.items.upd {} (s.itemKey a) (fun i => { data := mergeLine i.data data mask, mask := i.mask ||| mask }) })

/-- The line pieces of a byte string at an address: line address, line, enables. -/
def linePieces (a : Nat) (bs : List Byte) : List (Nat × Line × Word) :=
  (List.range ((a % 64 + bs.length + 63) / 64)).map (fun i =>
    let lo := 64 * (a / 64 + i)
    let en := (List.range 64).foldl (fun e k =>
      if a ≤ lo + k ∧ lo + k < a + bs.length then e + 2 ^ k else e) 0
    (lo, lineOfBytes ((List.range 64).map (fun k => if a ≤ lo + k then bs.getD (lo + k - a) 0 else 0)),
      BitVec.ofNat 64 en))

/-- A region whose lines the digest covers: APPEND, and a BANKED write bank (R442). -/
def Device.digested (s : Device) (a : Nat) : Bool :=
  match s.regionAt a 1 with
  | some r => r.kind == rgAppend || (r.kind == rgBanked && r.bank a == (s.frame + 1) % 2)
  | none => false

/-- Note a write of the frame's program. -/
def Device.noteItems (s : Device) (a : Nat) (bs : List Byte) : Device :=
  (linePieces a bs).foldl (fun s p => s.noteItem p.1 p.2.1 p.2.2) s

end Sys2Proof.Machine
end

