-- ==== Sys2Proof/Machine/Checks.lean ====
section
/-! DEFINITION. The checks of an image against the resources in service (R158–R160): stacks, memory, optics, lanes,
clock. -/

namespace Sys2Proof.Machine

/-- 2 MiB, the unit of footprints; bytes of an HBM4 channel; the reservation on it (R159, R240, R244). -/
def unit2M : Nat := 2097152
def chanBytes : Nat := 1500000000
def chanReserved : Nat := 8388608

/-- Check 5: the first stack of the image that is not in service. -/
def Device.stacksFail (s : Device) (stackSet : Nat) : Option Nat :=
  (List.range 16).find? (fun c => bit stackSet c && s.fget F.glbSiteStatus 0 c != 1)

/-- The device's reservations in it, with those of an image's READ_ONLY regions in I- and P-space (R258). -/
def Device.dimmReserved (s : Device) (regions : List Region) : Nat :=
  let ro := ((regions.filter (fun r => r.kind == rgReadOnly && decide (gSpace r.base < 2))).map Region.len).foldl (· + ·) 0
  2 ^ 30 + 5 * 2 ^ 30 + s.boot.cat.journalGib * 2 ^ 30 + ceilDiv ro unit2M * unit2M

/-- Check 6 (R159): the stack whose footprint does not fit, or 20 for the DDR5 tier, to which R184 gives no number.
(DESIGN CHOICE, log entry 119) -/
def Device.memoryFail (s : Device) (iBytes dBytes : Nat) (pUnits : List Nat) (regions : List Region) : Option Nat :=
  let nn := s.nAll
  match (List.range 20).find? (fun m =>
      let n := s.nCh m
      let i := if nn = 0 then iBytes else ceilDiv (iBytes * n) nn
      decide (chanBytes * n < unit2M * pUnits.getD m 0 + i + chanReserved * n)) with
  | some m => some m
  | none => if s.dimmSpace < dBytes + s.dimmReserved regions ∨ s.mem.ddrLost then some 20 else none

/-- A lane in service (R159): trained, also while interrupted or dimmed. -/
def Device.laneIn (s : Device) (z : Nat) : Bool :=
  s.laneState z == lUp || s.laneState z == lInterrupted || s.laneState z == lDimmed

/-- Lanes of a port die in service (R311), and those of them that count for R159 and R160: not HOST lanes (R304). -/
def Device.lanesUp (s : Device) (p : Nat) : Nat := ((List.range 16).filter (fun j => s.laneIn (16 * p + j))).length
def Device.lanesIn (s : Device) (p : Nat) : Nat :=
  ((List.range 16).filter (fun j => s.laneIn (16 * p + j) && s.laneRole (16 * p + j) != rHost)).length

/-- PRT_STATUS.LANES_UP follows (R311). -/
def Device.publishLanes (s : Device) : Device :=
  (List.range 4).foldl (fun s p => s.fset F.prtStatusLanesUp p 0 (s.lanesUp p)) s

/-- Check 8: the first port die with fewer lanes than the schedule uses. -/
def Device.lanesFail (s : Device) (lanes : List Nat) : Option Nat :=
  (List.range 4).find? (fun p => decide (s.lanesIn p < lanes.getD p 0))

/-- Check 12: the first stack whose clock may not reach CLK_MHZ (R361). -/
def Device.clockFail (s : Device) (stackSet clk : Nat) : Option Nat :=
  (List.range 16).find? (fun c => bit stackSet c && decide (750 + 25 * s.fget F.clkDomFmaxStep 0 c < clk))

/-- R160: checks 5–8 and 12 on the running image fail. -/
def Device.misfit (s : Device) : Bool :=
  let j := s.job
  (s.stacksFail j.stackSet).isSome || (s.memoryFail j.iBytes j.dBytes j.pUnits j.regions).isSome ||
    (s.opticsFail j.maps j.phaseTable j.phases).isSome || (s.lanesFail j.lanes).isSome ||
    (s.clockFail j.stackSet j.clkMhz).isSome

/-- R160: after a deaccession the running checks are repeated; a device whose image no longer fits withdraws. -/
def Device.recheck (s : Device) : Device := if s.running && s.misfit then s.withdraw wResources else s

end Sys2Proof.Machine
end

