-- ==== Sys2Proof/Machine/Channels.lean ====
section
/-! DEFINITION. Channels of memory (R245–R253, R259–R263, R380): states, rows, token buckets, errors and what they start, and what
a controller delivers for a read. -/

namespace Sys2Proof.Machine

/-! ## Channel states and rows (R250, R273) -/

def chInService : Nat := 0
def chSpare : Nat := 1
def chDegraded : Nat := 2
def chMigrating : Nat := 3
def chDeacc : Nat := 4
def chFailed : Nat := 5

def chanNo (m h : Nat) : Nat := 32 * m + h

/-- Bytes of a row as the model groups lines into rows: 1 KiB (the spec leaves it to the stack).
(DESIGN CHOICE, log entry 20) -/
def rowOf (line : Nat) : Nat := line / 16
def rowKey (m h row : Nat) : Nat := 2 ^ 21 * chanNo m h + row

/-- The key of a line of a channel. -/
def chanLine (m h line : Nat) : Nat := chanKey m h (64 * line) / 64

/-- In CRITICAL only refresh is issued (R249). -/
def Device.critical (s : Device) (m : Nat) : Bool := s.fget F.memStatusBand m == 3

/-! ## Token buckets (R380) -/

/-- The in-service bandwidth of a stack, in bytes per µs: 38.4 GB/s for each channel. -/
def Device.memFull (s : Device) (m : Nat) : Nat := 38400 * s.nCh m

/-- The percentage of a stack's tokens that TST_BP withholds (R506). (DEDUCED, log entry 98) -/
def Device.withheld (s : Device) (m : Nat) : Nat :=
  if s.flag F.tstCtlPresent && s.flag F.tstCtlActive && s.fget F.tstBpStack == m then min 100 (s.fget F.tstBpHbmPct) else 0

/-- The rate in force where something limits it: the power cap's share, the brake's floor (R378), THROTTLE's half (R249), the
lowest of them, less what a perturbation withholds. (DEDUCED, log entry 98) -/
def Device.memRate (s : Device) (m : Nat) : Option Nat :=
  let full := s.memFull m
  let ls := (if s.mem.rates.get 0 m = 0 then [] else [s.mem.rates.get 0 m]) ++ (if s.pwr.brake then [full / 10] else []) ++
    (if s.fget F.memStatusBand m = 2 then [full / 2] else [])
  let pct := 100 - s.withheld m
  match ls with
  | [] => if pct = 100 then none else some (full * pct / 100)
  | r :: rs => some (rs.foldl min r * pct / 100)

/-- The HBM4 stack of a home-memory line. -/
def lineStack (l : Nat) : Option Nat := if 64 * l < 2 ^ 42 then some (lineChan l / 32) else none

/-- An access to a line: 64 tokens of its stack's bucket, of depth 16 × R. `none` while it must wait, for tokens or in
CRITICAL (R249). -/
def Device.access (s : Device) (l : Nat) : Option Device :=
  match lineStack l with
  | none => some s
  | some m =>
    if s.critical m then none
    else
      match s.memRate m with
      | none => some s
      | some r =>
        let used := min (16 * r) (s.mem.spent.get 0 m)
        if 16 * r < used + 64 then none
        else some (s.modMem (fun x => { x with spent := x.spent.set 0 m (used + 64) }))

/-- The bucket of a stack holds too few tokens for an access. -/
def Device.lacksTokens (s : Device) (m : Nat) : Bool :=
  match s.memRate m with
  | none => false
  | some r => decide (16 * r < min (16 * r) (s.mem.spent.get 0 m) + 64)

/-! ## The order of accesses to a line (R246) -/

/-- R246: an access comes behind those that came before it; among those of one cycle to its line, the lower site, then the lower bus,
goes first. -/
def ctlInsert (q : CtlReq) : List CtlReq → List CtlReq
  | [] => [q]
  | e :: l =>
    if e.line = q.line ∧ e.came = q.came ∧ (q.site < e.site ∨ (q.site = e.site ∧ q.bus < e.bus)) then q :: e :: l
    else e :: ctlInsert q l

/-- A queued access is a read. -/
def CtlReq.isRead (q : CtlReq) : Bool :=
  match q.write, q.mark with
  | none, none => true
  | none, some (.read _ _ _ _) => true
  | _, _ => false

/-- What is queued ahead of the access of this mark: everything, where it is not queued itself. -/
def aheadOf (l : List CtlReq) (line : Nat) (mark : Option Mark) : List CtlReq :=
  if mark.isNone then l else l.takeWhile (fun q => !(q.line == line && q.mark == mark))

/-- An access comes behind those that wait at the controller for its line (R246): a write or atomic behind any, a read behind those. -/
def Device.accessFor (s : Device) (write : Bool) (l : Nat) (mark : Option Mark := none) : Option Device :=
  if (aheadOf (s.mem.waiting.get [] (lineChan l)) (l % 2 ^ 25) mark).any (fun q =>
      q.line == l % 2 ^ 25 && (write || !q.isRead)) then none
  else s.access l

/-- An access arrives at the controller of an HBM4 line, to be served later; one that is no read ends the joining of reads of its line
(R247). -/
def Device.arriveAt (s : Device) (l site : Nat) (mk : Mark) (read : Bool := false) : Device :=
  if 2 ^ 36 ≤ l then s
  else
    s.modMem (fun x =>
      let x := if read then x else x.shutJoins l
      { x with waiting := x.waiting.upd [] (lineChan l) (ctlInsert { line := l % 2 ^ 25, site := site, came := s.now, mark := some mk }) })

/-- A list without its first entry that has a property. -/
def dropFirst {α : Type} (f : α → Bool) : List α → List α
  | [] => []
  | a :: l => if f a then l else a :: dropFirst f l

/-- The access of a mark leaves the queue. -/
def Device.leaveQueue (s : Device) (l : Nat) (mk : Mark) : Device :=
  if 2 ^ 36 ≤ l then s
  else
    s.modMem (fun x => { x with
      waiting := x.waiting.upd [] (lineChan l) (dropFirst (fun q => q.line == l % 2 ^ 25 && q.mark == some mk)) })

/-- An access of this mark is queued for the line. -/
def Device.queuedAt (s : Device) (l : Nat) (mk : Mark) : Bool :=
  (s.mem.waiting.get [] (lineChan l)).any (fun q => q.line == l % 2 ^ 25 && q.mark == some mk)

/-! ## Degradation (R251) -/

/-- A channel in service becomes DEGRADED, with an EVENT (R251, R252), and a FAULT while its stack has a spare (R415). -/
def Device.degrade (s : Device) (m h : Nat) : Device :=
  if s.fget F.memChanState m h ≠ chInService then s
  else
    let s := if (List.range 32).any (fun j => s.fget F.memChanState m j == chSpare) then
        s.note { kind := kMem, index := m, prio := 1, cls := 3, cause := 5, unit := h } else s
    (s.fset F.memChanState m h chDegraded).note { kind := kMem, index := m, prio := 2, cls := 3, cause := 11, unit := h }

/-- The times within `span` of now. -/
def recent (now span : Nat) (l : List Nat) : List Nat := l.filter (fun t => decide (now < t + span))

/-- A corrected error (R250, R251). -/
def Device.corrected (s : Device) (m h line : Nat) : Device :=
  let s := (s.fsat F.memChanCorr m h 1).pmc pmcMem m 0 0x06 h 1
  let rk := rowKey m h (rowOf line)
  let n := s.mem.rowCorr.get 0 rk + 1
  let ts := recent s.now 60000000000 (s.mem.corrAt.get [] (chanNo m h)) ++ [s.now]
  let s := s.modMem (fun x => { x with
    rowCorr := x.rowCorr.set 0 rk n
    rowsDue := if n = 16 then addNew x.rowsDue rk else x.rowsDue
    corrAt := x.corrAt.set [] (chanNo m h) ts })
  if 10000 < ts.length then s.degrade m h else s

/-- KIND of the record of a line (R271, R275): 6 the controller area, or a reserved area of the DIMM space. -/
def Device.lineKindAt (s : Device) (l : Nat) : Nat :=
  if 64 * l < 2 ^ 42 then
    if 1491615488 ≤ 64 * l % 2 ^ 31 then 6
    else
      match s.globalOf (lineChan l / 32) (lineChan l % 32) (64 * l % 2 ^ 31) with
      | some a => s.lineKind (s.regionAt a 64) a
      | none => 0
  else
    let a := s.globalOfDimm ((64 * l - 2 ^ 42) / 2 ^ 38) (64 * l % 2 ^ 38)
    if s.dimmSpace < gOff a + s.dimmReserved s.job.regions + 64 then 6 else s.lineKind (s.regionAt a 64) a

/-- The global address of a line in I-, P- or D-space. -/
def Device.globalAt (s : Device) (l : Nat) : Option Nat :=
  if 64 * l < 2 ^ 42 then s.globalOf (lineChan l / 32) (lineChan l % 32) (64 * l % 2 ^ 31)
  else some (s.globalOfDimm ((64 * l - 2 ^ 42) / 2 ^ 38) (64 * l % 2 ^ 38))

/-- The aligned 4 KiB a line lies in (R251, R263): of its space, or of its channel outside every space. -/
def Device.pageOf (s : Device) (l : Nat) : Nat :=
  match s.globalAt l with
  | some a => a / 4096
  | none => 2 ^ 64 + l / 64

/-- An uncorrectable line is met by whatever read of it (R250, R251, R261): it is recorded, later reads of a weight page's line are held
(R263), its row is due for repair, and a third such row or a third failure of its page degrades the channel. -/
def Device.uncorrected (s : Device) (l : Nat) : Device :=
  let s := s.recordUncorr l (s.lineKindAt l)
  let first := !s.mem.bad.contains l
  let weight := ((s.globalAt l).bind s.weightPage).isSome
  let page := s.pageOf l
  let s := s.modMem (fun x => { x with
    bad := addNew x.bad l
    failing := if weight then addNew x.failing l else x.failing
    pageFails := if first then x.pageFails.upd 0 page (· + 1) else x.pageFails })
  if 2 ^ 42 ≤ 64 * l then s
  else
    let ch := lineChan l
    let rk := rowKey (ch / 32) (ch % 32) (rowOf (l % 2 ^ 25))
    let s := s.modMem (fun x => { x with rowsDue := addNew x.rowsDue rk, rowsBad := addNew x.rowsBad rk })
    if 3 ≤ (s.mem.rowsBad.filter (fun r => r / 2 ^ 21 == ch)).length || 3 ≤ s.mem.pageFails.get 0 page then s.degrade (ch / 32) (ch % 32)
    else s

/-- A read of this line waits for a page repair (R263): its page has been reported, or the line itself has failed. -/
def Device.readHeld (s : Device) (a key : Nat) : Bool := s.pageHeld a || s.mem.failing.contains (key / 64)

/-- A read of any of the lines that `n` bytes lie in waits for a page repair. -/
def Device.readsHeld (s : Device) (a key n : Nat) : Bool := s.pageHeld a || (keyLines key n).any s.mem.failing.contains

/-- A READ's accesses, one for each of its lines (R380). -/
def Device.readAccess (s : Device) (key n : Nat) (mk : Option Mark) : Option Device :=
  (keyLines key n).foldl (fun o l => o.bind (fun s => s.accessFor false l mk)) (some s)

/-- The result of a read served by a controller: the bytes, or `none` where a line is unreadable and every
consumer meets a parity error (R253, R261, R264). -/
def Device.memRead (s : Device) (a key n : Nat) : Option (List Byte) × Device :=
  let s := s.countMem false key n
  if s.inPoison a n then
    (some (List.replicate n 0), s.fsat F.memErrPoisonRd (lineChan (key / 64) / 32) 0 1)
  else
    match (keyLines key n).find? s.mem.unreadable with
    | none =>
      if s.lineFlip (key / 64) then (none, s.fireLine (key / 64) (s.lineKindAt (key / 64)))
      else (some (readBytes s.mem.bytes key n), s)
    | some l =>
      (none, if s.mem.lost l then s
        else s.uncorrected l)

/-- A line as it leaves a controller, with its parity (R260, R261, R264): poisoned where the line is uncorrectable,
with data the spec does not give; zeros with poisoned parity on a lost channel (R253). -/
def Device.lineOut (s : Device) (a key : Nat) : (Line × Word) × Device :=
  let s := s.countMem false key 64
  let l := key / 64
  if s.inPoison a 64 then ((0, 0), s.fsat F.memErrPoisonRd (lineChan l / 32) 0 1)
  else if s.mem.lost l then ((0, poisonedParity 0), s)
  else if s.mem.bad.contains l then
    let d := Config.freeLine s.free
    ((d, poisonedParity d), ({ s with free := s.free + 1 } : Device).uncorrected l)
  else
    let d := s.mem.lineAt l
    if s.lineFlip l then ((d, parityOf d ^^^ 1), s.fireLine l (s.lineKindAt l)) else ((d, parityOf d), s)

end Sys2Proof.Machine
end

