-- ==== Sys2Proof/Machine/Spares.lean ====
section
/-! DEFINITION. Spares and their accession (R35, R126–R129, R421, R423, R430, R447): wear figures, work that holds
ticks, the replacement of a tile, the loss of a stack. -/

namespace Sys2Proof.Machine

/-! ## Wear figures (R447) -/

/-- A spare of kind k was accessioned: counted since power-up, and since manufacture in the flash summary (R425). -/
def Device.useSpare (s : Device) (k : Nat) : Device :=
  ({ s with led := { s.led with wearEver := s.led.wearEver.upd 0 k (· + 1) } } : Device).fsat F.curWearAccessions 0 k 1

/-! ## Sweeps of vertical lanes (R355, R426) -/

/-- A lane of a group, as a key. -/
def vLane (g l : Nat) : Nat := 68 * g + l

/-- The longest run of steps without error in a sweep of 32 steps, the first of equals: where it begins and its length. The rules speak of one
window. (DEDUCED, log entry 130) -/
def sweepWindow (sweep : Nat) : Nat × Nat :=
  ((List.range 32).foldl (fun (x : (Nat × Nat) × Nat) k =>
    let n := if bit sweep k then x.2 + 1 else 0
    (if x.1.2 < n then (k + 1 - n, n) else x.1, n)) ((0, 0), 0)).1

/-- A lane passes when it shows no error over at least 8 consecutive steps. -/
def sweepOk (sweep : Nat) : Bool := decide (8 ≤ (sweepWindow sweep).2)

/-- A lane that passes samples at its window's centre; a logic-to-SRAM lane's synchronous crossing has its trim from the same window
(R353). (DEDUCED, log entry 130) -/
def Device.setVDelay (s : Device) (c g l sweep : Nat) : Device :=
  let w := sweepWindow sweep
  s.modDie c (fun y => { y with laneDelay := y.laneDelay.set 16 (vLane g l) (w.1 + w.2 / 2) })

/-- A lane is out of service. -/
def Device.laneOut (s : Device) (c g l : Nat) : Bool := (s.die c).lanesOut.contains (vLane g l)

/-- The idle lanes of a group: 64 to 67 to begin with. -/
def spareLanes4 : List Nat := [64, 65, 66, 67]
def Device.idleLanes (s : Device) (c g : Nat) : List Nat := (s.die c).idleLanes.get spareLanes4 g

/-- A lane leaves service: its group has lost one more, and one idle lane, which is itself or which takes its data. -/
def Device.takeOut (s : Device) (c g l : Nat) : Device :=
  s.modDie c (fun y =>
    let idle := y.idleLanes.get spareLanes4 g
    { y with
      lost := y.lost.upd 0 g (· + 1), lanesOut := addNew y.lanesOut (vLane g l)
      idleLanes := y.idleLanes.set spareLanes4 g (if idle.contains l then idle.filter (· != l) else idle.drop 1) })

/-! ## Work during held ticks (R421) -/

/-- Keys of accessions under way: a tile, the rejoin of a stack, a cartridge. -/
def workTile (c t : Nat) : Nat := 272 * c + t
def workStack (c : Nat) : Nat := 10000 + c
def workCart (q : Nat) : Nat := 20000 + q

/-- The time each takes, in µs (R421). -/
def workUs (k : Nat) : Nat := if k < 10000 then 160 else if k < 20000 then 228 else 150

/-- The reason of the holds an accession raises (R169, R223, R359). -/
def workReason (k : Nat) : Nat := if k < 10000 then hAccession else if k < 20000 then hCrossing else hOptics

/-- An accession is complete: its holds end. -/
def Device.endWork (s : Device) (k : Nat) : Device := s.modFr (fun f => { f with work := f.work.filter (· != k) })

/-! ## Loss of a stack (R430) -/

/-- GLB_SITE.STATUS values (R46). -/
def siInService : Nat := 1
def siNegFailed : Nat := 2
def siStrap : Nat := 3
def siDeacc : Nat := 4

/-- A die is retired: its site is deaccessioned and stays so (R47). -/
def Device.retireStack (s : Device) (c : Nat) : Device :=
  ((s.fset F.glbSiteStatus 0 c siDeacc).modDie c (fun y => { y with isolated := true })).note
    { kind := kCmp, index := c, prio := 0, cls := 4, cause := 5, unit := c }

/-- A stack is lost: it leaves at the coming tick, and a device whose job uses it withdraws (R430). (DEDUCED, log entry 83) -/
def Device.loseStack (s : Device) (c : Nat) : Device :=
  let s := s.modFr (fun f => { f with lossPending := addNew f.lossPending c })
  if s.running && bit s.job.stackSet c then s.withdraw wStackLost else s

/-- The stacks whose rejoin is under way are lost: the hold budget is reached (R359, R430). -/
def Device.loseRejoining (s : Device) : Device :=
  ((List.range 16).filter (fun c => s.fr.work.contains (workStack c))).foldl (fun s c => (s.endWork (workStack c)).loseStack c) s

/-- Start an accession that needs holds: if the hold budget leaves room, its holds begin with the coming tick;
otherwise the device escalates at once to withdrawal (R421), and a stack that would rejoin is lost (R430). With no Curator core active its
holds only begin (R434). (DEDUCED, log entries 113 and 131) -/
def Device.startWork (s : Device) (k : Nat) : Device :=
  let s1 := s.modFr (fun f => { f with work := addNew f.work k })
  if !s.running then s1
  else if s.coreless || s.roomForHolds (s.holdsNeeded (workUs k)) then s1.raiseHold (workReason k)
  else (s1.withdraw wHoldBudget).loseRejoining

/-! ## Tiles (R128, R129) -/

/-- TILE_ID.STATE values (R131). -/
def tsSpare : Nat := 0
def tsInService : Nat := 1
def tsDeacc : Nat := 2
def tsFailedAtTest : Nat := 3

/-- A row can absorb a failure: it has no replacement yet nor one under way, and its spare passed its test (R129). -/
def Device.rowRepairable (s : Device) (c row : Nat) : Bool :=
  s.fget F.cmpSpareFailCol c row == 31 && s.flag F.cmpSpareSpareOk c row &&
    !(List.range 17).any (fun f => s.fr.work.contains (workTile c (17 * row + f)))

/-- R128: a tile in service cannot run on: a FAULT is recorded, its outputs are forced idle, and its accession
starts; a row that cannot be repaired loses the stack. (DEDUCED, log entry 113) -/
def Device.failTile (s : Device) (c t : Nat) : Device :=
  if s.fget F.tileIdState (272 * c + t) != tsInService || (s.tile c t).outputsIdle then s
  else
    let s := (s.note { kind := kTile, index := t, prio := 1, cls := 3, cause := 5, unit := c }).modTile c t
      (fun x => { x with outputsIdle := true })
    if s.rowRepairable c (t / 17) then s.startWork (workTile c t) else s.loseStack c

/-- What a physical tile takes over with a position (R128): resident region and route memory from the resident copy, carry banks with
their written bits from the tile that held it. The rule names no source for the anchor table, which comes with the position.
(DEDUCED, log entry 104) -/
def Tile.positionOf (x : Tile) (m : SramMap) (copy : NMap Byte) : Tile :=
  { sram := copy.range 0 m.resTop ++ x.sram.filter (fun e => decide (m.cb0 ≤ e.1))
    written := x.written.filter (fun l => decide (m.cb0 ≤ 64 * l))
    route := routeOf copy
    anchors := x.anchors
    lastIssued := x.lastIssued }

/-- The resident copy of the position that physical tile `t` holds (R85). -/
def Device.positionCopy (s : Device) (c t : Nat) : NMap Byte :=
  match s.logicalOf c t with
  | some (x, y) => s.residentCopy c (16 * y + x)
  | none => []

/-- The position in physical tile `t` moves to the next column, whose link retimers are aligned (R126, R128, R353). -/
def Device.moveRight (s : Device) (c t : Nat) : Device :=
  let b := 272 * c + t
  let s := s.setTile c (t + 1) ((s.tile c t).positionOf (s.sramMap c t) (s.positionCopy c t))
  let s := (s.wr .tileSramMap (b + 1) 0 (s.rd .tileSramMap b)).wr .tileCtl (b + 1) 0 (s.rd .tileCtl b)
  let s := (s.fset F.tileIdLx (b + 1) 0 (s.fget F.tileIdLx b)).fset F.tileIdLy (b + 1) 0 (s.fget F.tileIdLy b)
  (s.fset F.tileIdState (b + 1) 0 tsInService).modDie c (fun y => { y with jogsRetimed := addNew y.jogsRetimed (t + 1) })

/-- R126, R128: replace the tile in column `f` of a row: every position from the spare column back to it moves
one column, and the failed tile leaves service. (DEDUCED, log entry 104) -/
def Device.replaceTile (s : Device) (c row f state : Nat) : Device :=
  let s := (List.range (16 - f)).foldl (fun s i => s.moveRight c (17 * row + 15 - i)) s
  let b := 272 * c + 17 * row + f
  let s := (((s.fset F.tileIdLx b 0 0).fset F.tileIdLy b 0 0).fset F.tileIdState b 0 state).setTile c (17 * row + f)
    { outputsIdle := true }
  (s.fset F.cmpSpareFailCol c row f).useSpare 0

/-- The accession of a row's spare (R128) in held periods; carry banks that cannot be read lose committed
state (R106). -/
def Device.accedeTile (s : Device) (c row : Nat) (carryOk : Bool) : Device :=
  match (List.range 17).find? (fun f => s.fr.work.contains (workTile c (17 * row + f))) with
  | none => s
  | some f =>
    if !carryOk then (s.endWork (workTile c (17 * row + f))).withdraw wCarryLost
    else
      ((s.replaceTile c row f tsDeacc).endWork (workTile c (17 * row + f))).note
        { kind := kCmp, index := c, prio := 2, cls := 3, cause := 4, unit := row }

def execTileFailure (c t : Nat) (s : State) : Host.Outcome State Fault Refusal :=
  onUnits (tileOk c t) (fun s => s.failTile c t) s

/-- TILE_ACCESSION (R128): in a held period of a running job, or with none running; by an active Curator core (R434). -/
def execTileAccession (c row : Nat) (carryOk : Bool) (s : State) : Host.Outcome State Fault Refusal :=
  onUnits (stackOk c && decide (row < 16)) (fun s =>
    if (s.running && !s.fr.held) || s.coreless then s else s.accedeTile c row carryOk) s

end Sys2Proof.Machine
end

