-- ==== Sys2Proof/Machine/Remote.lean ====
section
/-! DEFINITION. The requester's side of remote memory (R99–R103, R317–R324, R329, R342): the tile's tracker and
read cache, the requests and the packets they become, responses, retries and abandonment, and the
instructions SLD, SST and SATM. -/

namespace Sys2Proof.Machine

/-! ## The tracker -/

/-- Enter a request into the tracker. -/
def Device.addReq (s : Device) (r : Req) : Device :=
  { s with reqs := s.reqs ++ [{ r with id := s.nextId }], nextId := s.nextId + 1 }

/-- Change one request. -/
def Device.modReq (s : Device) (id : Nat) (f : Req → Req) : Device :=
  { s with reqs := s.reqs.map (fun r => if r.id = id then f r else r) }

/-- A request leaves the tracker; a late response to it is told apart while `gone` lists it (R324). -/
def Device.dropReq (s : Device) (r : Req) : Device :=
  { s with reqs := s.reqs.filter (fun q => q.id != r.id), gone := s.gone ++ [r] }

/-- R329: a thread's request waits for an earlier one of the same thread in the same 256-byte granule. -/
def Device.granuleFree (s : Device) (r : Req) : Bool :=
  decide (8 ≤ r.n) ||
    !(s.reqs.any (fun q => q.c == r.c && q.t == r.t && q.n == r.n && decide (q.id < r.id) &&
      decide (q.gaddr / 256 = r.gaddr / 256)))

/-- A C-space offset of FRM_LEN_PEND (R187): a write there is permitted in the settle interval (R164). -/
def isLenPend (a : Nat) : Bool := gSpace a == 3 && decide (0x28000 ≤ gOff a ∧ gOff a < 0x2C000)

/-- Outward requests, which wait for the confirm point (R164). -/
def Req.outward (r : Req) : Bool :=
  (r.kind == .sst || r.kind == .m2st || r.kind == .put || r.kind == .atomic) && !isLenPend r.gaddr

/-! ## The read cache (R342) -/

/-- The line keys of `n` bytes at a global address. -/
def gLines (a n : Nat) : List Nat := (List.range ((a % 64 + n + 63) / 64)).map (fun i => a / 64 + i)

/-- A cached line. -/
def Tile.cached (x : Tile) (l : Nat) : Option Line := (x.rcache.find? (fun e => e.1 == l)).map Prod.snd

/-- A line becomes the most recently used; a full cache of 128 lines drops the least recent. -/
def Tile.cacheLine (x : Tile) (l : Nat) (d : Line) : Tile :=
  let rest := x.rcache.filter (fun e => e.1 != l)
  { x with rcache := (if 128 ≤ rest.length then rest.drop 1 else rest) ++ [(l, d)] }

/-- The bytes of an SLD served from the cache: all its lines are there. -/
def Tile.cacheHit (x : Tile) (a n : Nat) : Option (List Byte) :=
  if gSpace a = 3 ∨ (gLines a n).any (fun l => (x.cached l).isNone) then none
  else
    some ((((gLines a n).map (fun l => bytesOfLine ((x.cached l).getD 0))).flatten.drop (a % 64)).take n)

/-- A hit refreshes its lines. -/
def Tile.touchCache (x : Tile) (a n : Nat) : Tile :=
  (gLines a n).foldl (fun x l => x.cacheLine l ((x.cached l).getD 0)) x

/-- An SLD fills the cache with every whole line it reads; C-space reads do not. -/
def Tile.fillCache (x : Tile) (a : Nat) (bs : List Byte) : Tile :=
  if gSpace a = 3 then x
  else
    (gLines a bs.length).foldl (fun x l =>
      if a ≤ 64 * l ∧ 64 * l + 64 ≤ a + bs.length then
        x.cacheLine l (lineOfBytes ((bs.drop (64 * l - a)).take 64))
      else x) x

/-- An SST of the tile's own threads updates any cached copy of the bytes it writes. -/
def Tile.patchCache (x : Tile) (a : Nat) (bs : List Byte) : Tile :=
  { x with rcache := x.rcache.map (fun (l, d) =>
      (l, lineOfBytes ((List.range 64).map (fun i =>
        if a ≤ 64 * l + i ∧ 64 * l + i < a + bs.length then bs.getD (64 * l + i - a) 0
        else (bytesOfLine d).getD i 0)))) }

/-- Bytes at an address after a store of other bytes at another. -/
def patchBytes (a : Nat) (bs : List Byte) (p : Nat × List Byte) : List Byte :=
  (List.range bs.length).map (fun i => if p.1 ≤ a + i ∧ a + i < p.1 + p.2.length then p.2.getD (a + i - p.1) 0 else bs.getD i 0)

/-- A load's lines enter the cache with what the tile's own SSTs have stored since (R328, R342). -/
def Tile.fillFrom (x : Tile) (r : Req) (data : List Byte) : Tile :=
  x.fillCache r.gaddr (r.patches.foldl (patchBytes r.gaddr) (data.take r.len))

/-- An outstanding load of a tile, with what an SST of that tile has stored (R342). -/
def Req.patched (c t a : Nat) (bs : List Byte) (q : Req) : Req :=
  if q.c = c ∧ q.t = t ∧ (q.kind = .sld ∨ q.kind = .m2ld) then { q with patches := q.patches ++ [(a, bs)] } else q

/-- An SST of a tile: its cached copies, and those that its outstanding loads will bring, take the bytes (R342). -/
def Device.ownStore (s : Device) (c t a : Nat) (bs : List Byte) : Device :=
  { s.modTile c t (fun x => x.patchCache a bs) with
    reqs := s.reqs.map (Req.patched c t a bs) }

/-! ## Instructions -/

/-- SIZE of SLD and SST: bits [10:3] of FN are zero (R94), SIZE 0–5 in native mode, 0 in M2 mode. -/
def sizeOk (m2 : Bool) (fn : BitVec 11) : Bool := if m2 then fn == 0 else decide (fn.toNat < 6)

/-- Length of a native SLD or SST (R99). -/
def sizeBytes (fn : BitVec 11) : Nat := 8 * 2 ^ fn.toNat

/-- SLD in M2 mode (R100): 8 bytes to G[D]; the thread waits, unless the read cache has the line. -/
def sldM2 (w : Who) (d a : Nat) (s : Device) : Issued :=
  let ga := (s.reg w a).toNat
  let x := s.tile w.c w.t
  if ga % 8 ≠ 0 then .fault fAlign
  else
    match x.cacheHit ga 8 with
    | some bs =>
      .done ((s.modTile w.c w.t (fun x => x.touchCache ga 8)).setReg w d (BitVec.ofNat 64 (leNat bs)))
    | none =>
      .done ((s.addReq { kind := .m2ld, c := w.c, t := w.t, n := w.n, pc := s.pcNow w, gaddr := ga, len := 8, d := d }).modThread
        w.c w.t w.n (fun th => { th with st := .waitMem, wait := .load }))

/-- SLD in native mode (R99): to tile SRAM at G[B], then TC[D] is incremented. The local bytes must be
writable (R85); the carry-out window is tested again when the data arrives (R164). -/
def sldNative (w : Who) (d a b : Nat) (fn : BitVec 11) (s : Device) : Issued :=
  let ga := (s.reg w a).toNat
  let la := (s.reg w b).toNat
  let n := sizeBytes fn
  let m := s.sramMap w.c w.t
  let x := s.tile w.c w.t
  if ga % n ≠ 0 ∨ la % 8 ≠ 0 then .fault fAlign
  else if !({ m with outWrite := true } : SramMap).writeOk la n then .fault fRange
  else
    match x.cacheHit ga n with
    | some bs =>
      if m.writeOk la n then
        .done ((s.modTile w.c w.t (fun x => ((x.touchCache ga n).store m la bs).incTc d)).count w.c w.t evSramWr 0 (linesOf la n).length)
      else .fault fRange
    | none =>
      .done (s.addReq { kind := .sld, c := w.c, t := w.t, n := w.n, pc := s.pcNow w, gaddr := ga, len := n, loc := la, d := d })

/-- SLD: the tracker's 64 entries bound the requests of a tile (R99). A full resource holds the thread before the instruction's
address and descriptor checks are made, and after its field checks. (DESIGN CHOICE, log entry 118) -/
def execSld (w : Who) (d a b : Nat) (fn : BitVec 11) (s : State) : Host.Outcome State Fault Refusal :=
  docent (.sld w d a b fn) w [d, a, b] (fun s =>
    let m2 := (s.thread w.c w.t w.n).m2
    legalIf (sizeOk m2 fn && (if m2 then b == 0 else decide (d < 16)))
      (if s.trackerFull w.c w.t then .waits .tracker
       else if m2 then sldM2 w d a s else sldNative w d a b fn s)) s

/-- SST in M2 mode (R100): G[B] to G[A], not blocking; at most 16 unacknowledged. -/
def sstM2 (w : Who) (a b : Nat) (s : Device) : Issued :=
  let ga := (s.reg w a).toNat
  let bs := leBytes 8 (s.reg w b).toNat
  if s.unitFull w.c w.t w.n .stores then .waits .stores
  else if ga % 8 ≠ 0 then .fault fAlign
  else
    .done (((s.addReq { kind := .m2st, c := w.c, t := w.t, n := w.n, pc := s.pcNow w, gaddr := ga, len := 8,
                         pkt := { blankPkt with payload := bs } }).ownStore w.c w.t ga bs).modThread
      w.c w.t w.n (fun th => { th with stores := th.stores + 1 }))

/-- SST in native mode (R99): from tile SRAM at G[B]; TC[D] is incremented when it completes. -/
def sstNative (w : Who) (d a b : Nat) (fn : BitVec 11) (s : Device) : Issued :=
  let ga := (s.reg w a).toNat
  let la := (s.reg w b).toNat
  let n := sizeBytes fn
  let pc := s.pcNow w
  if ga % n ≠ 0 ∨ la % 8 ≠ 0 then .fault fAlign
  else
    s.loadSram w la n (fun s bs =>
      .done ((s.addReq { kind := .sst, c := w.c, t := w.t, n := w.n, pc := pc, gaddr := ga, len := n, loc := la, d := d,
                          pkt := { blankPkt with payload := bs } }).ownStore w.c w.t ga bs))

def execSst (w : Who) (d a b : Nat) (fn : BitVec 11) (s : State) : Host.Outcome State Fault Refusal :=
  docent (.sst w d a b fn) w [d, a, b] (fun s =>
    let m2 := (s.thread w.c w.t w.n).m2
    legalIf (sizeOk m2 fn && (if m2 then d == 0 else decide (d < 16)))
      (if s.trackerFull w.c w.t then .waits .tracker
       else if m2 then sstM2 w a b s else sstNative w d a b fn s)) s

/-- Payload of an ATOMIC (R101, R336). -/
def atomicPayload (th : Thread) (op : Nat) (wide : Bool) (b : Nat) : List Byte :=
  if op = 3 then
    (if wide then leBytes 16 (th.pair b) ++ leBytes 16 (th.pair (b + 2))
     else leBytes 8 (th.gr b).toNat ++ leBytes 8 (th.gr (b + 1)).toNat)
  else if wide then leBytes 16 (th.pair b)
  else leBytes 8 (th.gr b).toNat ++ List.replicate 8 0

/-- Register fields of SATM (R101): even pairs for 16 bytes, room for the compare-swap operands. -/
def satmRegs (op : Nat) (wide : Bool) (d b : Nat) : Bool :=
  if wide then d % 2 == 0 && (if op = 3 then b % 4 == 0 else b % 2 == 0)
  else op != 3 || decide (b ≤ 30)

/-- SATM (R101): the thread waits for the prior value. `hi` is FN[10:4]: bit 0 selects 16 bytes, the rest is
zero; `sizes` says which sizes the operation takes. -/
def satm (i : Instr) (w : Who) (d a b : Nat) (hi : BitVec 7) (op : Nat) (narrow wideToo : Bool) (s : State) :
    Host.Outcome State Fault Refusal :=
  docent i w [d, a, b] (fun s =>
    let wide := hi == 1
    let th := s.thread w.c w.t w.n
    let ga := (th.gr a).toNat
    let n := if wide then 16 else 8
    legalIf ((hi == 0 && narrow || wide && wideToo) && satmRegs op wide d b)
      (if s.trackerFull w.c w.t then .waits .tracker
       else if ga % n ≠ 0 then .fault fAlign
       else
           .done ((s.addReq { kind := .atomic, c := w.c, t := w.t, n := w.n, pc := s.pcNow w, gaddr := ga, len := n, d := d,
                               op := op + (if wide then 16 else 0),
                               pkt := { blankPkt with payload := atomicPayload th op wide b } }).modThread
             w.c w.t w.n (fun th => { th with st := .waitMem, wait := .atom })))) s

def execFetchAddInt64 (w : Who) (d a b : Nat) (hi : BitVec 7) := satm (.fetchAddInt64 w d a b hi) w d a b hi 0 true false
def execFetchAddEwa96 (w : Who) (d a b : Nat) (hi : BitVec 7) := satm (.fetchAddEwa96 w d a b hi) w d a b hi 1 false true
def execSwap (w : Who) (d a b : Nat) (hi : BitVec 7) := satm (.swap w d a b hi) w d a b hi 2 true true
def execCompareSwap (w : Who) (d a b : Nat) (hi : BitVec 7) := satm (.compareSwap w d a b hi) w d a b hi 3 true true
def execAtomicMin (w : Who) (d a b : Nat) (hi : BitVec 7) := satm (.atomicMin w d a b hi) w d a b hi 4 true true
def execAtomicMax (w : Who) (d a b : Nat) (hi : BitVec 7) := satm (.atomicMax w d a b hi) w d a b hi 5 true true
def execAtomicAnd (w : Who) (d a b : Nat) (hi : BitVec 7) := satm (.atomicAnd w d a b hi) w d a b hi 6 true true
def execAtomicOr (w : Who) (d a b : Nat) (hi : BitVec 7) := satm (.atomicOr w d a b hi) w d a b hi 7 true true
def execAtomicXor (w : Who) (d a b : Nat) (hi : BitVec 7) := satm (.atomicXor w d a b hi) w d a b hi 8 true true

/-! ## From the tracker to a packet -/

/-- The mailbox a C-space offset names, if it is MBX_DATA (R478). -/
def mailboxAt (off : Nat) : Option Nat :=
  if 0x30000 ≤ off ∧ off < 0x30200 ∧ off % 8 = 0 then some ((off - 0x30000) / 8) else none

/-- SENG of a tile's engine (R289). -/
def Device.sengOf (s : Device) (c t : Nat) : Nat := 8 * c + s.fget F.tileCtlEngine (272 * c + t)

/-- The packet of a request, without its SEQ (R287–R289, R332, R336). A store to a mailbox is an MBX_WRITE. -/
def Device.packetOf (s : Device) (r : Req) : Pkt :=
  let base : Pkt := { r.pkt with dst := gDev r.gaddr, src := s.self, seng := s.sengOf r.c r.t, addr := r.gaddr }
  let store : Pkt :=
    { base with typ := tWrite, len := ceilDiv r.len 16, arg := if r.len % 16 = 8 then 8 else 0,
                payload := base.payload ++ List.replicate (16 * ceilDiv r.len 16 - r.len) 0 }
  let load : Pkt := { base with typ := tRead, len := 0, arg := r.len / 8, payload := [] }
  match r.kind with
  | .sld => load
  | .m2ld => load
  | .get => load
  | .atomic => { base with typ := tAtomic, len := ceilDiv base.payload.length 16, arg := r.op }
  | _ =>
    if gSpace r.gaddr = 3 ∧ (mailboxAt (gOff r.gaddr)).isSome ∧ r.len = 8 then { store with typ := tMbxWrite, arg := 0 }
    else store

/-- Number of SEQ counters: per requester and DST value (R320). -/
def seqKey (seng dst : Nat) : Nat := 1024 * seng + dst

/-- R320: stamp a packet with the next SEQ of its requester and DST value, and with the stamping epoch. -/
def Device.stamp (s : Device) (p : Pkt) : Pkt × Device :=
  let k := seqKey p.seng p.dst
  let n := s.fab.seqs.get 0 k
  let seq := if p.seng ≤ 131 then s.fr.tick % 4096 * 2 ^ 20 + n % 2 ^ 20 else n % 2 ^ 32
  (sealPkt { p with seq := seq, epoch := s.epoch },
   s.modFab (fun f => { f with seqs := f.seqs.set 0 k (n + 1) }))

/-- Modulus of the counter values of a requester (R320). -/
def seqMod (seng : Nat) : Nat := if seng ≤ 131 then 2 ^ 20 else 2 ^ 32

/-- R322: at most 512 requests outstanding per SENG, and none 512 ahead of the oldest toward its DST value. -/
def Device.seqRoom (s : Device) (seng dst : Nat) : Bool :=
  let out := s.reqs.filter (fun r => r.stage == .sent && r.pkt.seng == seng)
  let n := s.fab.seqs.get 0 (seqKey seng dst)
  decide (out.length < 512) &&
    out.all (fun r => r.pkt.dst != dst || decide ((n % seqMod seng + seqMod seng - r.pkt.seq % seqMod seng) % seqMod seng < 512))

/-- This partner of a mirror pair does not hold an effective lease, so its port dies complete outbound writes
themselves (R437, R440). -/
def Device.mute (s : Device) : Bool :=
  s.fr.job.isSome && s.job.mirrorPartner != 0xFFFF &&
    (s.fget F.frmMirrorRole == 2 || (s.fget F.frmMirrorRole == 1 && s.fget F.frmMirrorCount == 0))

/-- A packet leaves: inside the device toward its own memory, or through its router. -/
def Device.launch (s : Device) (p : Pkt) : Device :=
  if p.dst = s.self ∧ p.typ ≠ tMcast then s.emit (.request p) else s.transmit p

/-! ## Responses -/

/-- The reading thread of an M2 load or an atomic goes on. -/
def Device.resume (s : Device) (c t n : Nat) : Device := s.modThread c t n Thread.ready

/-- A request of a tile ends in a fault of the instruction behind it: its thread's, or the SGO that placed its descriptor (R104, R134). -/
def Device.failReq (s : Device) (r : Req) (code : Nat) : Device :=
  let d := ((s.tile r.c r.t).slots.find? (fun d => d.order == r.slot)).getD {}
  let who := if r.n < 8 then (r.n, r.pc) else (d.thread, d.pc)
  (s.dropReq r).faultAt r.c r.t who.1 who.2 code

/-- A granule of a remote descriptor is done (R121). -/
def Tile.granuleDone (x : Tile) (order : Nat) : Tile :=
  { x with slots := x.slots.map (fun d => if d.order = order then { d with left := d.left - 1 } else d) }

/-- Data of a load lands in tile SRAM; an unwritable place is a RANGE fault (R85, R164). -/
def Device.landLoad (s : Device) (r : Req) (data : List Byte) (after : Tile → Tile) : Device :=
  let m := s.sramMap r.c r.t
  if m.writeOk r.loc r.len then
    ((s.dropReq r).modTile r.c r.t (fun x => after (x.store m r.loc (data.take r.len)))).count r.c r.t evSramWr 0
      (linesOf r.loc r.len).length
  else s.failReq r fRange

/-- Data of a REMOTE_GET lands line by line at the places of its descriptor (R119, R121); `loc` is the number of
the request's first line. -/
def Device.landGet (s : Device) (r : Req) (data : List Byte) : Device :=
  match (s.tile r.c r.t).slots.find? (fun d => d.order == r.slot) with
  | none => s.dropReq r
  | some d =>
    let m := s.sramMap r.c r.t
    let lines := (List.range (r.len / 64)).map (fun i =>
      ((sdPlace d.w0 d.w1 d.w2 (r.loc + i)).toNat, (data.drop (64 * i)).take 64))
    if lines.all (fun l => m.writeOk l.1 64) then
      ((s.dropReq r).modTile r.c r.t (fun x =>
        (lines.foldl (fun x l => x.streamStore m (s.cycles r.c) l.1 l.2) x).granuleDone r.slot)).count r.c r.t evSramWr 0 lines.length
    else s.failReq r fRange

/-- The result of an atomic (R101): D = 0 discards it; 16 bytes go to a pair. -/
def Thread.atomResult (th : Thread) (r : Req) (data : List Byte) : Thread :=
  let lo := BitVec.ofNat 64 (leNat (data.take 8))
  let hi := BitVec.ofNat 64 (leNat ((data.drop 8).take 8))
  if r.d = 0 then th else if r.len = 16 then (th.setG r.d lo).setG (r.d + 1) hi else th.setG r.d lo

/-- A response with status OK completes its request at the tile. -/
def Device.finishReq (s : Device) (r : Req) (data : List Byte) : Device :=
  match r.kind with
  | .sld => s.landLoad r data (fun x => (x.fillFrom r data).incTc r.d)
  | .get => s.landGet r data
  | .put => (s.dropReq r).modTile r.c r.t (fun x => x.granuleDone r.slot)
  | .sst => (s.dropReq r).modTile r.c r.t (fun x => x.incTc r.d)
  | .m2st => (s.dropReq r).modThread r.c r.t r.n (fun th => { th with stores := th.stores - 1 })
  | .m2ld =>
    (((s.dropReq r).modTile r.c r.t (fun x => x.fillFrom r data)).modThread r.c r.t r.n
      (fun th => th.setG r.d (BitVec.ofNat 64 (leNat (data.take 8))))).resume r.c r.t r.n
  | .atomic => ((s.dropReq r).modThread r.c r.t r.n (fun th => th.atomResult r data)).resume r.c r.t r.n
  | _ => s.dropReq r

/-- A response completes a tile's request: then FENCEs and the end of work are judged again (R161, R330). -/
def Device.completeTileReq (s : Device) (r : Req) (status : Nat) (data : List Byte) : Device :=
  ((if status = stOk then s.finishReq r data else s.failReq r fRemote).wakeFences r.c r.t).noteEow

/-- A flit arrives at a stage through port d (R112, R113, R117). -/
def Device.flitEnters (s : Device) (c t d : Nat) (f : Flit) : Device :=
  (s.modTile c t (fun z => { z with fifo := z.fifo.upd [] d (· ++ [{ f with set := s.phase, gone := 0 }]) })).count c t evLinkIn d 1

/-- A response enters the mesh as a flit on RSP_TAG, at the edge tile through which its request left, when that tile's input grants a
credit (R103, R112). The spec names no edge tile for it. (DESIGN CHOICE, log entry 118) -/
def Device.sendAnswer (s : Device) (r : Req) : Device :=
  let d := s.fget F.tileCtlEngine (272 * r.c + r.t) / 2
  if ((s.tile r.c r.edge).fifo.get [] d).length < 32 then
    (s.modReq r.id (fun q => { q with stage := .returning })).flitEnters r.c r.edge d
      { tag := s.fget F.tileCtlRspTag (272 * r.c + r.t), ctl := some r.id }
  else s

/-- The responses that wait at an engine go to the mesh, in order. -/
def Device.sendAnswers (s : Device) (c e : Nat) : Device :=
  (s.reqs.filter (fun r => r.stage == .answered && r.c == c && s.fget F.tileCtlEngine (272 * r.c + r.t) == e)).foldl
    (fun s r => s.sendAnswer r) s

/-- The response to a tile's request has reached its engine (R102, R103). -/
def Device.answerReq (s : Device) (r : Req) (status : Nat) (data : List Byte) : Device :=
  (s.modReq r.id (fun q => { q with stage := .answered, status := status, answer := data })).sendAnswers r.c
    (s.fget F.tileCtlEngine (272 * r.c + r.t))

/-- R323: a response matches a request by SRC, SENG, SEQ and XFER. A request that names a mirror pair by
MCAST_WRITE has DST value 32 × MGRP, and a response from any device of its block matches it. (DEDUCED, log entry 48) -/
def matchesReq (p : Pkt) (r : Req) : Bool :=
  r.pkt.seng == p.seng && r.pkt.seq == p.seq && r.pkt.xfer == p.xfer &&
    (if r.pkt.typ = tMcast then p.src / 32 == r.pkt.mgrp else r.pkt.dst == p.src)

/-- The LEN of a response fits its request and status (R288, R291). -/
def respLenOk (p : Pkt) (r : Req) : Bool :=
  if p.typ = tReadResp then p.len == (if p.arg = stOk then ceilDiv r.len 16 else 0)
  else if p.typ = tAtomicResp then p.len == (if p.arg = stOk then 1 else 0)
  else true

/-- R324: a response to a request that has completed, been abandoned or been discarded is late. -/
def Device.countLate (s : Device) (r : Req) : Device :=
  if r.kind == .reg || r.kind == .hostReq || r.kind == .sched then s
  else (s.fsat F.tileRemoteLate (272 * r.c + r.t) 0 1).count r.c r.t evRemoteLate 0 1

end Sys2Proof.Machine
end

