-- ==== Sys2Proof/Machine/Stream.lean ====
section
/-! DEFINITION. Stream descriptors (R119–R124): the eight kinds that SGO places, what injecting and receiving one
flit does to them, and their completion. -/

namespace Sys2Proof.Machine

/-! ## SGO -/

/-- The kind in the descriptor an SGO names, where it can be read. -/
def Device.sgoKind (s : Device) (w : Who) (a : Nat) (imm : BitVec 16) : Option Nat :=
  let ad := (s.thread w.c w.t w.n).addrB a imm
  let r := (s.tile w.c w.t).read (s.sramMap w.c w.t) w.upset ad 32
  if ad % 32 ≠ 0 ∨ r.fault ≠ 0 then none else some (sdKind (descWords r.data).1)

/-- Granules that `n` bytes at a global address touch (R102). -/
def granules (a n : Nat) : Nat := (a % 256 + n + 255) / 256

/-- The checks of R119 and R120 on a descriptor. -/
def Device.sdOk (s : Device) (w : Who) (w0 w1 w2 w3 : Word) : Bool :=
  decide (sdKind w0 < 8) && sdZeros w0 w1 w2 w3 && sdRanges w0 w1 w2 &&
    (match s.logicalOf w.c w.t with
     | some (x, y) => sdTouches (s.sramMap w.c w.t) x y w0 w1 w2
     | none => false)

/-- The slot a good descriptor takes. -/
def newSlot (w : Who) (pc serial : Nat) (w0 w1 w2 w3 : Word) : Slot :=
  { w0 := w0, w1 := w1, w2 := w2, w3 := w3, thread := w.n, order := serial, pc := pc
    left := if isRemoteKind (sdKind w0) then granules w2.toNat (64 * sdLines w0) else 0 }

/-- SGO (R95, R119–R121): a full set of 16 slots holds the thread; the remote kinds are MODE faults in M2 mode
(R100). -/
def sgoBody (w : Who) (d a : Nat) (imm : BitVec 16) (s : Device) : Issued :=
  legalIf (d == 0)
    (if s.unitFull w.c w.t w.n .slots then .waits .slots
     else
      let ad := (s.thread w.c w.t w.n).addrB a imm
      let pc := s.pcNow w
      if ad % 32 ≠ 0 then .fault fAlign
      else
        s.loadSram w ad 32 (fun s bs =>
          let (w0, w1, w2, w3) := descWords bs
          if !s.sdOk w w0 w1 w2 w3 then .fault fDescriptor
          else if isRemoteKind (sdKind w0) && (s.thread w.c w.t w.n).m2 then .fault fMode
          else
            .done (s.modTile w.c w.t (fun x => { x with
              slots := x.slots ++ [newSlot w pc x.serial w0 w1 w2 w3], serial := x.serial + 1 }))))

/-- An SGO whose descriptor is of kind k. One whose descriptor is of another of the eight kinds is another
command, and does nothing here. -/
def sgo (i : Instr) (w : Who) (d a : Nat) (imm : BitVec 16) (k : Nat) (s : State) : Host.Outcome State Fault Refusal :=
  onUnits (w.ok && [d, a].all (fun r => decide (r < 32))) (fun s =>
    if (s.sgoKind w a imm).any (fun x => decide (x < 8) && x != k) then s
    else s.issue w i (sgoBody w d a imm)) s

def execSend (w : Who) (d a : Nat) (imm : BitVec 16) := sgo (.send w d a imm) w d a imm kSend
def execReceive (w : Who) (d a : Nat) (imm : BitVec 16) := sgo (.receive w d a imm) w d a imm kReceive
def execSendEwa (w : Who) (d a : Nat) (imm : BitVec 16) := sgo (.sendEwa w d a imm) w d a imm kSendEwa
def execReceiveEwaAdd (w : Who) (d a : Nat) (imm : BitVec 16) := sgo (.receiveEwaAdd w d a imm) w d a imm kReceiveEwa
def execLbRead (w : Who) (d a : Nat) (imm : BitVec 16) := sgo (.lbRead w d a imm) w d a imm kLbRead
def execLbWrite (w : Who) (d a : Nat) (imm : BitVec 16) := sgo (.lbWrite w d a imm) w d a imm kLbWrite
def execRemoteGet (w : Who) (d a : Nat) (imm : BitVec 16) := sgo (.remoteGet w d a imm) w d a imm kGet
def execRemotePut (w : Who) (d a : Nat) (imm : BitVec 16) := sgo (.remotePut w d a imm) w d a imm kPut

/-! ## The slots at work -/

/-- R122: a descriptor on matrix registers waits for the matrix operations queued before its SGO. -/
def Tile.slotBlocked (x : Tile) (d : Slot) : Bool :=
  isEwaKind (sdKind d.w0) && !sdVe d.w0 && x.queue.any (fun o => decide (o.order < d.order))

/-- All lines of a descriptor have moved. -/
def Slot.allMoved (d : Slot) : Bool := d.moved == sdLines d.w0

/-- The descriptor's next flit can go to the injection port (R121, R122). -/
def Tile.mayInject (x : Tile) (d : Slot) : Bool :=
  isSending (sdKind d.w0) && !d.allMoved && !x.slotBlocked d &&
    !(x.slots.any (fun e => decide (e.order < d.order) && sdTag e.w0 == sdTag d.w0 && isSending (sdKind e.w0)))

/-- The descriptor whose turn it is at the injection port: round-robin in SGO order after the one that injected last (R121). -/
def Tile.nextSender (x : Tile) : Option Slot :=
  let l := x.slots.filter x.mayInject
  (l.find? (fun d => x.injected.any (fun o => decide (o < d.order)))).orElse (fun _ => l.head?)

/-- R121: of the sending descriptors of one tag, and of the receiving ones, the first placed goes first. -/
def Tile.firstOfTag (x : Tile) (d : Slot) : Bool :=
  !(x.slots.any (fun e => decide (e.order < d.order) && sdTag e.w0 == sdTag d.w0 &&
      ((isSending (sdKind e.w0) && isSending (sdKind d.w0)) ||
        (isReceiving (sdKind e.w0) && isReceiving (sdKind d.w0)))))

/-- The descriptor that injects moves one line, and the turn passes on (R121). -/
def Tile.movedFlit (x : Tile) (order : Nat) : Tile :=
  { x with slots := x.slots.map (fun d => if d.order = order then { d with moved := d.moved + 1 } else d), injected := some order }

/-- Note that a descriptor has moved `n` lines more. -/
def Tile.movedLines (x : Tile) (order n : Nat) : Tile :=
  { x with slots := x.slots.map (fun d => if d.order = order then { d with moved := d.moved + n } else d) }

/-- The four registers of an EWA line as 64 bytes (R112). -/
def ewaLine (regs : NMap Ewa) (r : Nat) : Line :=
  lineOfBytes (((List.range 4).map (fun m => leBytes 16 (regs.get {} (r + m)).toNat)).flatten)

/-- Add an EWA line into four registers (R62, R112). -/
def addEwaLine (regs : NMap Ewa) (r : Nat) (l : Line) : NMap Ewa :=
  (List.range 4).foldl (fun g m => g.upd {} (r + m) (fun e => e.add (Ewa.ofNat (bits l.toNat (128 * m) 128)))) regs

/-- Put a flit into a tile's injection FIFO (R112, R113, R117). -/
def Device.inject (s : Device) (c t : Nat) (f : Flit) : Device :=
  s.modTile c t (fun x => { x with fifo := x.fifo.upd [] 4 (· ++ [{ f with set := s.phase }]) })

/-- A fault of a descriptor: its thread faults (R104); a bad line is noted (R106). (DEDUCED, log entry 106) -/
def Device.slotFault (s : Device) (c t : Nat) (d : Slot) (code line : Nat) (tst : Bool := false) : Device :=
  (if code = fParity then s.markBadLine c t line else s).faultAt c t d.thread d.pc code (code == fParity && tst)

/-- The line at an address is read as stored, and an armed parity flip of the tile hits it (R506). (DEDUCED, log entry 93) -/
def Device.flipHits (s : Device) (c t a : Nat) : Bool :=
  s.flipArmed ptSram c t && (s.tile c t).holds (s.sramMap c t) (64 * (a / 64))

/-- A sending descriptor injects its next flit (R120, R121). -/
def Device.injectFrom (s : Device) (c t : Nat) (d : Slot) (upset : Option Nat) : Device :=
  let x := s.tile c t
  let tag := sdTag d.w0
  let at_ := (sdPlace d.w0 d.w1 d.w2 d.moved).toNat
  if sdKind d.w0 = kSend then
    let m := s.sramMap c t
    let hit := s.flipHits c t at_
    let r := x.read m (if hit then some (64 * (at_ / 64)) else upset) at_ 64
    let s := if hit then s.flipFires else s
    if r.fault ≠ 0 then s.slotFault c t d r.fault r.line hit
    else
      let l := lineOfBytes r.data
      let s := (s.count c t evSramRd 0 1).count c t evUnwritten 0 (x.unwrittenLines m at_ 64)
      (s.modTile c t (fun x => x.movedFlit d.order)).inject c t { tag := tag, data := l, parity := parityOf l }
  else if sdKind d.w0 = kSendEwa then
    let l := ewaLine (if sdVe d.w0 then x.ve else x.mregs) at_
    (s.modTile c t (fun x => x.movedFlit d.order)).inject c t
      { tag := tag, ewa := true, data := l, parity := parityOf l }
  else if s.lbBusy c (sdEdge d.w2) at_ then s.count c t evLbConflict 0 1
  else
    let k := lbKey (sdEdge d.w2) at_
    let g := (s.die c).lbRead k
    let s := (s.count c t evLbMerged 0 (b2n (s.lbShared c (sdEdge d.w2) at_))).lbTake c (sdEdge d.w2) at_ false
    let hit := s.flipArmed ptLb c t
    let s := (if hit then s.flipFires else s).count c t evUnwritten 0 (b2n (!(s.die c).lbWritten.contains k))
    (s.modTile c t (fun x => x.movedFlit d.order)).inject c t
      { tag := tag, data := g.1, parity := if hit then g.2 ^^^ 1 else g.2, tst := hit }

/-- The bytes a remote descriptor's next request covers, to the end of its granule (R102). -/
def Slot.nextAddr (d : Slot) : Nat := d.w2.toNat + 64 * d.moved
def Slot.nextLines (d : Slot) : Nat := min ((256 - d.nextAddr % 256) / 64) (sdLines d.w0 - d.moved)

/-- The control flit of a request goes to the stage (R103); the request is sent (R139). -/
def Device.injectReq (s : Device) (c t id : Nat) : Device :=
  ((s.modReq id (fun r => { r with stage := .mesh })).inject c t
    { tag := s.fget F.tileCtlReqTag (272 * c + t), ctl := some id }).count c t evRemoteReq 0 1

/-- A remote descriptor makes the request of its next granule (R102, R120, R332). -/
def Device.requestFrom (s : Device) (c t : Nat) (d : Slot) (upset : Option Nat) : Device :=
  let x := s.tile c t
  let n := d.nextLines
  let base : Req :=
    { c := c, t := t, n := 8, slot := d.order, gaddr := d.nextAddr, len := 64 * n, loc := d.moved }
  let go (s : Device) (r : Req) : Device :=
    ((s.addReq r).modTile c t (fun x => x.movedLines d.order n)).injectReq c t s.nextId
  if sdKind d.w0 = kGet then go s { base with kind := .get }
  else
    let m := s.sramMap c t
    let a0 := (sdPlace d.w0 d.w1 d.w2 d.moved).toNat
    let hit := s.flipHits c t a0
    let upset := if hit then some (64 * (a0 / 64)) else upset
    let s := if hit then s.flipFires else s
    let rs := (List.range n).map (fun i => x.read m upset (sdPlace d.w0 d.w1 d.w2 (d.moved + i)).toNat 64)
    match rs.find? (fun r => r.fault != 0) with
    | some r => s.slotFault c t d r.fault r.line hit
    | none =>
      let en := fld d.w3 14 1 == 1
      let blank := ((List.range n).map (fun i => x.unwrittenLines m (sdPlace d.w0 d.w1 d.w2 (d.moved + i)).toNat 64)).sum
      go ((s.count c t evSramRd 0 n).count c t evUnwritten 0 blank)
        { base with
          kind := .put
          pkt := { blankPkt with
            payload := (rs.map SramRead.data).flatten
            last := decide (d.moved + n = sdLines d.w0)
            count := if en then granules d.w2.toNat (64 * sdLines d.w0) else 1
            cc := fld d.w3 0 14, ccEn := en } }

/-- The oldest request of a tile's tracker that may be sent (R329). -/
def Device.nextTracked (s : Device) (c t : Nat) : Option Req :=
  (s.tileReqs c t).find? (fun r => r.stage == .tracker && s.granuleFree r)

/-- A stage's injection FIFO grants a credit (R112). -/
def Tile.injectRoom (x : Tile) : Bool := !x.outputsIdle && decide ((x.fifo.get [] 4).length < 32)

/-- FLIT_INJECT: of slot 0–15 in SGO order the next flit of a sending descriptor or the next request of a remote
one; with slot 16 the next request of the tile's threads. Without a credit, or where another goes first,
nothing is injected. -/
def Device.flitInject (s : Device) (c t slot : Nat) (upset : Option Nat) : Device :=
  let x := s.tile c t
  if !x.injectRoom then s
  else if slot = 16 then
    match s.nextTracked c t with
    | some r => s.injectReq c t r.id
    | none => s
  else
    match x.slots[slot]? with
    | none => s
    | some d =>
      if d.allMoved || x.slotBlocked d then s
      else if isRemoteKind (sdKind d.w0) then
        if s.trackerFull c t then s else s.requestFrom c t d upset
      else if x.nextSender == some d then s.injectFrom c t d upset
      else s

def execFlitInject (c t slot : Nat) (upset : Option Nat) (s : State) : Host.Outcome State Fault Refusal :=
  onUnits (tileOk c t && decide (slot ≤ 16)) (fun s => s.flitInject c t slot upset) s

/-- A descriptor's work is over (R121). -/
def Slot.over (d : Slot) : Bool := d.allMoved && (!isRemoteKind (sdKind d.w0) || d.left == 0)

/-- DESCRIPTOR_COMPLETE (R121): the slot is freed and its TC incremented; a FENCE and the end of work may be
reached (R330, R161). -/
def Device.descriptorComplete (s : Device) (c t slot : Nat) : Device :=
  match (s.tile c t).slots[slot]? with
  | none => s
  | some d =>
    if d.over then
      let s := s.modTile c t (fun x =>
        let y := { x with slots := dropAt x.slots slot }
        if sdTcEn d.w0 then y.incTc (sdTc d.w0) else y)
      (s.wakeFences c t).noteEow
    else s

def execDescriptorComplete (c t slot : Nat) (s : State) : Host.Outcome State Fault Refusal :=
  onUnits (tileOk c t && decide (slot < 16)) (fun s => s.descriptorComplete c t slot) s

/-! ## Delivery (R115, R120, R121) -/

/-- The receiving descriptor that takes the flits of a tag: the first placed (R121). -/
def Tile.receiver (x : Tile) (tag : Nat) : Option Slot :=
  x.slots.find? (fun d => isReceiving (sdKind d.w0) && sdTag d.w0 == tag)

/-- A receiving descriptor can take this flit now: it has lines to come, its registers are free (R122), an adding
kind takes only EWA flits (R120), a window line finds room in its send queue (R202), and its bank is free in this cycle (R124). -/
def Device.canReceive (s : Device) (c t : Nat) (d : Slot) (f : Flit) : Bool :=
  !d.allMoved && !(s.tile c t).slotBlocked d && (sdKind d.w0 != kReceiveEwa || f.ewa) &&
    (sdKind d.w0 != kLbWrite || (s.lbRoom c (sdEdge d.w2) (sdPlace d.w0 d.w1 d.w2 d.moved).toNat &&
      !s.lbBusy c (sdEdge d.w2) (sdPlace d.w0 d.w1 d.w2 d.moved).toNat))

/-- A delivered flit is written or added. -/
def Device.receive (s : Device) (c t : Nat) (d : Slot) (f : Flit) : Device :=
  let at_ := (sdPlace d.w0 d.w1 d.w2 d.moved).toNat
  let s1 := s.modTile c t (fun x => x.movedLines d.order 1)
  if sdKind d.w0 = kReceive then
    let m := s.sramMap c t
    if m.writeOk at_ 64 then
      (s1.modTile c t (fun x => x.streamStore m (s.cycles c) at_ (bytesOfLine f.data))).count c t evSramWr 0 1
    else s.faultAt c t d.thread d.pc fRange
  else if sdKind d.w0 = kReceiveEwa then
    s1.modTile c t (fun x =>
      if sdVe d.w0 then { x with ve := addEwaLine x.ve at_ f.data }
      else { x with mregs := addEwaLine x.mregs at_ f.data })
  else (s1.lbTake c (sdEdge d.w2) at_ false).lbWrite c (sdEdge d.w2) at_ f.data f.parity

end Sys2Proof.Machine
end

