-- ==== Sys2Proof/Machine/Phases.lean ====
section
/-! DEFINITION. The demand pool and what a phase boundary does to the Plinth (R205–R210, R213, R219, R221, R222). -/

namespace Sys2Proof.Machine

/-! ## Units and demand (R208) -/

/-- The site of a destination unit: edges 4c + d, memory 64 + m, ports 84 + p. -/
def unitSite (u : Nat) : Nat := if u < 64 then u / 4 else if u < 84 then 16 + (u - 64) else 36 + (u - 84)

/-- A site has `n` cells more ready for a unit. -/
def Device.addDemand (s : Device) (t u n : Nat) : Device :=
  s.modPln (fun p => { p with demand := p.demand.upd 0 (88 * t + u) (· + n) })

/-- The destination unit of a tile's request: the memory site for a read of the device's own HBM4, else the port die
at home there (R318), or the one whose lane the packet will take (R294). -/
def Device.reqUnit (s : Device) (r : Req) : Nat :=
  let a := r.gaddr
  if gDev a = s.self then
    match s.locate a with
    | some (p, key) => if r.outward || 2 ^ 42 ≤ key then 84 + p else 64 + lineChan (key / 64) / 32
    | none => 84
  else 84 + ((s.pickLane (s.routeEntry s.epoch (gDev a)).lanes).getD 0) / 16

/-- Cells a request takes: one, and one for each line of data. -/
def Req.cells (r : Req) : Nat := max 1 (ceilDiv r.pkt.payload.length 64)

/-- The edge of the stream engine a tile's requests go to (R102). -/
def Device.reqEdge (s : Device) (r : Req) : Nat := s.fget F.tileCtlEngine (272 * r.c + r.t) / 2

/-- The unit of a stream engine: the landing-buffer edge it sits at. -/
def engineUnit (seng : Nat) : Nat := 4 * (seng / 8) + seng % 8 / 2

/-- Lines that an item carries, and its cells. -/
def Dyn.lines : Dyn → Nat
  | .request _ p => ceilDiv p.payload.length 64
  | .response p => ceilDiv p.payload.length 64
  | .onward p => ceilDiv p.payload.length 64
  | .homeward _ _ => 0
  | .drain _ _ _ => 1
  | .fetch _ _ => 0
  | .fetched _ _ => 1
def Dyn.cells (d : Dyn) : Nat := max 1 d.lines

/-- An inbound scheduled transfer on its way to memory, which a port-sourced ASSIGN carries (R201). -/
def Dyn.staged : Dyn → Bool
  | .drain _ _ st => st
  | _ => false

/-- A tile's request, which a tick discards (R88). -/
def Dyn.isRequest : Dyn → Bool
  | .request _ _ => true
  | _ => false

/-- A phase map has an ASSIGN from a port site to a memory unit (R201). -/
def Device.assignTo (s : Device) (t u : Nat) : Bool :=
  isPortSite t && s.mapNow.any (fun e => e.typ == tAssign && srcSite e.bus == t && e.dsts == [unitSite u])

/-- Cells that count as demand: not those that an ASSIGN carries (R208). -/
def Device.demandOf (s : Device) (t u : Nat) (d : Dyn) : Nat := if d.staged && s.assignTo t u then 0 else d.cells

/-- Traffic for a unit waits at a site for a channel (R210); it counts as demand (R208). -/
def Device.awaitGrant (s : Device) (t u : Nat) (d : Dyn) : Device :=
  (s.modPln (fun p => { p with waiting := p.waiting.upd [] (88 * t + u) (· ++ [d]) })).addDemand t u (s.demandOf t u d)

/-- Traffic goes from a site to a unit: within a site, and between port dies (R294), at once; across the Plinth it waits for a channel
while a phase map is in force. With none in force the spec gives it no channel, and it is not delayed. (DESIGN CHOICE, log entry 123) -/
def Device.cross (s : Device) (t u : Nat) (d : Dyn) (go : Device → Device) : Device :=
  if s.mapped && unitSite u != t && !(isPortSite t && isPortSite (unitSite u)) then s.awaitGrant t u d else go s

/-- Traffic between a port die and the controller of an HBM4 line; a DIMM is the port die's own. -/
def Device.toController (s : Device) (h line : Nat) (d : Dyn) (go : Device → Device) : Device :=
  if 2 ^ 36 ≤ line then go s else s.cross (36 + h) (64 + lineChan line / 32) d go
def Device.fromController (s : Device) (h line : Nat) (d : Dyn) (go : Device → Device) : Device :=
  if 2 ^ 36 ≤ line then go s else s.cross (16 + lineChan line / 32) (84 + h) d go

/-- Demand that waits when a counting window opens (R208). -/
def Device.waitingDemand (s : Device) : Device :=
  let s := (s.reqs.filter (fun r => r.stage == .engine)).foldl (fun s r => s.addDemand r.c (s.reqUnit r) r.cells)
    (s.modPln (fun p => { p with demand := [] }))
  s.pln.waiting.foldl (fun s e => s.addDemand (e.1 / 88) (e.1 % 88) (e.2.map (s.demandOf (e.1 / 88) (e.1 % 88))).sum) s

/-! ## Pool grants (R209) -/

/-- The arbiter's run: grants so far by channel, this site's count by unit, receivers and rings taken. -/
structure Arb where
  grants : NMap Nat := []
  g : NMap Nat := []
  site : NMap Nat := []
  edge : NMap Nat := []
  rings : NMap Nat := []
  deriving DecidableEq, Repr

/-- Receivers of a unit that are free, and rings. -/
def Device.rxFree (s : Device) (m : List MapEnt) (a : Arb) (u : Nat) : Nat :=
  let t := unitSite u
  let site := s.rxLimit t - staticRx m t - a.site.get 0 t
  if u < 64 then min site (s.rxEdge t (u % 4) - staticRxEdge m t (u % 4) - a.edge.get 0 u) else site
def Device.ringFree (s : Device) (m : List MapEnt) (a : Arb) (t b : Nat) : Nat :=
  s.ringsIn t b - staticRings m t b - a.rings.get 0 (224 * t + b)

/-- The candidate with the largest d / (g + 1), compared exactly; the lowest unit of equals. -/
def Device.bestUnit (s : Device) (m : List MapEnt) (a : Arb) (t b : Nat) : Option Nat :=
  (List.range 88).foldl (fun o u =>
    let d := s.pln.demand.get 0 (88 * t + u)
    if unitSite u = t || d == 0 || s.rxFree m a u == 0 || s.ringFree m a (unitSite u) b == 0 then o
    else
      match o with
      | none => some u
      | some v => if s.pln.demand.get 0 (88 * t + v) * (a.g.get 0 u + 1) < d * (a.g.get 0 v + 1) then some u else o)
    none

/-- One pool channel of site t. -/
def Device.grantOne (s : Device) (m : List MapEnt) (t : Nat) (a : Arb) (k : Nat) : Arb :=
  match s.bestUnit m a t (k / 64) with
  | none => a
  | some u =>
    { grants := a.grants.set 0 k (u + 1), g := a.g.upd 0 u (· + 1), site := a.site.upd 0 (unitSite u) (· + 1),
      edge := if u < 64 then a.edge.upd 0 u (· + 1) else a.edge,
      rings := a.rings.upd 0 (224 * unitSite u + k / 64) (· + 1) }

/-- Pool channels of a site in a phase, in ascending bus, then channel index. -/
def poolChans (m : List MapEnt) (t : Nat) : List Nat :=
  let ks := (m.filter (fun e => e.typ == tPool && srcSite e.bus == t)).flatMap MapEnt.keys
  (List.range 224).flatMap (fun b => if srcSite b = t then (List.range 60).filterMap (fun k =>
    if ks.contains (chKey b k) then some (chKey b k) else none) else [])

/-- The phase that follows, and the frame in force there: a tick that a hold targets keeps the frame (R170).
(DEDUCED, log entry 112) -/
def Device.nextPhase (s : Device) : Nat := if s.phase + 1 < s.job.phases then s.phase + 1 else 0
def Device.nextFrame (s : Device) : Nat :=
  if s.nextPhase ≠ 0 then s.frame
  else if s.fr.missed || s.fr.holds.any (fun h => h.target == s.fr.tick + 1) then s.frame
  else s.frame + 1

/-- R209: the grants of the next phase. (DEDUCED, log entry 112) -/
def Device.poolGrant (s : Device) : Device :=
  let p := s.nextPhase
  let m := s.mapOf p
  let start := (s.nextFrame + p) % 40
  let a := (List.range 40).foldl (fun a i =>
    let t := (start + i) % 40
    (poolChans m t).foldl (fun a k => s.grantOne m t a k) { a with g := [] }) {}
  s.modPln (fun q => { q with nextGrants := a.grants })

/-- POOL_GRANT, in a running job. -/
def execPoolGrant (s : State) : Host.Outcome State Fault Refusal :=
  onDevice (fun s => if s.running then s.poolGrant else s) s

/-! ## Loss and its repair at a boundary -/

/-- Channels that terminate at a site on a bus in the current phase: static ones and grants. -/
def Device.chansInto (s : Device) (t b : Nat) : List Nat :=
  (List.range 60).filter (fun k =>
    s.mapNow.any (fun e => e.isStatic && e.names b k && e.dsts.contains t) ||
      (let u := s.pln.grants.get 0 (chKey b k); u != 0 && unitSite (u - 1) == t))

/-- The lines those channels are on. -/
def Device.linesInto (s : Device) (t b : Nat) : List Nat := (s.chansInto t b).map (s.lineOf b)

/-- Ring r of a site on a bus is not in use: in service, locked, and on no line the phase needs there. -/
def Device.ringIdle (s : Device) (t b r : Nat) : Bool :=
  let x := s.ring t b r
  decide (x.state ≤ rLocked) && !(s.linesInto t b).contains x.line

/-- A free ring. -/
def Device.freeRing (s : Device) (t b : Nat) : Option Nat := (List.range 8).find? (fun r => s.ringIdle t b r)

/-- A ring begins to acquire a line, from the preset of its band for it (R219). -/
def Device.acquire (s : Device) (t b r l : Nat) : Device :=
  (s.setRing t b r { state := rAcquiring, line := l }).modPln (fun p => { p with lock := p.lock.set 0 (lockKey t b r l) 0 })

/-- R219: the replacement of a lost ring, which acquires its line; with none free the λ-channel is lost (R226). -/
def Device.replaceRing (s : Device) (k : Nat) : Device :=
  let t := k / 8 / 224
  let b := k / 8 % 224
  match s.freeRing t b with
  | some r => (s.acquire t b r (s.ring t b (k % 8)).line).useSpare 2
  | none => s.recheck

/-- R220: rings of a site on a bus step to the lines the phase needs and no ring there has. -/
def Device.stepRings (s : Device) (t b : Nat) : Device :=
  (s.linesInto t b).foldl (fun s l =>
    if (List.range 8).any (fun r => (s.ring t b r).line == l && decide (1 ≤ (s.ring t b r).state ∧ (s.ring t b r).state ≤ 2)) then s
    else
      match s.freeRing t b with
      | some r => s.setRing t b r { s.ring t b r with state := rLocked, line := l }
      | none => s) s

/-- The pairs of site and bus that a phase uses. -/
def Device.pairsUsed (s : Device) : List (Nat × Nat) :=
  (s.mapNow.flatMap (fun e => if e.isStatic then e.dsts.map (fun t => (t, e.bus)) else [])) ++
    s.pln.grants.map (fun g => (unitSite (g.2 - 1), g.1 / 64))

/-- Every ring that receives a channel is locked to its line (R221). -/
def Device.relocked (s : Device) (k : Nat) : Bool :=
  let b := k / 64
  (List.range 40).all (fun t => !(s.chansInto t b).contains (k % 64) ||
    (List.range 8).any (fun r => (s.ring t b r).state == rLocked && (s.ring t b r).line == s.lineOf b (k % 64)))

/-- Every ring that receives a channel on a line retunes to another line (R220, R221). -/
def Device.retuneRings (s : Device) (b k old l : Nat) : Device :=
  (List.range 40).foldl (fun s t =>
    if (s.chansInto t b).contains k then
      (List.range 8).foldl (fun s r =>
        let x := s.ring t b r
        if x.line = old ∧ (x.state = rLocked ∨ x.state = rAcquiring) then s.setRing t b r { state := rLocked, line := l } else s) s
    else s) s

/-- R221: a dark channel that has not relocked moves to a standby line, or exchanges lines with the calibration line, and its rings
retune. The line it leaves, if healthy, returns to standby at its next pass. Where it leaves a dead line for the calibration line, a free line
that has not passed yet becomes the calibration line (R212). -/
def Device.moveLine (s : Device) (b k : Nat) : Device :=
  let old := s.lineOf b k
  match s.standbyLines b with
  | l :: _ =>
    let s := (s.setLine b k l).useSpare 1
    if s.lineDead b old then s else s.modPln (fun p => { p with unproven := addNew p.unproven (lineKey b old) })
  | [] =>
    if s.lineDead b (s.calLineOf b) then s
    else
      let l := s.calLineOf b
      let s := s.setLine b k l
      if !s.lineDead b old then s.setCal b old
      else
        match (s.freeLines b (s.chansOf b)).head? with
        | some l => s.setCal b l
        | none => s

def Device.moveChannel (s : Device) (b k : Nat) : Device :=
  let old := s.lineOf b k
  let s := s.moveLine b k
  s.retuneRings b k old (s.lineOf b k)

/-- Dark channels at the end of a phase, by the receivers they had in it: relocked ones rejoin, others move; what moved is dark for the
guard of the coming phase. -/
def Device.relight (s : Device) : Device :=
  let (s, l) := s.pln.dark.foldl (fun (s, l) k =>
    if s.relocked k && !s.lineDead (k / 64) (s.lineOf (k / 64) (k % 64)) then (s, l)
    else ((s.moveChannel (k / 64) (k % 64)).publishBus (k / 64), l ++ [k])) (s, [])
  s.modPln (fun p => { p with dark := [], moved := l })

/-! ## Calibration steps (R213) -/

/-- When a line last passed: those not listed, at start-up (R225). -/
def Device.lastPass (s : Device) (b l : Nat) : Nat :=
  if s.pln.passAt.any (fun e => e.1 == lineKey b l) then s.pln.passAt.get 0 (lineKey b l) else s.pln.passBase

/-- Of some lines the least recently calibrated. -/
def Device.oldestLine (s : Device) (b : Nat) (ls : List Nat) : Option Nat :=
  ls.foldl (fun o l =>
    match o with
    | none => some l
    | some m => if s.lastPass b l < s.lastPass b m then some l else o) none

/-- R213: channels that a step may use in the coming phase. -/
def Device.eligibleChans (s : Device) (m : List MapEnt) (moved : List Nat) (b : Nat) : List Nat :=
  (List.range (s.chansOf b)).filter (fun k =>
    moved.contains (chKey b k) ||
      !(m.any (fun e => e.isStatic && e.names b k) || s.pln.nextGrants.get 0 (chKey b k) != 0))

/-- One calibration step on a bus, if its conditions hold: the line least recently calibrated among the eligible channels' and the
standby lines exchanges with the calibration line. (DEDUCED, log entry 92) -/
def Device.calStep (s : Device) (m : List MapEnt) (moved : List Nat) (b : Nat) : Option Device :=
  let cal := s.calLineOf b
  if !s.pln.passed.contains (lineKey b cal) || s.lineDead b cal then none
  else
    let count (s : Device) : Device := (s.finc F.plnBusCalSteps (busQuad b) (busLocal b) 1).publishBus b
    match s.oldestLine b (((s.eligibleChans m moved b).map (s.lineOf b)).filter (fun l => !s.lineDead b l) ++
        s.freeLines b (s.chansOf b)) with
    | some l =>
      match s.chanOn b l with
      | some k => some (count ((s.setLine b k cal).setCal b l))
      | none => some (count (s.setCal b l))
    | none => none

/-- The buses of a site. -/
def busesOf (t : Nat) : List Nat := (List.range 224).filter (fun b => srcSite b == t)

/-- One step for each site, on the first of its buses that allows one. -/
def Device.calSteps (s : Device) (m : List MapEnt) (moved : List Nat) : Device :=
  if s.pln.passed.isEmpty then s
  else
    (List.range 40).foldl (fun s t =>
      ((busesOf t).findSome? (fun b => s.calStep m moved b)).getD s) s

/-! ## The boundary (R205, R206) -/

/-- Lines that entry i has delivered in this phase. -/
def Device.linesGot (s : Device) (i : Nat) : Nat := (s.pln.got.filter (fun x => x.1 == i)).length

/-- Whether entry i of the phase that ends has delivered all its lines (R205). A line for memory or a port counts as delivered when its
site has accepted it. (DEDUCED, log entry 112) -/
def Device.entryDone (s : Device) (i : Nat) (e : MapEnt) : Bool :=
  if e.typ = tFetch then decide (e.lines * e.dsts.length ≤ s.linesGot i)
  else if e.typ = tAssign ∧ e.bus < 128 then decide (s.windowLines s.phase i e ≤ s.linesGot i)
  else true

/-- Lines queued for entry i. -/
def Device.queuedFor (s : Device) (i : Nat) (e : MapEnt) : Nat :=
  if e.bus < 128 then
    (((s.die (srcSite e.bus)).sendQ.get [] (busEdge e.bus)).filter (fun q => q.entry == i)).length
  else 0

/-- A phase ends (R205, R221): windows and fetches that have not delivered all their lines stop; lines queued are discarded and counted,
and a FAULT names phase and entry; dark channels rejoin or move. -/
def Device.cutPhase (s : Device) : Device :=
  let s1 := (List.range s.mapNow.length).foldl (fun s' i =>
    match s.mapNow[i]? with
    | some e =>
      if s.entryDone i e then s'
      else
        let q := busQuad e.bus
        ((s'.fsat F.plnErrUncorr q 0 (s.queuedFor i e)).pmc pmcPln q (siteLocal (srcSite e.bus)) 0x07 (busIdx e.bus)
          (s.queuedFor i e)).note
          { kind := kPln, index := q, prio := 1, cls := 2, cause := 33, unit := s.phase, detail := i }
    | none => s') s
  let s1 := (List.range 16).foldl (fun s c =>
    if (s.die c).sendQ.isEmpty && (s.die c).sent.isEmpty then s
    else s.modDie c (fun y => { y with sendQ := [], sent := [] })) s1
  (s1.modPln (fun p => { p with fetched := [], got := [], rot := [] })).relight

/-- RX_STATIC and RX_POOL (R237). -/
def Device.publishUse (s : Device) : Device :=
  (List.range 40).foldl (fun s t =>
    let s := s.fset F.plnSiteRxStatic (siteQuad t) (siteLocal t) (staticRx s.mapNow t)
    s.fset F.plnSiteRxPool (siteQuad t) (siteLocal t) ((s.pln.grants.filter (fun g => unitSite (g.2 - 1) == t)).length)) s

/-- No phase map is in force any more: no pool grants, no moved channels, nothing in use (R237). -/
def Device.leavePhases (s : Device) : Device :=
  (s.modPln (fun p => { p with grants := [], nextGrants := [], moved := [], guard := false })).publishUse

/-- Key of the receiver of a channel at a site. -/
def rxKey (t b k : Nat) : Nat := 16384 * t + chKey b k

/-- The receivers of a channel that went dark or moved look for its block boundaries again (R195), and their run of wrong blocks begins
anew (R220); cells already started on it complete (R206). -/
def Device.loseSync (s : Device) (key : Nat) : Device :=
  let s := if (s.pln.flight.get [] key).isEmpty then s
    else s.modPln (fun p => { p with flight := p.flight.upd [] key (List.map (fun c => { c with started := true })) })
  (List.range 40).foldl (fun s t =>
    if (s.chansInto t (key / 64)).contains (key % 64) then
      s.modPln (fun p => { p with
        sync := p.sync.set 0 (rxKey t (key / 64) (key % 64)) syncBlocks, wrongRun := p.wrongRun.set 0 (rxKey t (key / 64) (key % 64)) 0 })
    else s) s

/-- Phase p begins, after what the one before it left has been cut (R144, R206, R210). -/
def Device.enterPhase (s : Device) (p : Nat) : Device :=
  let s := s.fset F.frmStatePhase 0 0 p
  let relit := s.pln.moved
  let m := s.mapNow
  let pool := (m.filter (fun e => e.typ == tPool)).flatMap (fun e =>
    e.keys.filter (fun k => s.pln.grants.get 0 k != s.pln.nextGrants.get 0 k))
  let moved := (if s.fr.idle then [] else movedIn s.job.maps s.job.phases p) ++ pool ++ relit
  let s := s.calSteps m moved
  let s := s.modPln (fun q => { q with
    moved := moved, guard := !moved.isEmpty, grants := if s.fr.idle then [] else q.nextGrants, nextGrants := [] })
  let s := s.pln.ringWait.foldl (fun s k => s.replaceRing k) (s.modPln (fun q => { q with ringWait := [] }))
  let s := s.pairsUsed.foldl (fun s e => s.stepRings e.1 e.2) s
  (moved.foldl Device.loseSync s).waitingDemand.publishUse

/-- A phase follows another in a frame. (DEDUCED, log entry 112) -/
def Device.beginPhase (s : Device) (p : Nat) : Device := s.cutPhase.enterPhase p

end Sys2Proof.Machine
end

