-- ==== Sys2Proof/Machine/Plinth.lean ====
section
/-! DEFINITION. The commands of the Plinth (R195–R227): cells, dark channels, fetches, window lines, calibration,
rings and lines, cartridge switches. -/

namespace Sys2Proof.Machine

/-! ## Cells -/

/-- The entry of the current phase that names a channel, with its index. -/
def Device.entryAt (s : Device) (b k : Nat) : Option (Nat × MapEnt) :=
  (List.range s.mapNow.length).findSome? (fun i =>
    match s.mapNow[i]? with
    | some e => if e.names b k then some (i, e) else none
    | none => none)

/-- A channel carries cells now: it is not dark, and not in the retune guard of a moved channel (R198, R206); its source is not cut off, nor
a destination of its assignment (R355, R358). -/
def Device.lit (s : Device) (b k : Nat) : Bool :=
  !s.pln.dark.contains (chKey b k) && !(s.pln.guard && s.pln.moved.contains (chKey b k)) && s.siteOpen (srcSite b) &&
    s.mapNow.all (fun e => !(e.names b k && e.isStatic) || e.dsts.all (s.reaches b))

/-- Count at the counter set of a site (R493); count line bytes on a bus (R494). -/
def Device.siteEvent (s : Device) (t ev b n : Nat) : Device := s.pmc pmcPln (siteQuad t) (siteLocal t) ev (busIdx b) n

/-- Cells that one item takes, and those of them that carry a line. -/
def Cell.count (c : Cell) : Nat := match c.dyn with
  | some d => d.cells
  | none => 1
def Cell.lines (c : Cell) : Nat := match c.dyn with
  | some d => d.lines
  | none => 1

/-- A cell starts on a channel; one of a compute site comes through the rate adapter of its lane group (R354). -/
def Device.startCell (s : Device) (b k : Nat) (c : Cell) : Device :=
  let s := if b < 128 then s.adapt (srcSite b) (txGroup b k) c.count else s
  ((s.modPln (fun p => { p with flight := p.flight.upd [] (chKey b k) (· ++ [c]) })).siteEvent (srcSite b) 0x01 b c.count).bw
    .plnBw (busQuad b) (busLocal b) 0 (64 * c.lines)

/-- The first line of a send queue that serves an entry, and the queue without it. -/
def takeLine : List SendLine → Nat → Option (SendLine × List SendLine)
  | [], _ => none
  | q :: l, i => if q.entry = i then some (q, l) else (takeLine l i).map (fun r => (r.1, q :: r.2))

/-- The channel that carries an entry's next cell: its lit channels in rotation, in ascending index, after the one that carried the last
(R201). -/
def Device.rotation (s : Device) (i : Nat) (e : MapEnt) : Option Nat :=
  let last := s.pln.rot.get 0 i
  let ks := ((List.range e.chans).map (fun j => e.chan + j)).filter (fun k => s.lit e.bus k)
  (ks.find? (fun k => decide (last ≤ k))).orElse (fun _ => ks.head?)

/-- The rotation goes on from a channel. -/
def Device.rotated (s : Device) (i k : Nat) : Device := s.modPln (fun p => { p with rot := p.rot.set 0 i (k + 1) })

/-- R202: the next line of a window's send queue is sent with the contents it has now; one sent before is a
rewrite. -/
def Device.sendWindow (s : Device) (b k i : Nat) (e : MapEnt) : Device :=
  let c := srcSite b
  let x := s.die c
  match takeLine (x.sendQ.get [] (busEdge b)) i with
  | none => s
  | some (q, rest) =>
    let (l, par) := x.lbRead (lbKey (busEdge b) q.line)
    let again := x.sent.contains (i, q.line)
    let s := s.modDie c (fun y => { y with
      sendQ := y.sendQ.set [] (busEdge b) rest, sent := y.sent ++ [(i, q.line)] })
    ((s.rotated i k).siteEvent c 0x06 b (b2n again)).startCell b k
      { phase := s.phase, entry := i, index := q.line - e.srcLine, data := l, parity := par, dst := e.dsts.getD 0 0 }

/-- The request a granted channel sends next: the oldest at the engines of the bus's edge toward the unit (R103,
R208, R322). -/
def Device.nextDynamic (s : Device) (b u : Nat) : Option Req :=
  s.reqs.find? (fun r => r.stage == .engine && r.c == srcSite b && s.reqEdge r == busEdge b && s.reqUnit r == u &&
    s.seqRoom (s.sengOf r.c r.t) (gDev r.gaddr))

/-- R317, R323: a tile's request leaves its engine for a channel granted to a unit. A store to another device is an item of the frame
digest (R442). The cells of one request travel as one. (DESIGN CHOICE, log entry 123) -/
def Device.sendRequest (s : Device) (b k i u : Nat) (r : Req) : Device :=
  let (p, s1) := s.stamp (s.packetOf r)
  let s1 := (s1.siteEvent r.c 0x03 b r.cells).modReq r.id (fun q => { q with stage := .sent, pkt := p })
  let away := gDev r.gaddr != s.self
  let s1 := if away && r.outward && gSpace r.gaddr != 3 && r.kind != .atomic then
      s1.noteItems r.gaddr (r.pkt.payload.take r.len) else s1
  s1.startCell b k { phase := s.phase, entry := i, dst := unitSite u, dyn := some (.request r.id p) }

/-- The first waiting item that an entry's channel may carry, and the others. -/
def takeDyn (f : Dyn → Bool) : List Dyn → Option (Dyn × List Dyn)
  | [] => none
  | d :: l => if f d then some (d, l) else (takeDyn f l).map (fun r => (r.1, d :: r.2))

/-- Traffic that waits at a site for a unit is sent (R210). -/
def Device.sendWaiting (s : Device) (b k i u : Nat) (r : Dyn × List Dyn) : Device :=
  (s.modPln (fun p => { p with waiting := p.waiting.set [] (88 * srcSite b + u) r.2 })).startCell
    b k { phase := s.phase, entry := i, dst := unitSite u, dyn := some r.1 }

/-- A granted channel sends what waits for its unit, but for what an ASSIGN carries: traffic at the site first, then the stream engines'
requests. -/
def Device.sendDynamic (s : Device) (b k i u : Nat) : Device :=
  match takeDyn (fun d => !(d.staged && s.assignTo (srcSite b) u)) (s.pln.waiting.get [] (88 * srcSite b + u)) with
  | some r => (s.siteEvent (srcSite b) 0x03 b r.1.cells).sendWaiting b k i u r
  | none =>
    match (if b < 128 then s.nextDynamic b u else none) with
    | some r => s.sendRequest b k i u r
    | none => s

/-- An ASSIGN from a port site carries the next line of an inbound scheduled transfer to its memory site (R201). -/
def Device.sendStaged (s : Device) (b k i : Nat) (e : MapEnt) : Device :=
  let u := 64 + (e.dsts.getD 0 16 - 16)
  match takeDyn Dyn.staged (s.pln.waiting.get [] (88 * srcSite b + u)) with
  | some r => (s.rotated i k).sendWaiting b k i u r
  | none => s

/-- CELL_SEND: the transmitter of a logical channel sends: an ASSIGN's next line on the channel whose turn it is, or granted dynamic
traffic; else IDLE cells (R197). -/
def Device.cellSend (s : Device) (b k : Nat) : Device :=
  if !s.lit b k then s
  else
    match s.entryAt b k with
    | none => s
    | some (i, e) =>
      if e.typ == tAssign then
        if s.rotation i e != some k then s else if b < 128 then s.sendWindow b k i e else s.sendStaged b k i e
      else if e.typ == tPool && s.pln.grants.get 0 (chKey b k) != 0 then s.sendDynamic b k i (s.pln.grants.get 0 (chKey b k) - 1)
      else s

/-- TST_LAMBDA delays this channel (R506). (DEDUCED, log entry 94) -/
def Device.lambdaActs (s : Device) (b k : Nat) : Bool :=
  s.flag F.tstCtlPresent && s.flag F.tstCtlActive && s.flag F.tstLambdaEn && s.fget F.tstLambdaBus == b &&
    s.fget F.tstLambdaChan == k

/-- CELL_SEND. A cell that a perturbation delays is counted. -/
def execCellSend (bus chan : Nat) (s : State) : Host.Outcome State Fault Refusal :=
  onUnits (chanOk bus chan) (fun s =>
    let s1 := s.cellSend bus chan
    if s.lambdaActs bus chan && s1 != s then s1.fsat F.tstCountActed 0 0 1 else s1) s

/-- The first cell on a channel for a site, and the channel's cells without it. -/
def takeCell : List Cell → Nat → Option (Cell × List Cell)
  | [], _ => none
  | c :: l, t => if c.dst = t then some (c, l) else (takeCell l t).map (fun r => (r.1, c :: r.2))

/-- What a combiner entry awaits does not come: it drains, or asks for its line, again. (DESIGN CHOICE, log entry 123) -/
def Comb.undrain (e : Comb) : Comb :=
  if e.draining && !e.atCtl then
    { e with draining := false, enable := e.enable ||| e.drainEn, waiters := e.waiters.map (fun w => { w with inDrain := false }) }
  else e
def Device.loseDyn (s : Device) : Dyn → Device
  | .drain p l _ => s.modPort p (fun x => { x with combs := x.combs.map (fun e => if e.line = l then e.undrain else e) })
  | .fetch p l => s.modPort p (fun x => { x with combs := x.combs.map (fun e => if e.line = l then { e with asked := false } else e) })
  | .fetched p l => (s.leaveQueue l (.atomic p)).modPort p (fun x => { x with
      combs := x.combs.map (fun e => if e.line = l then { e with asked := false } else e) })
  | _ => s

/-- A window line for memory will not be acknowledged in this attempt (R204, R265). -/
def Device.unstored (s : Device) : Device := s.modPln (fun p => { p with unstored := true })

/-- R198: a cell is lost; one of an assignment or fetch in the current phase map raises a hold, a request is left to its requester. -/
def Device.loseCell (s : Device) (t b : Nat) (c : Option Cell) : Device :=
  let s := (s.fsat F.plnErrUncorr (siteQuad t) 0 1).siteEvent t 0x07 b 1
  let s := match c.bind Cell.dyn with
    | some d => s.loseDyn d
    | none => if c.any (fun x => isMemSite x.dst && decide (b < 128)) then s.unstored else s
  if c.any (fun x => x.phase == s.phase && ((s.mapOf x.phase)[x.entry]?).any MapEnt.isStatic) then s.raiseHold hOptics else s

/-- A line of the current phase's entry is delivered at a site (R205). -/
def Device.noteGot (s : Device) (c : Cell) : Device :=
  if c.phase = s.phase then s.modPln (fun p => { p with got := addNew p.got (c.entry, c.index, c.dst) }) else s

/-- A receiver's write of a landing-buffer line: in the cycle of a tick's clear of the written bits it is discarded and counted as late
(R124). -/
def Device.receiverWrite (s : Device) (c edge line : Nat) (l : Line) (par : Word) (tickClear : Bool) : Device :=
  if tickClear then s.modDie c (fun y => { y with lbLate := y.lbLate + 1 })
  else (s.lbWrite c edge line l par).lbTake c edge line true

/-- A window line arrives at the controller of its line, once its site does not hold it back (R202, R246). -/
def Device.windowCame (s : Device) (c : Cell) : Device :=
  match (s.mapOf c.phase)[c.entry]? with
  | none => s
  | some e =>
    match s.locate (e.gaddr + 64 * c.index) with
    | some (_, key) => s.arriveAt (key / 64) c.dst (.window c.dst)
    | none => s

/-- A cell is accepted (R197): its line goes to a landing buffer, to the memory site, or to the port die. -/
def Device.acceptCell (s : Device) (b : Nat) (c : Cell) (e : MapEnt) (tickClear : Bool) : Device :=
  let s := (s.siteEvent c.dst 0x02 b 1).noteGot c
  if isCompute c.dst then
    let s := (s.adapt c.dst (rxGroup b) 1).receiverWrite c.dst e.edge (e.dstLine + c.index) c.data c.parity tickClear
    if e.ccEn then s.countCc e.cc else s
  else if isMemSite c.dst then
    let s := s.modPln (fun p => { p with heldLines := p.heldLines ++ [c] })
    if s.settling then s else s.windowCame c
  else s.modPln (fun p => { p with toPort := p.toPort.upd [] (4096 * c.phase + c.entry) (· ++ [(c.index, c.data)]) })

/-- A channel's cells in flight are lost, each at the site it was for (R198). -/
def Device.dropFlight (s : Device) (b k : Nat) : Device :=
  let key := chKey b k
  let lost := s.pln.flight.get [] key
  lost.foldl (fun s c => s.loseCell c.dst b (some c)) ((s.loseSync key).modPln (fun p => { p with flight := p.flight.set [] key [] }))

/-- DARK_CHANNEL (R198): the source stops using the channel; its cells in flight are lost. -/
def Device.darken (s : Device) (b k : Nat) : Device :=
  (s.modPln (fun p => { p with dark := addNew p.dark (chKey b k) })).dropFlight b k

def execDarkChannel (site bus chan : Nat) (s : State) : Host.Outcome State Fault Refusal :=
  onUnits (siteOk site && chanOk bus chan && passes bus site) (fun s => s.darken bus chan) s

/-! ## Fetches and window lines (R202–R204) -/

/-- A fetch's access to a line: its key; `none` while the read waits, for its page (R263) or at its controller. -/
def Device.fetchAccess (s : Device) (a : Nat) : Option (Nat × Device) :=
  match s.locate a with
  | none => none
  | some (_, key) => if s.readHeld a key then none else (s.accessFor false (key / 64)).map (fun s => (key, s))

/-- FETCH_LINE_READ (R203): a fetch reads its next line and sends it to every destination (R211). -/
def Device.fetchLine (s : Device) (i : Nat) : Device :=
  match s.mapNow[i]? with
  | none => s
  | some e =>
    let n := s.pln.fetched.get 0 i
    if e.typ ≠ tFetch ∨ e.lines ≤ n ∨ (s.pln.guard && e.keys.any s.pln.moved.contains) then s
    else
      match s.rotation i e, s.fetchAccess (e.gaddr + 64 * n) with
      | some k, some (key, s) =>
        let (d, s) := s.lineOut (e.gaddr + 64 * n) key
        let s := (s.rotated i k).modPln (fun p => { p with fetched := p.fetched.set 0 i (n + 1) })
        let s := e.dsts.foldl (fun s t => s.modPln (fun p => { p with
          flight := p.flight.upd [] (chKey e.bus k)
            (· ++ [{ phase := s.phase, entry := i, index := n, data := d.1, parity := d.2, dst := t }]) })) s
        (s.siteEvent (srcSite e.bus) 0x01 e.bus 1).bw .plnBw (busQuad e.bus) (busLocal e.bus) 0 64
      | _, _ => s

def execFetchLineRead (entry : Nat) (s : State) : Host.Outcome State Fault Refusal :=
  onDevice (fun s => s.fetchLine entry) s

/-- R265: a write with bad parity is refused at its controller: counted, and a hold with reason MEMORY. -/
def Device.writeParity (s : Device) (key : Nat) (provoked : Bool := false) : Device :=
  let s :=
    if key < 2 ^ 42 then
      let m := lineChan (key / 64) / 32
      (s.fsat F.memErrWparity m 0 1).note
        { kind := if provoked then kTst else kMem, index := if provoked then 0 else m, prio := 1, cls := 2, cause := 35,
          unit := m }
    else
      let k := (key - 2 ^ 42) / 2 ^ 38
      (s.fsat F.prtDdrErrWparity (k / 2) (k % 2) 1).note
        { kind := if provoked then kTst else kPrt, index := if provoked then 0 else k / 2, prio := 1, cls := 2, cause := 35,
          unit := k }
  s.raiseHold hMemory

/-- WINDOW_LINE_APPLY (R202): a memory site applies the first window line that waits, after the settle interval. A line
that R155 or R166 refuses is neither stored nor counted, and stops the job. -/
def Device.applyWindow (s : Device) (t : Nat) : Device :=
  if s.settling then s
  else
    match takeCell s.pln.heldLines t with
    | none => s
    | some (c, rest) =>
      let pop (s : Device) : Device :=
        let s := match ((s.mapOf c.phase)[c.entry]?).bind (fun e => s.locate (e.gaddr + 64 * c.index)) with
          | some (_, key) => s.leaveQueue (key / 64) (.window t)
          | none => s
        s.modPln (fun p => { p with heldLines := rest })
      match (s.mapOf c.phase)[c.entry]? with
      | none => pop s
      | some e =>
        let a := e.gaddr + 64 * c.index
        if s.accessStatus false false .write a 64 ≠ stOk then
          ((((pop s).note { kind := kPln, index := siteQuad t, prio := 1, cls := 5, cause := 38, unit := c.phase, detail := c.entry }).modFr
            (fun f => { f with fault := true }))).jobStop jcMapWriteSet
        else
          match s.locate a with
          | none => pop s
          | some (_, key) =>
            match (if c.parity = parityOf c.data then s.accessFor true (key / 64) (some (.window t)) else some s) with
            | none => s
            | some s =>
              if c.parity ≠ parityOf c.data then ((pop s).writeParity key).unstored
              else if s.mem.lost (key / 64) then pop s
              else
                let s := ((pop s).modMem (fun m => m.writeLine (key / 64) c.data allBytes)).countMem true key 64
                let s := if s.digested a then s.noteItem a c.data allBytes else s
                (if e.ccEn then s.countCc e.cc else s).noteEow

def execWindowLineApply (site : Nat) (s : State) : Host.Outcome State Fault Refusal :=
  onUnits (isMemSite site) (fun s => s.applyWindow site) s

/-! ## Calibration (R214, R215) -/

/-- PLAUS_REJECT (R232). -/
def Device.plausReject (s : Device) (q : Nat) : Device := s.fsat F.plnErrPlausReject q 0 1

/-! A window of statistics (R214) is a histogram: how many of the 65,536 samples of the 5-bit ADC had each value. -/

/-- Samples from value `lo` to below `hi`, their sum, and the sum of their squares. -/
def histSum (h : List Nat) (lo hi : Nat) (f : Nat → Nat) : Nat := ((List.range 32).map (fun v => if lo ≤ v ∧ v < hi then h.getD v 0 * f v else 0)).sum

/-- Mean and standard deviation of a group in thousandths of an ADC step. (DEDUCED, log entry 124) -/
def groupMean (h : List Nat) (lo hi : Nat) : Nat := 1000 * histSum h lo hi id / max 1 (histSum h lo hi (fun _ => 1))
def groupDev (h : List Nat) (lo hi : Nat) : Nat :=
  let n := histSum h lo hi (fun _ => 1)
  Nat.sqrt ((n * histSum h lo hi (fun v => v * v) - histSum h lo hi id * histSum h lo hi id) * 1000000 / max 1 (n * n))

/-- The eye figure (R214), E = (μ1 − μ0) / (σ0 + σ1), in hundredths, split at a threshold. (DEDUCED, log entry 124) -/
def eyeFigure (h : List Nat) (threshold : Nat) : Nat :=
  100 * (groupMean h threshold 32 - groupMean h 0 threshold) / max 1 (groupDev h 0 threshold + groupDev h threshold 32)

/-- A plausible window: mark density 0.45–0.55, and at least 8,192 samples in either group. -/
def windowPlausible (h : List Nat) (threshold : Nat) : Bool :=
  let lower := histSum h 0 threshold (fun _ => 1)
  let upper := histSum h threshold 32 (fun _ => 1)
  lower + upper == 65536 && decide (45 * 65536 ≤ 100 * upper ∧ 100 * upper ≤ 55 * 65536 ∧ 8192 ≤ lower ∧ 8192 ≤ upper)

/-- The monitor receiver of a bus (R212), keyed as ring 0 of its source site, which has no drop rings there. -/
def monitorKey (b : Nat) : Nat := ringKey (srcSite b) b 0

/-- The present decision threshold of a bus's monitor receiver. -/
def Device.monitorThreshold (s : Device) (b : Nat) : Nat := (s.pln.corr.get {} (monitorKey b)).threshold.toNat

/-- The bias steps of a pass, in percent of the bias range: the present bias, then a step up and one down. -/
def trialSteps : List Int := [0, 1, -1]

/-- The trial with the best eye figure: its step and its eye. -/
def bestTrial (trials : List (List Nat)) (threshold : Nat) : Int × Nat :=
  (List.zip trialSteps (trials.map (fun h => eyeFigure h threshold))).foldl (fun o x => if o.2 < x.2 then x else o)
    (0, eyeFigure (trials.headD []) threshold)

/-- A pass of a line: the bias with the best eye figure, unless it breaks a bound of R215; the line passes now. -/
def Device.passLine (s : Device) (b l : Nat) (trials : List (List Nat)) : Device :=
  let k := lineKey b l
  let best := bestTrial trials (s.monitorThreshold b)
  let new := s.pln.bias.get 0 k + best.1
  let s := if 25 < new.natAbs ∨ best.2 < s.pln.eye.get 0 k then s.plausReject (busQuad b)
    else s.modPln (fun p => { p with bias := p.bias.set 0 k new, eye := p.eye.set 0 k best.2 })
  s.modPln (fun p => { p with
    passed := addNew p.passed k, passAt := p.passAt.set 0 k s.now,
    stale := p.stale.filter (· != k), unproven := p.unproven.filter (· != k) })

/-- The three windows of a pass are plausible; one that is not is discarded and measured again (R214). -/
def Device.trialsOk (s : Device) (b : Nat) (trials : List (List Nat)) : Bool :=
  trials.length == 3 && trials.all (fun h => windowPlausible h (s.monitorThreshold b))

/-- CALIBRATION_PASS of the calibration line: its trials' histograms. -/
def Device.calPass (s : Device) (b l : Nat) (trials : List (List Nat)) : Device :=
  if l ≠ s.calLineOf b ∨ s.lineDead b l ∨ s.trialsOk b trials = false then s else (s.passLine b l trials).publishStale b

def execCalibrationPass (bus line : Nat) (base up down : List Nat) (s : State) : Host.Outcome State Fault Refusal :=
  onUnits (busOk bus) (fun s => s.calPass bus line [base, up, down]) s

/-- CAL_STALE (R213): a working line without a pass for 30 s. -/
def execCalStale (bus line : Nat) (s : State) : Host.Outcome State Fault Refusal :=
  onUnits (busOk bus && lineOk line) (fun s =>
    if (s.workLines bus).contains line then
      ((s.modPln (fun p => { p with stale := addNew p.stale (lineKey bus line) })).publishStale bus).note
        { kind := kPln, index := busQuad bus, prio := 2, cls := 1, cause := 10, unit := bus, detail := line }
    else s) s

/-- R215: a new value is within its step and its range. Gains are in hundredths; a step of a gain is 10 % of it. -/
def liveOk (quantity : Nat) (old new : Int) : Bool :=
  match quantity with
  | 0 => decide ((new - old).natAbs ≤ 2 ∧ new.natAbs ≤ 8)
  | 1 => decide (10 * (new - old).natAbs ≤ old.natAbs ∧ 50 ≤ new ∧ new ≤ 200)
  | 2 => decide ((new - old).natAbs ≤ 1 ∧ 4 ≤ new ∧ new ≤ 27)
  | _ => decide ((new - old).natAbs ≤ 50 ∧ new.natAbs ≤ 2000)

/-- The value that the live statistics give (R215): quantity 0 offset, 1 gain, 2 threshold, the midpoint of the two groups, 3 ring lock
point; and the eye figure of those statistics at the threshold that would then hold. (DEDUCED, log entry 132) -/
def liveValue (quantity threshold : Nat) (h : List Nat) (dither : Int) : Int :=
  match quantity with
  | 0 => Config.liveOffset h
  | 1 => Config.liveGain h
  | 2 => ((groupMean h 0 threshold + groupMean h threshold 32 + 1000) / 2000 : Nat)
  | _ => Config.liveLock dither
def liveEye (quantity threshold : Nat) (h : List Nat) : Nat :=
  eyeFigure h (if quantity = 2 then (liveValue 2 threshold h 0).toNat else threshold)

/-- A new value for a receiver or ring: quantity 0 offset, 1 gain, 2 threshold, 3 ring lock point (from the band preset). -/
def Device.liveUpdate (s : Device) (t b r quantity : Nat) (v : Int) (eye : Nat) : Device :=
  let k := ringKey t b r
  let x := s.pln.corr.get {} k
  let old := match quantity with
    | 0 => x.offset | 1 => x.gain | 2 => x.threshold | _ => s.lockOffset t b r
  if !liveOk quantity old v || decide (eye < x.eye) then s.plausReject (siteQuad t)
  else
    let x := { x with eye := eye }
    let put (y : Correction) : Device := s.modPln (fun p => { p with corr := p.corr.set {} k y })
    match quantity with
    | 0 => put { x with offset := v }
    | 1 => put { x with gain := v }
    | 2 => put { x with threshold := v }
    | _ => (put x).modPln (fun p => { p with lock := p.lock.set 0 (lockKey t b r (s.ringLine t b r)) v })

/-- A live-signal update from a histogram and the dither phase, at most once every 100 µs for each receiver or ring. -/
def Device.liveSignal (s : Device) (t b r quantity : Nat) (h : List Nat) (dither : Int) : Device :=
  let k := ringKey t b r
  let at_ := s.pln.liveAt.get 0 k
  if at_ ≠ 0 ∧ s.now + 1 < at_ + 100000 then s
  else
    let th := (s.pln.corr.get {} k).threshold.toNat
    (s.liveUpdate t b r quantity (liveValue quantity th h dither) (liveEye quantity th h)).modPln (fun p => { p with
      liveAt := p.liveAt.set 0 k (s.now + 1) })

/-- A site has this ring of a bus; at the bus's source it is the monitor ring alone (R212). -/
def hasRing (t b r : Nat) : Bool := ringOk t b r && (passes b t || r == 0)

/-- LIVE_UPDATE (R215). -/
def execLiveUpdate (site bus ring quantity : Nat) (hist : List Nat) (dither : Int) (s : State) :
    Host.Outcome State Fault Refusal :=
  onUnits (hasRing site bus ring && decide (quantity < 4)) (fun s => s.liveSignal site bus ring quantity hist dither) s

/-- FEED_FORWARD (R217, R391), while any stack group or the quadrant group of the stack's quadrant samples fast: the temperature is predicted from the stack's sensors, with
their rise, and its activity count, and every ring's heater drive follows (Device.ringDrive). (DESIGN CHOICE, log entry 122) -/
def Device.feedForward (s : Device) (c activity : Nat) : Device :=
  if s.thm.fast.any (fun g => g == 16 + c / 4 || (decide (g < 16) && g / 4 == c / 4)) then
    let x (i : Nat) : Sensor := s.thm.sensors.get {} (28 * c + i)
    let p := Config.predictedTemp ((List.range 28).map (fun i => ((x i).gov, (x i).rate))) activity
    s.modDie c (fun y => { y with heater := some p })
  else s

def execFeedForward (c activity : Nat) (s : State) : Host.Outcome State Fault Refusal :=
  onUnits (stackOk c) (fun s => s.feedForward c activity) s

/-! ## Rings (R218–R221) -/

/-- RING_ACQUISITION: a ring in service acquires a line. -/
def execRingAcquisition (site bus ring line : Nat) (s : State) : Host.Outcome State Fault Refusal :=
  onUnits (ringOk site bus ring && passes bus site && lineOk line) (fun s =>
    if (s.ring site bus ring).state == rDeacc then s else s.acquire site bus ring line) s

/-- A ring is deaccessioned (R219): its replacement comes at the next phase boundary, and until then the lost
channel of a running schedule holds the ticks (R226). -/
def Device.loseRing (s : Device) (t b r : Nat) : Device :=
  let x := s.ring t b r
  let used := (s.linesInto t b).contains x.line
  let s := (s.setRing t b r { x with state := rDeacc }).fset F.plnSiteRingsDeacc (siteQuad t) (siteLocal t)
    (s.fget F.plnSiteRingsDeacc (siteQuad t) (siteLocal t) + 1)
  let s := s.note { kind := kPln, index := siteQuad t, prio := 1, cls := 3, cause := 7, unit := b, detail := r }
  if s.running then
    let s := s.modPln (fun p => { p with ringWait := p.ringWait ++ [ringKey t b r] })
    (if used then s.raiseHold hOptics else s).recheck
  else s.replaceRing (ringKey t b r)

/-- R218: the check passes when the tone of the expected line stands at least 10 dB above every other tone. `tones` are the
correlations with the 64 tones, in tenths of a dB. -/
def toneOk (l : Nat) (tones : List Int) : Bool :=
  tones.length == 64 && (List.range 64).all (fun n => n == l || decide (tones.getD n 0 + 100 ≤ tones.getD l 0))

/-- A failed identity check is counted (R219, R232); a second one deaccessions the ring, after the first it sweeps again. -/
def Device.failCheck (s : Device) (t b r : Nat) : Device :=
  let x := s.ring t b r
  let s := (s.fsat F.plnErrWrongId (siteQuad t) 0 1).siteEvent t 0x08 b 1
  if x.fails = 0 then s.setRing t b r { x with state := rAcquiring, fails := 1 } else s.loseRing t b r

/-- IDENTITY_CHECK (R218, R219). -/
def execIdentityCheck (site bus ring : Nat) (tones : List Int) (s : State) : Host.Outcome State Fault Refusal :=
  onUnits (ringOk site bus ring && passes bus site) (fun s =>
    let x := s.ring site bus ring
    if x.state ≠ rAcquiring then s
    else if toneOk x.line tones then s.setRing site bus ring { x with state := rLocked, fails := 0 }
    else s.failCheck site bus ring) s

/-- RING_LOCK_TIMEOUT (R219): 50 ms without a lock. -/
def execRingLockTimeout (site bus ring : Nat) (s : State) : Host.Outcome State Fault Refusal :=
  onUnits (ringOk site bus ring && passes bus site) (fun s =>
    if (s.ring site bus ring).state == rAcquiring then s.loseRing site bus ring else s) s

/-- LOCK_LOSS (R221): a ring in use loses lock, its channel goes dark, and it acquires again. -/
def execLockLoss (site bus ring : Nat) (s : State) : Host.Outcome State Fault Refusal :=
  onUnits (ringOk site bus ring && passes bus site) (fun s =>
    let x := s.ring site bus ring
    match (s.chansInto site bus).find? (fun k => s.lineOf bus k == x.line) with
    | some k =>
      if x.state ≠ rLocked then s
      else
        ((s.fsat F.plnErrLockLoss (siteQuad site) 0 1).acquire site bus ring x.line).darken bus k
    | none => s) s

/-! ## Lines and cartridges (R222–R224) -/

/-- A line of one bus is deaccessioned: its channel is dark until it moves at the next boundary, at once with no job
running. -/
def Device.killLine (s : Device) (b l : Nat) : Device :=
  if s.lineDead b l then s
  else
    let k := s.chanOn b l
    let s := (s.modPln (fun p => { p with deadLines := addNew p.deadLines (lineKey b l) })).renewCal b
    let s :=
      match k with
      | some k =>
        if s.running then s.darken b k else (s.dropFlight b k).moveChannel b k
      | none => s
    s.publishBus b

/-- LINE_DEACCESSION (R222): across the quadrant's 56 buses; a static or granted channel that goes dark holds the tick (R226).
(DEDUCED, log entry 85) -/
def Device.deaccessLine (s : Device) (q l : Nat) : Device :=
  let s := (List.range 56).foldl (fun s i => s.killLine (busOf q i) l) s
  let s := if s.pln.dark.any (fun k => s.mapNow.any (fun e => e.isStatic && e.names (k / 64) (k % 64)) ||
      s.pln.grants.get 0 k != 0) then s.raiseHold hOptics else s
  (((s.finc F.plnStatusLinesDeacc q 0 1).note
    { kind := kPln, index := q, prio := 1, cls := 3, cause := 6, unit := l })).recheck

/-- PLN_LASER states (R230). -/
def lsAbsent : Nat := 0
def lsSelfCheck : Nat := 1
def lsStandby : Nat := 2
def lsActive : Nat := 3
def lsDegraded : Nat := 4
def lsFailed : Nat := 5

/-- The active cartridge of a quadrant (0 or 1), and the other. -/
def Device.activeCart (s : Device) (q : Nat) : Nat := s.fget F.plnStatusSource q - 1
def Device.otherCart (s : Device) (q : Nat) : Nat := 1 - s.activeCart q

/-- These lines of the active comb are below their floor: LINES_LOW counts them. The field cannot show 64, and shows 63.
(DESIGN CHOICE, log entry 133) -/
def Device.setLow (s : Device) (q : Nat) (ls : List Nat) : Device :=
  let x := 2 * q + s.activeCart q
  (s.modPln (fun p => { p with low := p.low.filter (fun i => i / 64 != x) ++ ls.map (fun l => 64 * x + l) })).fset
    F.plnLaserLinesLow q (s.activeCart q) (min 63 ls.length)
def Device.lowLines (s : Device) (q : Nat) : List Nat :=
  (s.pln.low.filter (fun i => i / 64 == 2 * q + s.activeCart q)).map (· % 64)

/-- The registers a condition shows: 0 total power dropped by `value` × 0.1 dB, 1 the lines below their floor, 2 the lines whose
tones fail, each at most 63, 3 the latch opens. (DESIGN CHOICE, log entry 133) -/
def Device.showCondition (s : Device) (q cond value : Nat) (ls : List Nat) : Device :=
  let k := s.activeCart q
  match cond with
  | 0 => s.fset F.plnLaserPwrDrop q k (min 255 value)
  | 1 => s.setLow q ls
  | 2 => s.fset F.plnLaserTonesBad q k (min 63 value)
  | _ => s.setFlag F.plnLaserLatch q k true

/-- A condition of R223 holds. -/
def switchDue (cond value : Nat) : Bool :=
  match cond with
  | 0 => decide (15 < value)
  | 1 => decide (2 < value)
  | 2 => decide (1 ≤ value)
  | _ => true

/-- The lanes of P(q) lose light when the selector moves (R224, R279). -/
def Device.dropLanes (s : Device) (q : Nat) : Device :=
  (List.range 16).foldl (fun s j =>
    if s.laneState (16 * q + j) = lUp ∨ s.laneState (16 * q + j) = lDimmed then s.setLane (16 * q + j) lInterrupted else s) s

/-- The selector of a quadrant moves to the standby cartridge: the lanes of its port site lose light (R224). -/
def Device.moveSelector (s : Device) (q : Nat) : Device :=
  (s.dropLanes q).publishLanes.modPln (fun p => { p with selected := addNew p.selected q })

/-- A switch begins (R223): in a running job at the tick for which a hold is raised, else at once, with the selector. -/
def Device.startSwitch (s : Device) (q : Nat) : Device :=
  let s := (s.setFlag F.plnStatusSwitching q 0 true).startWork (workCart q)
  if s.running then s else s.moveSelector q

/-- The selectors of the switches under way move at the first held tick (R224). -/
def Device.moveSelectors (s : Device) : Device :=
  (List.range 4).foldl (fun s q =>
    if s.flag F.plnStatusSwitching q && s.fr.work.contains (workCart q) && !s.pln.selected.contains q then s.moveSelector q
    else s) s

/-- The switch under way ends without its standby cartridge: where the selector has moved, it moves back, and the lanes lose light again.
(DESIGN CHOICE, log entry 134) -/
def Device.dropSwitch (s : Device) (q : Nat) : Device :=
  let s := if s.pln.selected.contains q then (s.dropLanes q).publishLanes else s
  ((s.setFlag F.plnStatusSwitching q 0 false).endWork (workCart q)).modPln (fun p => { p with
    selected := p.selected.filter (· != q) })

/-- The other cartridge can take the quadrant, and no switch is under way. -/
def Device.canSwitch (s : Device) (q : Nat) : Bool :=
  s.fget F.plnStatusSource q != 0 && !s.flag F.plnStatusSwitching q && s.fget F.plnLaserState q (s.otherCart q) == lsStandby

/-- A quadrant loses all comb light (R25): no comb is active, its buses and the lanes of its port site go dark, and the device withdraws. -/
def Device.combLost (s : Device) (q : Nat) : Device :=
  let s := ((s.dropSwitch q).fset F.plnStatusSource q 0 0).dropLanes q
  let s := (s.mapNow.filter (fun e => busQuad e.bus == q)).foldl (fun s e =>
    e.keys.foldl (fun s k => s.darken (k / 64) (k % 64)) s) s
  s.withdraw wCombLost

/-- R222: a line deaccessioned across a quadrant is healthy under the new comb and returns to standby. -/
def Device.reviveLine (s : Device) (q l : Nat) : Device :=
  let dead := (List.range 56).all (fun i => s.lineDead (busOf q i) l)
  let s := (List.range 56).foldl (fun s i =>
    let b := busOf q i
    let n := s.chansOf b
    (((s.modPln (fun p => { p with deadLines := p.deadLines.filter (· != lineKey b l) })).renewCal b).addChannels b n).publishBus b) s
  if dead then s.fset F.plnStatusLinesDeacc q 0 (s.fget F.plnStatusLinesDeacc q - 1) else s

/-- A ring that fails its check during a switch (R224): it follows R219, and its channel is dark until it relocks. -/
def Device.unlockRing (s : Device) (q t b r : Nat) : Device :=
  if t < 40 ∧ b < 224 ∧ r < 8 ∧ passes b t ∧ busQuad b = q ∧ (s.ring t b r).state = rLocked then
    let l := (s.ring t b r).line
    let s := s.failCheck t b r
    match (s.chansInto t b).find? (fun k => s.lineOf b k == l) with
    | some k => s.darken b k
    | none => s
  else s

/-- CARTRIDGE_SWITCH_COMPLETE (R224): `healthy` are the deaccessioned lines that pass under the new comb, `unlocked` the rings (site,
bus, ring) that failed their check. -/
def Device.finishSwitch (s : Device) (q : Nat) (oldFailed : Bool) (healthy : List Nat) (unlocked : List (Nat × Nat × Nat)) : Device :=
  let old := s.activeCart q
  let s := if s.fget F.plnLaserState q old = lsActive then
      s.fset F.plnLaserState q old (if oldFailed then lsFailed else lsDegraded) else s
  let s := s.fset F.plnLaserState q (1 - old) lsActive
  let s := ((s.fset F.plnStatusSource q 0 (2 - old)).setFlag F.plnStatusSwitching q 0 false).modPln (fun p => { p with
    selected := p.selected.filter (· != q) })
  let s := healthy.foldl (fun s l => s.reviveLine q l) s
  let s := unlocked.foldl (fun s e => s.unlockRing q e.1 e.2.1 e.2.2) s
  ((s.endWork (workCart q)).useSpare 5).note { kind := kPln, index := q, prio := 2, cls := 3, cause := 8, unit := q }

def execCartridgeSwitchComplete (q : Nat) (oldFailed : Bool) (healthy : List Nat) (s : State)
    (unlocked : List (Nat × Nat × Nat) := []) : Host.Outcome State Fault Refusal :=
  onUnits (quadOk q) (fun s =>
    if s.flag F.plnStatusSwitching q && (!s.running || s.fr.held) then s.finishSwitch q oldFailed healthy unlocked else s) s

/-- PHASE_BOUNDARY (R144, R206): the next phase of the frame begins. -/
def execPhaseBoundary (s : State) : Host.Outcome State Fault Refusal :=
  onDevice (fun s =>
    if s.running && decide (s.phase + 1 < s.fget F.frmConfigPhases) then (s.beginPhase (s.phase + 1)).noteEow else s) s

/-- The receivers that have seen 16 wrong blocks in a row by the end of the guard: their rings acquire, and the channel stays dark (R220). -/
def Device.wronglyLocked (s : Device) (key : Nat) : Device :=
  let b := key / 64
  let k := key % 64
  ((List.range 40).filter (fun t =>
      (s.chansInto t b).contains k && decide (16 ≤ s.pln.wrongRun.get 0 (rxKey t b k)))).foldl (fun s t =>
    match (List.range 8).find? (fun r => (s.ring t b r).line == s.lineOf b k && (s.ring t b r).state == rLocked) with
    | some r => (s.acquire t b r (s.lineOf b k)).darken b k
    | none => s) s

/-- RETUNE_GUARD_END (R144): 4 µs into the phase its moved channels carry traffic. -/
def Device.guardEnd (s : Device) : Device :=
  if s.running then (s.pln.moved.foldl Device.wronglyLocked s).modPln (fun p => { p with guard := false }) else s

def execRetuneGuardEnd (s : State) : Host.Outcome State Fault Refusal := onDevice Device.guardEnd s

end Sys2Proof.Machine
end

