-- ==== Sys2Proof/Machine/MemCtl.lean ====
section
/-! DEFINITION. The commands of the HBM4 and DDR5 controllers (R245–R265): reads and their joining, writes, errors and
their handling, repairs, refresh bands, migrations, hard losses. -/

namespace Sys2Proof.Machine

/-! ## Reads and writes (R246, R247) -/

/-- The queued read that a read of `line` joins now (R247). -/
def joinsAt (now line : Nat) (l : List CtlReq) : Option Nat :=
  (List.range l.length).find? (fun i =>
    match l[i]? with
    | some q => q.line == line && q.write.isNone && q.mark.isNone && !q.shut && decide (now ≤ q.came + 64)
    | none => false)

/-- CONTROLLER_READ. -/
def Device.ctlRead (s : Device) (m h line site bus id : Nat) : Device :=
  let l := s.mem.waiting.get [] (chanNo m h)
  match joinsAt s.now line l with
  | some i =>
    ((s.modMem (fun x => { x with
        waiting := x.waiting.set [] (chanNo m h)
          (modAt (fun q => { q with joined := q.joined ++ [(site, id, s.now)] }) l i) })).finc F.memStatsMerged m 0 1).pmc
      pmcMem m 0 0x03 h 1
  | none =>
    s.modMem (fun x => { x with
      waiting := x.waiting.set [] (chanNo m h) (ctlInsert { line := line, site := site, bus := bus, id := id, came := s.now } l) })

def execControllerRead (m h line site id : Nat) (s : State) (bus : Nat := 0) : Host.Outcome State Fault Refusal :=
  onUnits (hchOk m h && siteOk site && decide (line < 2 ^ 25)) (fun s => s.ctlRead m h line site bus id) s

/-- A write reaches the array. -/
def Device.arrayWrite (s : Device) (m h line : Nat) (data : Line) (enable : Word) : Device :=
  (s.modMem (fun x => x.writeLine (chanLine m h line) data enable)).countMem true (chanKey m h (64 * line)) 64

/-- The first queued write that no earlier access to its line precedes. -/
def firstWrite (l : List CtlReq) : Option Nat :=
  (List.range l.length).find? (fun i =>
    match l[i]? with
    | some q => q.write.isSome && !(l.take i).any (fun e => e.line == q.line)
    | none => false)

/-- Queued writes of a channel whose turn has come are served, as far as tokens allow (R246, R380). -/
def Device.serveWrites : Nat → Device → Nat → Device
  | 0, s, _ => s
  | n + 1, s, ch =>
    let l := s.mem.waiting.get [] ch
    match firstWrite l with
    | none => s
    | some i =>
      match l[i]?, (l[i]?).bind (fun q => s.access (chanLine (ch / 32) (ch % 32) q.line)) with
      | some q, some s =>
        let s := s.modMem (fun x => { x with waiting := x.waiting.set [] ch (dropAt l i) })
        (match q.write with
          | some w => s.arrayWrite (ch / 32) (ch % 32) q.line w.1 w.2
          | none => s).serveWrites n ch
      | _, _ => s

/-- Migration copies take their tokens (R252, R380): in a µs at most 3,840 bytes of a channel that is being copied. (DEDUCED, log entry 98) -/
def Device.copyTokens (s : Device) : Device :=
  (s.mem.migrating.filter (fun e => !s.mem.switching.contains e.1 && !s.mem.switched.contains e.1)).foldl (fun s e =>
    let m := e.1 / 32
    match s.memRate m with
    | none => s.spendHbm m 3840
    | some r =>
      let used := min (16 * r) (s.mem.spent.get 0 m)
      let n := min 3840 (16 * r - used) / 64 * 64
      (s.modMem (fun x => { x with spent := x.spent.set 0 m (used + n) })).spendHbm m n) s

/-- One µs refills the buckets, and writes that waited are served. (DEDUCED, log entry 98) -/
def Device.refillTokens (s : Device) : Device :=
  let s := s.modMem (fun x => { x with
    spent := x.spent.filterMap (fun e =>
      let left := e.2 - (s.memRate e.1).getD e.2
      if left = 0 then none else some (e.1, left)) })
  let s := s.copyTokens
  s.mem.waiting.foldl (fun s e => s.serveWrites e.2.length e.1) s

/-- CONTROLLER_WRITE (R246, R247, R265): a line with bad parity is neither written nor acknowledged; any other ends the joining of reads
of its line, and waits behind earlier accesses to it, or for tokens. -/
def Device.ctlWrite (s : Device) (m h line site bus : Nat) (data : Line) (parity enable : Word) : Device :=
  if parity ≠ parityOf data then s.writeParity (chanKey m h (64 * line))
  else
    let s := s.modMem (fun x => x.shutJoins (chanLine m h line))
    let l := s.mem.waiting.get [] (chanNo m h)
    if l.any (fun e => e.line == line) then
      s.modMem (fun x => { x with
        waiting := x.waiting.set [] (chanNo m h)
          (ctlInsert { line := line, site := site, bus := bus, came := s.now, write := some (data, enable) } l) })
    else
      match s.access (chanLine m h line) with
      | none => s.modMem (fun x => { x with
          waiting := x.waiting.set [] (chanNo m h)
            (l ++ [{ line := line, site := site, bus := bus, came := s.now, write := some (data, enable) }]) })
      | some s => s.arrayWrite m h line data enable

def execControllerWrite (m h line : Nat) (data : Line) (parity enable : Word) (s : State) (site : Nat := 0) (bus : Nat := 0) :
    Host.Outcome State Fault Refusal :=
  onUnits (hchOk m h && siteOk site && decide (line < 2 ^ 25)) (fun s => s.ctlWrite m h line site bus data parity enable) s

/-- What the controller delivers for a read whose array access ended: `err` 0 good, 1 corrected, 2 uncorrectable (R250, R261). -/
def Device.ctlData (s : Device) (m h line err : Nat) : (Line × Word) × Device :=
  let l := chanLine m h line
  let a := (s.globalAt l).getD (gAddr s.self 3 0)
  let s := match err with
    | 0 => s
    | 1 => s.corrected m h line
    | _ => s.modMem (fun x => { x with
        bad := addNew x.bad l, pageFails := if x.bad.contains l then x.pageFails else x.pageFails.upd 0 (s.pageOf l) (· + 1) })
  s.lineOut a (64 * l)

/-- The reads joined to one that stay queued: of a line that has failed meanwhile, to be read again after its repair (R263); else those that
came less than 16 cycles ago, for which the line is there (R247). -/
def CtlReq.rest (q : CtlReq) (now : Nat) (failed : Bool) (d : Line × Word) : List CtlReq :=
  match q.joined.filter (fun r => failed || decide (now < r.2.2 + 16)) with
  | [] => []
  | r :: rs => [{ q with site := r.1, id := r.2.1, came := r.2.2, joined := rs, got := if failed then none else some d }]

/-- READ_RESPONSE_LEAVE: the first queued access to a line is a read whose array access has completed. Its response leaves no earlier than
16 cycles after it came, to its requester and to every read that joined it and came 16 cycles ago (R247); reads of a failing line wait for
its repair, and of those that had joined only the failing read itself gets the line (R263); in CRITICAL nothing leaves (R249). -/
def Device.ctlLeave (s : Device) (m h line err : Nat) : Device :=
  let l := s.mem.waiting.get [] (chanNo m h)
  match l.findIdx? (fun q => q.line == line) with
  | none => s
  | some i =>
    let q := l.getD i {}
    let key := 64 * chanLine m h line
    if q.write.isSome || q.mark.isSome || decide (s.now < q.came + 16) ||
        (q.got.isNone && s.readHeld ((s.globalAt (key / 64)).getD 0) key) then s
    else
      match (if q.got.isSome then some s else s.access (key / 64)) with
      | none => s
      | some s =>
        let (d, s) := match q.got with
          | some d => (d, s)
          | none => s.ctlData m h line err
        let failed := s.mem.failing.contains (key / 64)
        let s := s.modMem (fun x => { x with
          waiting := x.waiting.set [] (chanNo m h) (l.take i ++ q.rest s.now failed d ++ l.drop (i + 1)) })
        let s := ((q.site, q.id, q.came) :: q.joined.filter (fun r => !failed && decide (r.2.2 + 16 ≤ s.now))).foldl (fun s r =>
          s.emit (.line r.1 r.2.1 d.1 d.2)) s
        s.serveWrites (s.mem.waiting.get [] (chanNo m h)).length (chanNo m h)

def execReadResponseLeave (m h line err : Nat) (s : State) : Host.Outcome State Fault Refusal :=
  onUnits (hchOk m h && decide (line < 2 ^ 25)) (fun s => s.ctlLeave m h line err) s

/-! ## Unreadable lines (R262–R264) -/

/-- The source of a memory record: the HBM4 controller of stack m below 20, the port die of DIMM m − 20. -/
def memKind (m : Nat) : Nat := if m < 20 then kMem else kPrt
def memIndex (m : Nat) : Nat := if m < 20 then m else (m - 20) / 2
def memUnit (m : Nat) : Nat := if m < 20 then m else m - 20

/-- A record of R262: a FAULT that holds the frame. One that a parity flip provoked has source TST (R506). -/
def Device.memFault (s : Device) (m cause unit : Nat) (tst : Bool) : Device :=
  s.note { kind := if tst then kTst else memKind m, index := if tst then 0 else memIndex m, prio := 1, cls := 2, cause := cause, unit := unit, detail := s.frame }

/-- SOFT_REPAIR (R250): a due row is repaired; PPR_LEFT falls, and a channel whose count reaches 0 is degraded. -/
def Device.softRepair (s : Device) (m h row : Nat) : Device :=
  let k := rowKey m h row
  if !s.mem.rowsDue.contains k then s
  else
    let left := s.fget F.memChanPprLeft m h - 1
    let s := (s.modMem (fun x => { x with
      rowsDue := x.rowsDue.filter (· != k), softRows := addNew x.softRows k })).pmc pmcMem m 0 0x07 h 1
    let s := s.fset F.memChanPprLeft m h left
    if left = 0 then s.degrade m h else s

def execSoftRepair (m h row : Nat) (s : State) : Host.Outcome State Fault Refusal :=
  onUnits (hchOk m h && decide (row < 2 ^ 21)) (fun s => s.softRepair m h row) s

/-- The row of a line is repaired first, where it is due (R262, R263). -/
def Device.repairRowOf (s : Device) (l : Nat) : Device :=
  if 2 ^ 36 ≤ l then s else s.softRepair (lineChan l / 32) (lineChan l % 32) (rowOf (l % 2 ^ 25))

/-- R262: rewrite a line with zeros after the repair of its row. -/
def Device.zeroLine (s : Device) (l : Nat) : Device := (s.repairRowOf l).modMem (fun x => x.writeLine l 0 allBytes)

/-- A poison notice to the mirror partner (R437, R439): the slot, and the tick its hold targets. -/
def Device.poisonNotice (s : Device) (slot : Nat) : Device :=
  if s.fr.job.isSome && s.job.mirrorPartner != 0xFFFF then
    s.transmit (s.leasePacket (leBytes 8 slot ++ leBytes 4 (s.fr.tick + 1) ++ leBytes 4 0x20))
  else s

/-- R262: what the Curator does about an unreadable line of a declared region. -/
def Device.actOnLine (s : Device) (m l a : Nat) (r : Region) (tst : Bool) : Device :=
  if r.kind = rgReadOnly then
    if gSpace r.base = 2 then (s.memFault m 34 (memUnit m) tst).withdraw wStateLost
    else
      ((s.memFault m 12 (memUnit m) tst).modMem (fun x => { x with heldPages := addNew x.heldPages (a / 4096) })).raiseHold hMemory
  else if r.kind = rgBanked ∧ r.bank a = s.frame % 2 then (s.memFault m 34 (memUnit m) tst).withdraw wStateLost
  else if r.kind = rgAppend ∧ r.slotOff a < s.fget F.frmLenCommitLength 0 (r.slot a) then
    let n := r.slot a
    (((s.setPoison n true).memFault m 13 n tst).raiseHold hMemory).poisonNotice n
  else ((s.memFault m 34 (memUnit m) tst).zeroLine l).raiseHold hMemory

/-- The resident copy that holds a D-space offset is rewritten from the tile at its position (R262). -/
def Device.rewriteResident (s : Device) (o : Nat) : Device :=
  let n := (o - (s.dimmSpace - 6 * 2 ^ 30)) / residentSpan
  let c := n / 256
  match (List.range 272).find? (fun t => s.logicalOf c t == some (n % 16, n % 256 / 16)) with
  | some t => s.keepCopy c (n % 256) (s.tile c t) (s.sramMap c t).resTop
  | none => s

/-- A line of a canonical copy is rewritten from the HBM4 copy (R262). -/
def Device.rewriteCanonical (s : Device) (l o : Nat) : Device :=
  let o := o - (s.dimmSpace - s.dimmReserved s.job.regions)
  match ((canonicalAt s.job.regions 0).find? (fun e => decide (e.2 ≤ o ∧ o < e.2 + e.1.len))).bind (fun e =>
      s.locate (e.1.base + (o - e.2))) with
  | some (_, key) => s.modMem (fun x => x.writeLine l (x.lineAt (key / 64)) allBytes)
  | none => s

/-- R258, R262: what the Curator does about an unreadable line of the DIMM space's reservations: the spill region's record
is lost, copies are rewritten, a journal line restarts the resynchronisation. -/
def Device.actOnReserved (s : Device) (k l o : Nat) : Device :=
  let fromTop := s.dimmSpace - o
  let s := s.note { kind := kPrt, index := k / 2, prio := 2, cls := 1, cause := 34, unit := k }
  let gib := 2 ^ 30
  if fromTop ≤ gib then s.fsat F.ledDropQueue 0 0 1
  else if fromTop ≤ 6 * gib then s.rewriteResident o
  else if fromTop ≤ 6 * gib + s.boot.cat.journalGib * gib then
    if s.fget F.frmMirrorRole = 1 ∧ s.copying then s.restartCopy else s
  else s.rewriteCanonical l o

/-- UNREADABLE_LINE_REPORT: m = 0–19 an HBM4 line of channel h, m = 20–27 a line of DIMM m − 20. -/
def Device.reportLine (s : Device) (m h line : Nat) : Device :=
  let hbm := decide (m < 20)
  let l := if hbm then chanLine m h line else dimmKey (m - 20) (64 * line) / 64
  let tst := s.mem.flipped.contains l
  if !(s.mem.bad.contains l || tst) then s
  else
    let s := s.modMem (fun x => { x with flipped := x.flipped.filter (· != l) })
    let a := if hbm then s.globalOf m h (64 * line) else some (s.globalOfDimm (m - 20) (64 * line))
    match a.bind (fun a => (s.regionAt a 64).map (fun r => (a, r))) with
    | some (a, r) => s.actOnLine m l a r tst
    | none =>
      match hbm, a with
      | false, some a =>
        if s.dimmSpace < gOff a + s.dimmReserved s.job.regions + 64 then s.actOnReserved (m - 20) l (gOff a)
        else s.note { kind := memKind m, index := memIndex m, prio := 2, cls := 1, cause := 34, unit := m - 20 }
      | _, _ => s.note { kind := memKind m, index := memIndex m, prio := 2, cls := 1, cause := 34, unit := h }

def execUnreadableLineReport (m h line : Nat) (s : State) : Host.Outcome State Fault Refusal :=
  onUnits (decide (m < 28 ∧ h < 32 ∧ line < 2 ^ 33)) (fun s => s.reportLine m h line) s

/-- The bytes of a weight page in its canonical copy. (DEDUCED, log entry 35) -/
def Device.canonicalPage (s : Device) (page : Nat) : Option (List Byte) :=
  let a := 4096 * page
  ((canonicalAt s.job.regions 0).find? (fun e =>
      gSpace e.1.base == gSpace a && decide (gOff e.1.base ≤ gOff a ∧ gOff a < gOff e.1.base + e.1.len))).map (fun e =>
    let o := s.dimmSpace - s.dimmReserved s.job.regions + e.2 + (gOff a - gOff e.1.base)
    (List.range 16).flatMap (fun i =>
      match s.locateD (o + 256 * i) with
      | some (_, key) => readBytes s.mem.bytes key 256
      | none => []))

/-- PAGE_REPAIR (R263): the rows of the page's failing lines are repaired, the page is copied from its canonical copy, and nothing of it is
held any more. -/
def Device.repairPage (s : Device) (page : Nat) : Device :=
  match s.canonicalPage page with
  | none => s
  | some bs =>
    let mine (l : Nat) : Bool := (s.globalAt l).any (fun a => a / 4096 == page)
    let s := (s.mem.failing.filter mine).foldl (fun s l => s.repairRowOf l) s
    let s := (List.range 16).foldl (fun s i =>
      match s.locate (4096 * page + 256 * i) with
      | some (_, key) => s.modMem (fun x => x.writeAt key ((bs.drop (256 * i)).take 256))
      | none => s) s
    s.modMem (fun x => { x with
      heldPages := x.heldPages.filter (· != page), failing := x.failing.filter (fun l => !mine l) })

/-! ## Hard losses (R248, R253, R259) -/

/-- R253: the Curator raises a hold for the coming tick, and the device withdraws at it (R431: a standby raises
nothing). -/
def Device.hardLoss (s : Device) (cause : Nat) : Device :=
  (if s.fget F.frmMirrorRole == 2 then s else s.raiseHold hMemory).withdraw cause

/-- Hard loss of one channel. -/
def Device.loseChannel (s : Device) (m h : Nat) : Device :=
  (s.modMem (fun x => { x with lostChans := addNew x.lostChans (chanNo m h) })).note
    { kind := kMem, index := m, prio := 0, cls := 4, cause := 3 * 256 + wHbmHard, unit := h }

/-- HBM_COMMAND_TIMEOUT (R248, R251): a first expiry reissues the command, a second is a hard loss. -/
def Device.cmdTimeout (s : Device) (m h cmd : Nat) : Device :=
  let k := 65536 * chanNo m h + cmd
  let s := s.fsat F.memErrTimeout m 0 1
  if s.mem.reissued.contains k then
    ((s.modMem (fun x => { x with reissued := x.reissued.filter (· != k) })).loseChannel m h).hardLoss wHbmHard
  else
    let ts := recent s.now 1000000000 (s.mem.lateAt.get [] (chanNo m h)) ++ [s.now]
    let s := s.modMem (fun x => { x with
      reissued := addNew x.reissued k, lateAt := x.lateAt.set [] (chanNo m h) ts })
    if 10 < ts.length then s.degrade m h else s

def execHbmCommandTimeout (m h cmd : Nat) (s : State) : Host.Outcome State Fault Refusal :=
  onUnits (hchOk m h && decide (cmd < 65536)) (fun s => s.cmdTimeout m h cmd) s

/-- CHANNEL_TRAINING_LOSS (R253): one channel, or the whole stack. -/
def execChannelTrainingLoss (m : Nat) (h : Option Nat) (s : State) : Host.Outcome State Fault Refusal :=
  onUnits (hbmOk m && (h.getD 0 < 32)) (fun s =>
    match h with
    | some h => (s.loseChannel m h).hardLoss wHbmHard
    | none =>
      ((List.range 32).foldl (fun s h => s.loseChannel m h) (s.fset F.memStatusState m 0 3)).hardLoss wHbmHard) s

/-- DDR_HARD_LOSS (R259). -/
def execDdrHardLoss (dimm : Nat) (s : State) : Host.Outcome State Fault Refusal :=
  onUnits (dimmOk dimm) (fun s =>
    (((s.fset F.prtDdrStatusState (dimm / 2) (dimm % 2) 4).modMem (fun x => { x with ddrLost := true })).note
      { kind := kPrt, index := dimm / 2, prio := 0, cls := 4, cause := 3 * 256 + wDdrHard, unit := dimm }).hardLoss wDdrHard) s

/-! ## Refresh bands (R249) -/

/-- The band a reading puts a stack in: up at once to the highest whose entry it meets, down one step. -/
def nextBand (band : Nat) (t : Int) : Nat :=
  let up := if 105 ≤ t then 3 else if 96 ≤ t then 2 else if 86 ≤ t then 1 else 0
  if band < up then up
  else if band = 1 ∧ t ≤ 83 then 0
  else if band = 2 ∧ t ≤ 93 then 1
  else band

/-- A DIMM's sensor is read; refresh doubles while it reads above 85 °C (R259). -/
def Device.dimmTemp (s : Device) (k : Nat) (t : Int) : Device := s.fset F.prtDdrStatusTemp (k / 2) (k % 2) (unsigned 8 t)
def Device.refreshDoubled (s : Device) (k : Nat) : Bool := decide (85 < signed 8 (s.fget F.prtDdrStatusTemp (k / 2) (k % 2)))

/-- HBM_TEMPERATURE_READ: entering CRITICAL records an ALARM, and the device withdraws. -/
def Device.hbmTemp (s : Device) (m : Nat) (t : Int) : Device :=
  let old := s.fget F.memStatusBand m
  let new := nextBand old t
  let mx := signed 8 (s.fget F.memTempMax m)
  let s := ((s.fset F.memTempTemp m 0 (unsigned 8 t)).fset F.memTempMax m 0 (unsigned 8 (max mx t))).fset F.memStatusBand m 0 new
  if new = 3 ∧ old ≠ 3 then
    (s.note { kind := kMem, index := m, prio := 0, cls := 4, cause := 3 * 256 + wMemoryCritical, unit := m }).withdraw
      wMemoryCritical
  else s

def execHbmTemperatureRead (m : Nat) (temp : Int) (s : State) : Host.Outcome State Fault Refusal :=
  onUnits (decide (m < 28)) (fun s => if m < 20 then s.hbmTemp m temp else s.dimmTemp (m - 20) temp) s

/-! ## Migration (R252) -/

/-- MIGRATION: the spare is trained, and from now on writes go to both channels. -/
def Device.migrate (s : Device) (m h : Nat) : Device :=
  if s.fget F.memChanState m h ≠ chDegraded || s.mem.migrating.get 0 (chanNo m h) != 0 then s
  else
    match (List.range 32).find? (fun i => s.fget F.memChanState m i == chSpare) with
    | none => s
    | some sp =>
      let s := (s.fset F.memChanState m sp chMigrating).setFlag F.memStatusMigrating m 0 true
      let s := s.fset F.memStatusSpares m 0 (s.fget F.memStatusSpares m - 1)
      s.modMem (fun x => { x with migrating := x.migrating.set 0 (chanNo m h) (chanNo m sp + 1) })

def execMigration (m h : Nat) (s : State) : Host.Outcome State Fault Refusal :=
  onUnits (hchOk m h) (fun s => s.migrate m h) s

/-- Copy what a channel holds below the controller area to another (R252). A line unreadable there stays so in the
copy. -/
def Memory.copyChannel (x : Memory) (old new : Nat) : Memory :=
  { x with
    bytes := NMap.copy 0 x.bytes x.bytes (old * 2 ^ 31) (new * 2 ^ 31) 1491615488
    bad := x.bad.filter (fun l => lineChan l != new) ++
      (x.bad.filter (fun l => lineChan l == old)).map (fun l => lineInChan l new) }

/-- The inactive half takes the active half with one physical channel replaced (R242); while a switch to it is pending, it keeps what
it holds otherwise. -/
def Device.writeHalf (s : Device) (old new : Nat) : Device :=
  let half := s.fget F.memCmtCtlHalf 0
  let from_ := if s.flag F.memCmtCtlPending 0 then 1 - half else half
  (List.range s.nAll).foldl (fun s j =>
    let e := s.rd .memCmt 0 (2048 * from_ + j)
    let e := if s.cmtStack j = old / 32 ∧ s.cmtChan j = old % 32 then setBits e 0 5 (new % 32) else e
    s.wr .memCmt 0 (2048 * (1 - half) + j) e) s

/-- MEM_CMT_CTL is identical in every MEM block (R266). -/
def Device.setCmt (s : Device) (f : Fld) (v : Nat) : Device := (List.range 20).foldl (fun s m => s.fset f m 0 v) s

/-- MIGRATION_COPY_COMPLETE. -/
def Device.migrated (s : Device) (m : Nat) : Device :=
  match s.mem.migrating.find? (fun e => e.1 / 32 == m && !s.mem.switching.contains e.1 && !s.mem.switched.contains e.1) with
  | none => s
  | some (old, v) =>
    let s := s.modMem (fun x => { x.copyChannel old (v - 1) with switching := x.switching ++ [old] })
    (s.writeHalf old (v - 1)).setCmt F.memCmtCtlPending 1

def execMigrationCopyComplete (m : Nat) (s : State) : Host.Outcome State Fault Refusal :=
  onUnits (hbmOk m) (fun s => s.migrated m) s

/-- At a tick a pending switch of halves takes effect (R242). (DEDUCED, log entry 71) -/
def Device.switchHalves (s : Device) : Device :=
  if s.flag F.memCmtCtlPending 0 then
    ((s.setCmt F.memCmtCtlHalf (1 - s.fget F.memCmtCtlHalf 0)).setCmt F.memCmtCtlPending 0).modMem (fun x => { x with
      switched := x.switched ++ x.switching, switching := [] })
  else s

/-- After the switch, writes to the old channel stop and it leaves service (R252). (DEDUCED, log entry 71) -/
def Device.endMigrations (s : Device) : Device :=
  s.mem.switched.foldl (fun s old =>
    let new := s.mem.migrating.get 0 old - 1
    let m := old / 32
    let k := s.fget F.memChanLogical m (old % 32)
    let s := ((s.fset F.memChanState m (old % 32) chDeacc).fset F.memChanLogical m (old % 32) 0).fset F.memChanState m
      (new % 32) chInService
    let s := (s.fset F.memChanLogical m (new % 32) k).modMem (fun x => { x with
      migrating := x.migrating.del old, switched := x.switched.filter (· != old) })
    ((s.setFlag F.memStatusMigrating m 0 (s.mem.migrating.any (fun e => e.1 / 32 == m))).useSpare 4).note
      { kind := kMem, index := m, prio := 2, cls := 3, cause := 4, unit := new % 32 }) s

/-! ## DDR5 (R259) -/

/-- An error of a DIMM's line is correctable: on x4 DIMMs when it is confined to one DRAM device, on x8 DIMMs when it is one bit. -/
def Device.ddrCorrectable (s : Device) (k devices bits : Nat) : Bool :=
  if s.flag F.prtDdrStatusX8 (k / 2) (k % 2) then bits == 1 else devices == 1

/-- A line of a DIMM read with an error: how many DRAM devices it touches, and how many bits. -/
def Device.ddrError (s : Device) (k line devices bits : Nat) : Device :=
  if s.ddrCorrectable k devices bits then s.fsat F.prtDdrErrCorr (k / 2) (k % 2) 1
  else s.uncorrected (dimmKey k (64 * line) / 64)

/-- PATROL_SCRUB: a pass over the DIMM space is complete, and these lines (DIMM, line, DRAM devices, bits) showed errors. -/
def execPatrolScrub (s : State) (errors : List (Nat × Nat × Nat × Nat) := []) : Host.Outcome State Fault Refusal :=
  onUnits (errors.all (fun e => dimmOk e.1 && decide (e.2.1 < 2 ^ 32 ∧ 1 ≤ e.2.2.1 ∧ 1 ≤ e.2.2.2))) (fun s =>
    errors.foldl (fun s e => s.ddrError e.1 e.2.1 e.2.2.1 e.2.2.2) (s.modMem (fun x => { x with scrubs := x.scrubs + 1 }))) s

end Sys2Proof.Machine
end

