-- ==== Sys2Proof/Machine/Clocks.lean ====
section
/-! DEFINITION. Vertical lane groups (R37, R426–R429), clock domains, crossings, resets, stretch and frequency steps
(R350–R366). -/

namespace Sys2Proof.Machine

/-! ## Vertical lane groups -/

/-- A compute bus's transmit group or a receive group leaves service: capacities and the running checks follow
(R190, R193, R429). -/
def Device.dropGroup (s : Device) (c g : Nat) : Device :=
  let s := s.modDie c (fun y => { y with groupsOut := addNew y.groupsOut g })
  let s :=
    if g < gRx then
      let b := 8 * c + g / 12
      (s.fset F.plnBusTxGroups (busQuad b) (busLocal b) (s.txGroups b - 1)).publishBus b
    else s.publishSite c
  if gCtl ≤ g ∧ (List.range 4).all (fun i => s.groupOut c (gCtl + i)) then s.loseStack c else s

/-- The spare of a row can no longer serve (R429): it is not accessioned, and its row cannot be repaired (R129). -/
def Device.spareLost (s : Device) (c t : Nat) : Device :=
  if s.fget F.tileIdState (272 * c + t) = tsSpare then
    (s.setFlag F.cmpSpareSpareOk c (t / 17) false).fset F.tileIdState (272 * c + t) 0 tsDeacc
  else s

/-- R429: a group is exhausted. -/
def Device.exhaust (s : Device) (c g : Nat) : Device :=
  let s := s.note { kind := kCmp, index := c, prio := 1, cls := 3, cause := 5, unit := g }
  if gSram ≤ g then (s.failTile c ((g - gSram) / 16)).spareLost c ((g - gSram) / 16) else (s.dropGroup c g).recheck

/-- A spare lane of a group serves in a failed one's place: an accession (R415, R423). -/
def Device.accedeLane (s : Device) (c g : Nat) : Device :=
  (s.useSpare 3).note { kind := kCmp, index := c, prio := 2, cls := 3, cause := 4, unit := g }

/-- A lane of a group fails: a FAULT; the fifth failure exhausts the group (R415, R426, R429). An idle lane of its group takes its place, in
the alignment of its crossing at once (R355), else at the next tick (R423, R428). -/
def Device.loseLane (s : Device) (c g l : Nat) (now : Bool) : Device :=
  let n := (s.die c).lost.get 0 g + 1
  let s := s.takeOut c g l
  if n ≤ 4 then
    let s := s.note { kind := kCmp, index := c, prio := 1, cls := 3, cause := 15, unit := g, detail := l }
    if now then s.accedeLane c g else s.modDie c (fun y => { y with lanesDue := y.lanesDue ++ [g] })
  else if n = 5 then s.exhaust c g
  else s

/-- A lane in service has been swept: it samples at its window's centre, or fails (R355, R426). -/
def Device.sweepLane (s : Device) (c g l sweep : Nat) (now : Bool) : Device :=
  if s.laneOut c g l || decide (68 ≤ l) then s
  else if sweepOk sweep then s.setVDelay c g l sweep
  else s.loseLane c g l now

/-- The group of a stack's n-th test slot: stack-to-Plinth and logic-to-SRAM groups alternate, each kind in rotation (R428). The rule does not
say which kind comes first. (DESIGN CHOICE, log entry 126) -/
def slotGroup (n : Nat) : Nat := if n % 2 = 0 then n / 2 % 200 else gSram + n / 2 % 4352

/-- TEST_SLOT (R428) of the group whose turn it is: a slot begins, if the group has a healthy idle lane; the lanes' sweeps show what is
given here. -/
def Device.testSlot (s : Device) (c g : Nat) (sweeps : List (Nat × Nat)) : Device :=
  if g ≠ slotGroup (s.die c).testNext then s
  else
    let s := s.modDie c (fun y => { y with testNext := y.testNext + 1 })
    if (s.idleLanes c g).isEmpty then s
    else
      s.modDie c (fun y => { y with
        slot := some { group := g, sweeps := sweeps, left := (List.range 68).filter (fun l => !y.lanesOut.contains (vLane g l)) } })

/-- The lanes freed in the frame that ends have been tested: those that pass are the group's idle lanes, one that fails is out, and what
carries its data stays in service (R428). -/
def Device.endTests (s : Device) (c : Nat) (t : TestSlot) : Device :=
  t.under.foldl (fun s l =>
    match t.sweeps.find? (fun e => e.1 == l) with
    | some e => s.sweepLane c t.group l e.2 true
    | none => s) s

/-- At a tick a slot moves the data of its next untested lanes, as many as its group has healthy idle lanes, onto these, in its tick cycle;
the lanes so freed are idle and are tested during the frame. In which order the lanes come the rule does not say.
(DESIGN CHOICE, log entry 126) -/
def Device.rotate (s : Device) (c : Nat) : Device :=
  match (s.die c).slot with
  | none => s
  | some t =>
    let s := s.endTests c t
    let idle := s.idleLanes c t.group
    let left := t.left.filter (fun l => !t.under.contains l && !s.laneOut c t.group l)
    let freed := (left.filter (fun l => !idle.contains l)).take idle.length
    if freed.isEmpty || s.groupOut c t.group then s.modDie c (fun y => { y with slot := none })
    else
      s.modDie c (fun y => { y with
        slot := some { t with left := left.filter (fun l => !freed.contains l), under := freed }
        idleLanes := y.idleLanes.set spareLanes4 t.group (freed ++ idle.drop freed.length) })

/-- Vertical lanes at a tick (R423, R428): spares take the place of failed lanes, and test slots go on. -/
def Device.tickLanes (s : Device) : Device :=
  (List.range 16).foldl (fun s c =>
    let due := (s.die c).lanesDue
    let s := due.foldl (fun s g => s.accedeLane c g) (s.modDie c (fun y => { y with lanesDue := [] }))
    s.rotate c) s

def execTestSlot (c group : Nat) (sweeps : List (Nat × Nat)) (s : State) : Host.Outcome State Fault Refusal :=
  onUnits (stackOk c && decide (group < 4552)) (fun s => s.testSlot c group sweeps) s

/-! ## Domains -/

/-- CLK_DOM states and results (R369). -/
def cdSteady : Nat := 0
def cdStepping : Nat := 1
def cdSuspended : Nat := 2
def cdReset : Nat := 3
def cdIsolated : Nat := 4
def crDone : Nat := 1
def crTimeout : Nat := 2
def crSuperseded : Nat := 3

def Device.domStep (s : Device) (c : Nat) : Nat := s.fget F.clkDomStep 0 c
def Device.domState (s : Device) (c : Nat) : Nat := s.fget F.clkDomState 0 c

/-- A stretch is asserted (R360). -/
def Die.stretched (x : Die) : Bool := x.stretch != 0 || x.testLeft != 0

/-- STATE and STRETCH follow: STEPPING while a change runs, SUSPENDED while its timer is suspended (R363). -/
def Device.showDom (s : Device) (c : Nat) : Device :=
  let x := s.die c
  let s := s.setFlag F.clkDomStretch 0 c x.stretched
  if s.domState c = cdReset ∨ s.domState c = cdIsolated then s
  else s.fset F.clkDomState 0 c (if x.changeTo.isNone then cdSteady else if x.suspended then cdSuspended else cdStepping)

/-- The step timer is suspended (R363). -/
def Device.suspend (s : Device) (c : Nat) : Device := (s.modDie c (fun y => { y with suspended := true })).showDom c

/-- Set the frequency of a stack (R350, R369). -/
def Device.setStep (s : Device) (c k : Nat) : Device := (s.fset F.clkDomStep 0 c k).fset F.clkDomMhz 0 c (750 + 25 * k)

/-- The regulator of a stack is set to the voltage of a STEP (R362). -/
def Device.setVolt (s : Device) (c k : Nat) : Device := s.modDie c (fun y => { y with volt := k, lowerIn := 0 })

/-- Upward the voltage leads: while the timer runs, the regulator is set to the STEP that comes next (R362, R363). -/
def Device.leadVolt (s : Device) (c : Nat) : Device :=
  match (s.die c).changeTo with
  | some t => if s.domStep c < t ∧ !(s.die c).suspended then s.setVolt c (s.domStep c + 1) else s
  | none => s

/-- A change ends. -/
def Device.endChange (s : Device) (c result : Nat) : Device :=
  ((s.modDie c (fun y => { y with changeTo := none })).fset F.clkDomResult 0 c result).showDom c

/-- A change is given up: the regulator returns to the voltage of the STEP reached (R364). -/
def Device.abandonChange (s : Device) (c : Nat) : Device := (s.endChange c crTimeout).setVolt c (s.domStep c)

/-- At a tick a newly written TARGET takes effect (R362). -/
def Device.startChange (s : Device) (c : Nat) : Device :=
  if !(s.die c).newTarget then s
  else
    let t := s.fget F.clkDomTarget 0 c
    let s := if (s.die c).changeTo.isSome then s.fset F.clkDomResult 0 c crSuperseded else s
    let s := s.modDie c (fun y => { y with newTarget := false, changeTo := some t })
    if s.domStep c = t then (s.endChange c crDone).setVolt c t else (s.showDom c).leadVolt c

/-- FREQUENCY_MOVE (R362, R363): one step toward TARGET, unless the timer is suspended: up, once the regulator has the voltage of the new
STEP, and then it is set to the next one's; down, at the start of the interval, 2 µs before the regulator follows. -/
def Device.freqMove (s : Device) (c : Nat) : Device :=
  match (s.die c).changeTo with
  | none => s
  | some t =>
    if (s.die c).suspended || s.domState c == cdReset || s.domState c == cdIsolated then s
    else
      let k := s.domStep c
      if k < t then
        if (s.die c).volt < k + 1 then s
        else
          let s := s.setStep c (k + 1)
          if k + 1 = t then s.endChange c crDone else s.leadVolt c
      else
        let s := ((s.setVolt c k).setStep c (k - 1)).modDie c (fun y => { y with lowerIn := 2000 })
        if k - 1 = t then s.endChange c crDone else s

def execFrequencyMove (c : Nat) (s : State) : Host.Outcome State Fault Refusal :=
  onUnits (stackOk c) (fun s => s.freqMove c) s

/-- FREQUENCY_CHANGE_TIMEOUT (R364). -/
def execFrequencyChangeTimeout (c : Nat) (s : State) : Host.Outcome State Fault Refusal :=
  onUnits (stackOk c) (fun s =>
    if (s.die c).changeTo.isSome then
      (s.abandonChange c).note { kind := kClk, prio := 2, cls := 1, cause := 27, unit := c }
    else s) s

/-- SUSPENSION_END (R363): no suspending condition holds. -/
def execSuspensionEnd (c : Nat) (s : State) : Host.Outcome State Fault Refusal :=
  onUnits (stackOk c) (fun s =>
    if (s.die c).stretched || s.flag F.clkDomDiv4 0 c || (s.die c).isolated then s
    else ((s.modDie c (fun y => { y with suspended := false })).showDom c).leadVolt c) s

/-! ## Stretch (R360) -/

/-- A stretch begins: it is counted. -/
def Device.countStretch (s : Device) (c : Nat) : Device :=
  if (s.die c).stretched then s else s.fsat F.clkStretchEvents 0 c 1

/-- DROOP: the lowest detector reads `permille` below setpoint. -/
def Device.droop (s : Device) (c permille : Nat) : Device :=
  let k := if 60 < permille then 2 else if 30 < permille then 1 else 0
  if k = 0 then s else ((s.countStretch c).modDie c (fun y => { y with stretch := k })).suspend c

def execDroop (c permille : Nat) (s : State) : Host.Outcome State Fault Refusal :=
  onUnits (stackOk c) (fun s => s.droop c permille) s

/-- STRETCH_RELEASE: every detector has lain within 2 % for 16 cycles. -/
def execStretchRelease (c : Nat) (s : State) : Host.Outcome State Fault Refusal :=
  onUnits (stackOk c) (fun s => (s.modDie c (fun y => { y with stretch := 0 })).showDom c) s

/-- PERIODIC_STRETCH (R506): 1.25 × for LEN cycles on the chosen stack. -/
def execPeriodicStretch (c : Nat) (s : State) : Host.Outcome State Fault Refusal :=
  onUnits (stackOk c) (fun s =>
    if s.flag F.tstCtlActive && s.flag F.tstStretchEn && s.fget F.tstStretchStack == c then
      ((s.countStretch c).modDie c (fun y => { y with testLeft := 960000 * s.fget F.tstStretchLen })).suspend c
    else s) s

/-! ## Stack reset and return (R358, R359) -/

/-- What a reset of the logic layer leaves of a tile: its SRAM layer. The spec does not say that the anchor table is lost, nor that it is
reloaded: it stays. (DEDUCED, log entry 103) -/
def Tile.logicReset (x : Tile) : Tile :=
  { sram := x.sram, bad := x.bad, written := x.written, anchors := x.anchors, badLines := x.badLines, lastBadLines := x.lastBadLines
    outputsIdle := x.outputsIdle }

/-- Tile registers that a reset of the logic layer loses: all but TILE_ID, TILE_SRAM_MAP, TILE_CTL, and TILE_FAULT and TILE_REMOTE, whose
counts run since the load and since power-up (R134, R345).
(DEDUCED, log entry 103) -/
def lostTileReg (c o : Nat) : Bool :=
  let b := Block.base .cmp c
  decide (b + 0x00800000 ≤ o ∧ o < b + 0x02000000 ∧ 0x30 ≤ o % 0x10000)

/-- The site of a stack is isolated: cells on their way to it are lost (R198, R358). -/
def Device.isolate (s : Device) (c : Nat) : Device :=
  let lost := s.pln.flight.flatMap (fun e => (e.2.filter (fun x => x.dst == c)).map (fun x => (e.1 / 64, x)))
  let s := s.modPln (fun p => { p with
    flight := p.flight.filterMap (fun e =>
      let l := e.2.filter (fun x => x.dst != c)
      if l.isEmpty then none else some (e.1, l)) })
  let s := lost.foldl (fun s x => s.loseCell c x.1 (some x.2)) s
  s.modDie c (fun y => { y with isolated := true })

/-- STACK_RESET: the logic layer of a stack in service is reset. (DEDUCED, log entry 103) -/
def Device.resetStack (s : Device) (c : Nat) : Device :=
  if (s.die c).isolated then s
  else
    let s := if (s.die c).changeTo.isSome then s.abandonChange c else s
    let s := ((s.fset F.clkDomState 0 c cdIsolated).setFlag F.clkDomLocked 0 c false).fset F.clkXingState 0 c 0
    let s : Device := { s with
      tiles := s.tiles.map (fun e => if e.1 / 272 = c then (e.1, e.2.logicReset) else e)
      regs := s.regs.filter (fun e => !lostTileReg c e.1)
      reqs := s.reqs.filter (fun r => !(s.tileReqs c r.t).contains r)
      gone := s.gone ++ s.reqs.filter (fun r => (s.tileReqs c r.t).contains r) }
    let s := ((s.isolate c).modDie c (fun y => { y with
        engineIn := [], sendQ := [], suspended := true, retimed := false, jogsRetimed := [], adapter := [], slot := none })).modFr (fun f => { f with fault := true })
    (s.note { kind := kClk, prio := 1, cls := 2, cause := 20, unit := c }).startWork (workStack c)

def execStackReset (c : Nat) (s : State) : Host.Outcome State Fault Refusal :=
  onUnits (stackOk c) (fun s => s.resetStack c) s

/-- CLOCK_PRESENT: the logic layer is held in reset while its PLL locks. -/
def execClockPresent (c : Nat) (s : State) : Host.Outcome State Fault Refusal :=
  onUnits (stackOk c) (fun s =>
    if s.domState c = cdIsolated ∧ s.fr.work.contains (workStack c) then s.fset F.clkDomState 0 c cdReset else s) s

/-- Fixed latency of a crossing (R355). -/
def xLatency (x : Nat) : Nat := if x < 16 then 12 else 8

/-- Buffer e of a crossing, 2 × lane group + direction. -/
def xKey (x e : Nat) : Nat := 65536 * x + e

/-- The elastic buffers of a crossing have no slipped ones among them. -/
def Device.clearSlips (s : Device) (x : Nat) : Device :=
  s.modPln (fun p => { p with elastic := p.elastic.filter (fun e => e.1 / 65536 != x) })

/-- The entries in an elastic buffer (R354–R356): none before its crossing is ALIGNED, then 4 of 8, until it slips to 0 or 8. -/
def Device.occupancy (s : Device) (x e : Nat) : Nat :=
  match s.pln.elastic.get 0 (xKey x e) with
  | 0 => if s.carries x then 4 else 0
  | n + 1 => n

/-- A crossing is ALIGNED (R355): its buffers half full, and the link retimers of a stack aligned with it (R353). -/
def Device.aligned (s : Device) (x : Nat) : Device :=
  let s := if x < 16 then s.modDie x (fun y => { y with retimed := true }) else s
  (((s.clearSlips x).fset F.clkXingState 0 x 2).fset F.clkXingLatency 0 x (xLatency x)).fsat F.clkXingAligns 0 x 1

/-- The route memory of a stack's tiles is reloaded from the resident copy (R359). -/
def Device.reloadRoutes (s : Device) (c : Nat) : Device :=
  if s.fr.job.isNone then s
  else (List.range 256).foldl (fun s i =>
    s.modTile c (s.physicalOf c (i % 16) (i / 16)) (fun x => { x with route := routeOf (s.residentCopy c i) })) s

/-- STACK_REJOIN: its PLL is locked, its crossing and link retimers are aligned; its registers are rewritten. -/
def Device.rejoinStack (s : Device) (c : Nat) : Device :=
  if s.domState c ≠ cdReset ∨ !s.flag F.clkDomLocked 0 c ∨ !s.carries c ∨ !(s.die c).retimed ∨ s.coreless then s
  else
    let s := s.fset F.clkDomState 0 c cdSteady
    ((s.reloadRoutes c).modDie c (fun y => { y with isolated := false })).showDom c |>.endWork (workStack c)

def execStackRejoin (c : Nat) (s : State) : Host.Outcome State Fault Refusal :=
  onUnits (stackOk c) (fun s => s.rejoinStack c) s

/-- STACK_PLL_TIMEOUT (R359, R430): the stack is lost. -/
def execStackPllTimeout (c : Nat) (s : State) : Host.Outcome State Fault Refusal :=
  onUnits (stackOk c) (fun s =>
    if s.domState c = cdReset ∧ !s.flag F.clkDomLocked 0 c then (s.endWork (workStack c)).loseStack c else s) s

/-! ## Crossings (R354–R356) -/

/-- A port die is lost with its crossing: its lanes leave service and the running checks follow (R355, R160). -/
def Device.losePort (s : Device) (p : Nat) : Device :=
  let s := (List.range 17).foldl (fun s j => s.fset F.prtLaneState p j lFailed) s
  ((s.fset F.glbSiteStatus 0 (36 + p) siDeacc).note
    { kind := kPrt, index := p, prio := 0, cls := 4, cause := 5, unit := 36 + p }).publishLanes.recheck

/-- The running image sends cells over a crossing. -/
def Device.usesXing (s : Device) (x : Nat) : Bool :=
  s.job.maps.any (fun m => m.any (fun e => e.dsts.any (fun t => (bridges (busQuad e.bus) (siteQuad t)).contains x)))

/-- A crossing fails (R355, R356): with a bridge no die leaves, and a device whose job crosses it withdraws.
(DEDUCED, log entries 83 and 103) -/
def Device.failCrossing (s : Device) (x : Nat) : Device :=
  let s := s.fset F.clkXingState 0 x 3
  if x < 16 then (s.isolate x).loseStack x
  else if x < 20 then s.losePort (x - 16)
  else
    let s := s.note { kind := kClk, prio := 0, cls := 4, cause := 5, unit := x }
    if s.running && s.usesXing x then s.withdraw wResources else s

/-- A lane of a port die's attachment or of a bridge has been swept. The spec gives these groups no number of spares: whether a group is
complete shows in the verification. (DESIGN CHOICE, log entry 136) -/
def Device.sweepXLane (s : Device) (x g l sweep : Nat) : Device :=
  let k := 65536 * x + 68 * g + l
  if 68 ≤ l then s
  else if sweepOk sweep then
    let w := sweepWindow sweep
    s.modPln (fun p => { p with xDelay := p.xDelay.set 16 k (w.1 + w.2 / 2), xLanesOut := p.xLanesOut.filter (· != k) })
  else s.modPln (fun p => { p with xLanesOut := addNew p.xLanesOut k })

/-- Lane groups of a crossing (R354). -/
def xGroups (x : Nat) : Nat := if x < 16 then 200 else if x < 20 then 8 else 32

/-- CROSSING_ALIGNMENT: a crossing that is not aligned has been swept, by lane group and lane: failed lanes take spares; once verified it is
ALIGNED. Both sides' PLLs are locked then: that of a stack in reset has locked, and one without a clock has nothing to align (R355, R359). -/
def Device.alignCrossing (s : Device) (x : Nat) (sweeps : List (Nat × Nat × Nat)) (verified : Bool) : Device :=
  if 2 ≤ s.fget F.clkXingState 0 x ∨ (x < 16 ∧ s.domState x = cdIsolated) then s
  else
    let s := if x < 16 ∧ s.domState x = cdReset then s.setFlag F.clkDomLocked 0 x true else s
    let s := (sweeps.filter (fun e => decide (e.1 < xGroups x))).foldl
      (fun s e => if x < 16 then s.sweepLane x e.1 e.2.1 e.2.2 true else s.sweepXLane x e.1 e.2.1 e.2.2) s
    if verified then (s.aligned x).modPln (fun p => { p with aligns := p.aligns.del x })
    else s.fset F.clkXingState 0 x 1

def execCrossingAlignment (x : Nat) (sweeps : List (Nat × Nat × Nat)) (verified : Bool) (s : State) :
    Host.Outcome State Fault Refusal :=
  onUnits (xingOk x) (fun s => s.alignCrossing x sweeps verified) s

/-- ALIGNMENT_ATTEMPT_TIMEOUT: the third failed attempt fails the crossing. -/
def execAlignmentAttemptTimeout (x : Nat) (s : State) : Host.Outcome State Fault Refusal :=
  onUnits (xingOk x) (fun s =>
    if 2 ≤ s.fget F.clkXingState 0 x then s
    else
      let n := s.pln.aligns.get 0 x + 1
      if n < 3 then
        (s.modPln (fun p => { p with aligns := p.aligns.set 0 x n })).fset F.clkXingState 0 x 1
      else (s.modPln (fun p => { p with aligns := p.aligns.del x })).failCrossing x) s

/-- A slip of a crossing is the third within 1 s (R356). -/
def Device.thirdSlip (s : Device) (x : Nat) : Bool := decide (2 ≤ (recent s.now 1000000000 (s.pln.slipAt.get [] x)).length)

/-- SLIP of an elastic buffer, which stands at 0 or, if `full`, at 8 and delivers no more: counted; a stack is reset, another crossing
realigned under a hold; the third within 1 s fails it. The entry lost or repeated shows in the blocks that then arrive.
(DEDUCED, log entry 103; DESIGN CHOICE, log entry 136) -/
def Device.slip (s : Device) (x buffer : Nat) (full : Bool) : Device :=
  let third := s.thirdSlip x
  let s := (s.fsat F.clkXingSlips 0 x 1).modPln (fun p => { p with
    elastic := p.elastic.set 0 (xKey x buffer) (if full then 9 else 1)
    slipAt := p.slipAt.set [] x (recent s.now 1000000000 (p.slipAt.get [] x) ++ [s.now]) })
  if third then s.failCrossing x
  else if x < 16 then s.resetStack x
  else (s.fset F.clkXingState 0 x 1).raiseHold hCrossing

def execSlip (x : Nat) (buf : Nat × Bool) (s : State) : Host.Outcome State Fault Refusal :=
  onUnits (xingOk x && decide (buf.1 < 2 * xGroups x)) (fun s => s.slip x buf.1 buf.2) s

/-! ## Reference and tick holdover (R365, R366) -/

/-- REFCLK_INVALID. -/
def execRefclkInvalid (s : State) : Host.Outcome State Fault Refusal :=
  onDevice (fun s =>
    ((((s.setFlag F.clkStatusRef 0 0 true).setFlag F.clkStatusRefOk 0 0 false).fsat F.clkStatusRefLosses 0 0 1).note
      { kind := kClk, prio := 2, cls := 1, cause := 18 })) s

/-- REFCLK_RESTORED. -/
def execRefclkRestored (s : State) : Host.Outcome State Fault Refusal :=
  onDevice (fun s =>
    if s.flag F.clkStatusRef then
      ((s.setFlag F.clkStatusRef 0 0 false).setFlag F.clkStatusRefOk 0 0 true).note
        { kind := kClk, prio := 2, cls := 1, cause := 18 }
    else s) s

/-- A field of the same value in all four port dies. -/
def Device.setPorts (s : Device) (f : Fld) (v : Nat) : Device := (List.range 4).foldl (fun s p => s.fset f p 0 v) s

/-- PRT_TICK states (R312). -/
def tkUnlocked : Nat := 0
def tkLocked : Nat := 1
def tkHoldover : Nat := 2

/-- TICK_HOLDOVER: never the timing master. -/
def execTickHoldover (s : State) : Host.Outcome State Fault Refusal :=
  onDevice (fun s =>
    if s.fget F.prtTickState = tkLocked ∧ !s.flag F.prtStatusMaster then
      (((s.setPorts F.prtTickState tkHoldover).setFlag F.clkStatusTickHo 0 0 true).modFab
        (fun f => { f with hoSince := s.now })).note { kind := kClk, prio := 2, cls := 1, cause := 19 }
    else s) s

/-- Milliseconds of the tick holdover in force, or of the last one (R368). -/
def Device.hoMs (s : Device) : Nat :=
  if s.flag F.clkStatusTickHo then min 0xFFFF ((s.now - s.fab.hoSince) / 1000000) else s.fget F.clkStatusHoMs

/-- Tick holdover ends. -/
def Device.endHoldover (s : Device) : Device :=
  (s.fset F.clkStatusHoMs 0 0 s.hoMs).setFlag F.clkStatusTickHo 0 0 false

/-- Tick holdover ends with the device's withdrawal (R366): its tick is no longer disciplined. (DEDUCED, log entry 70) -/
def Device.tickLost (s : Device) : Device := ((s.setPorts F.prtTickState tkUnlocked).endHoldover).withdraw wTickLost

/-- TICK_HOLDOVER_TIMEOUT. -/
def execTickHoldoverTimeout (s : State) : Host.Outcome State Fault Refusal :=
  onDevice (fun s => if s.flag F.clkStatusTickHo then s.tickLost else s) s

end Sys2Proof.Machine
end

