-- ==== Sys2Proof/Machine/Mailbox.lean ====
section
/-! DEFINITION. Agents of C-space, mailboxes, waiting lists and doorbells (R478–R482). -/

namespace Sys2Proof.Machine

/-! ## Agents -/

/-- SRC and SENG by which an agent is known (R289, R482): local agents under this device's number. -/
def Device.agentId (s : Device) : Agent → Nat × Nat
  | .curator => (s.self, 132)
  | .mgmt c => (s.self, 240 + c)
  | .gateway => (s.self, 133)
  | .host _ => (s.self, 133)
  | .device src seng => (src, seng)
  | .thread c t _ => (s.self, s.sengOf c t)

/-- A host, directly or through a gateway's agent (R305, R484). -/
def isHostAgent : Agent → Bool
  | .host _ => true
  | .gateway => true
  | .device _ seng => seng == 133
  | _ => false

/-- A frame program's thread, of this device or of another. -/
def isThreadAgent : Agent → Bool
  | .thread _ _ _ => true
  | .device _ seng => decide (seng < 128)
  | _ => false

def isCuratorAgent : Agent → Bool
  | .curator => true
  | _ => false

/-- An access completes: the agent hears whether it was accepted, and a read its value (R14). -/
def Device.answer (s : Device) (g : Agent) (r : Bool × Word) : Device := s.emit (.response g r.1 r.2)

/-! ## Reaching hosts (R304) -/

/-- The HOST lane by which a node is reached: the lowest UP whose peer it is, else the lowest UP (behind a switch). -/
def Device.hostLane (s : Device) (node : Nat) : Option Nat :=
  let up := (List.range 64).filter (fun z => s.laneRole z == rHost && s.laneState z == lUp)
  (up.find? (fun z => s.fget F.prtLanePeer (z / 16) (z % 16) == node)).orElse (fun _ => up.head?)

/-- Send a packet to a host node; with no HOST lane up it is lost, and the host's own retry recovers it. -/
def Device.toHost (s : Device) (node : Nat) (p : Pkt) : Device :=
  match s.hostLane node with
  | some z => s.sendOn z p
  | none => s

/-! ## Mailboxes -/

def Device.mbxFull (s : Device) (n : Nat) : Bool := s.flag F.mbxStatFull 0 n
def Device.mbox (s : Device) (n : Nat) : Mbx := s.ctl.mbx.get {} n
def Device.modMbox (s : Device) (n : Nat) (f : Mbx → Mbx) : Device :=
  s.modCtl (fun x => { x with mbx := x.mbx.upd {} n f })

/-- With no job loaded only the Curator and hosts reach the MBX block (R478). -/
def Device.mbxReach (s : Device) (g : Agent) : Bool := decide (2 ≤ s.jobState) || isCuratorAgent g || isHostAgent g

/-- C-space address of a mailbox of a device. -/
def mbxAddr (dev n : Nat) : Nat := gAddr dev 3 (0x30000 + 8 * n)

/-- A remote doorbell (R481). -/
def Device.bellPacket (s : Device) (dst seng n : Nat) : Pkt :=
  sealPkt { blankPkt with
    dst := dst, src := s.self, epoch := s.epoch, typ := tMbxReject, seng := seng, addr := mbxAddr s.self n,
    xfer := 0xFFFFFF }

/-- A gateway agent passes a doorbell on to the hosts it proxied and saw rejected there (R481). -/
def Device.bellHosts (s : Device) (addr : Nat) : Device :=
  let mine := s.ctl.proxied.filter (fun e => mbxAddr e.2.1 e.2.2 == addr)
  mine.foldl (fun s e => s.toHost e.1 (sealPkt { blankPkt with
      dst := e.1, src := e.2.1, epoch := s.epoch, typ := tMbxReject, seng := 133, addr := addr, xfer := 0xFFFFFF }))
    (s.modCtl (fun x => { x with proxied := x.proxied.filter (fun e => mbxAddr e.2.1 e.2.2 != addr) }))

/-- Ring one waiter. -/
def Device.ringOne (s : Device) (n : Nat) (w : Nat × Nat) : Device :=
  if w.1 ≠ s.self then s.transmit (s.bellPacket w.1 w.2 n)
  else if w.2 = 133 then (s.emit (.doorbell .gateway n)).bellHosts (mbxAddr s.self n)
  else if 240 ≤ w.2 then s.emit (.doorbell (.mgmt (w.2 - 240)) n)
  else s.emit (.doorbell .curator n)

/-- The doorbell of a mailbox: every waiter in order of listing, then the list is empty (R481). -/
def Device.ringBell (s : Device) (n : Nat) : Device :=
  let l := (s.mbox n).waiters
  l.foldl (fun s w => s.ringOne n w) ((s.modMbox n (fun b => { b with waiters := [] })).fset F.mbxStatWaiters 0 n 0)

/-- A rejected write joins the waiting list of at most 8, unless a stream engine's (R481). -/
def Device.joinWaiters (s : Device) (n : Nat) (w : Nat × Nat) : Device :=
  let l := (s.mbox n).waiters
  if w.2 < 128 ∨ l.contains w ∨ 8 ≤ l.length then s
  else (s.modMbox n (fun b => { b with waiters := l ++ [w] })).fset F.mbxStatWaiters 0 n (l.length + 1)

/-- R479: a write deposits its word, or is rejected. -/
def Device.mbxWrite (s : Device) (g : Agent) (n : Nat) (v : Word) : Bool × Device :=
  let w := s.agentId g
  if !s.mbxReach g then (false, s)
  else if s.mbxFull n then (false, (s.fsat F.mbxStatRejects 0 n 1).joinWaiters n w)
  else
    let s := ((s.modMbox n (fun b => { b with word := v })).setFlag F.mbxStatFull 0 n true).fset F.mbxStatWriter 0 n w.1
    (true, (s.fset F.mbxStatWseng 0 n w.2).finc F.mbxStatAccepts 0 n 1)

/-- FULL clears and the doorbell rings. -/
def Device.mbxClear (s : Device) (n : Nat) : Device := (s.setFlag F.mbxStatFull 0 n false).ringBell n

/-- R479: a read takes the word of a full mailbox; MBX00–MBX15 are read by the Curator's take only. -/
def Device.mbxRead (s : Device) (g : Agent) (n : Nat) : (Bool × Word) × Device :=
  if n < 16 ∨ !s.mbxReach g ∨ !s.mbxFull n then ((false, 0), s)
  else ((true, (s.mbox n).word), s.mbxClear n)

/-! ## The accesses of one cycle (R480) -/

/-- The place of an agent in a cycle's order of arrival: Curator cores, management agents by stack, the gateway agent, then the fabric. -/
def arrivalRank : Agent → Nat
  | .curator => 0
  | .mgmt c => 1 + c
  | .gateway => 17
  | _ => 18

/-- The access comes before another of its cycle: reads first, each kind by its agents. -/
def MbxAccess.before (a b : MbxAccess) : Bool :=
  if a.word.isSome = b.word.isSome then decide (arrivalRank a.agent < arrivalRank b.agent) else a.word.isNone

/-- Put an access in its place among those of its cycle that came before it. -/
def MbxAccess.rank (a : MbxAccess) : List MbxAccess → List MbxAccess
  | [] => [a]
  | x :: l => if a.before x then a :: x :: l else x :: a.rank l

/-- A command that accesses mailbox n. -/
def Instr.accesses (n : Nat) : Instr → Bool
  | .mbxDataWrite _ k _ => k == n
  | .mbxDataRead _ k => k == n
  | _ => false

/-- What an access does. -/
def Device.doAccess (s : Device) (a : MbxAccess) : Device :=
  match a.word with
  | some v =>
    let r := s.mbxWrite a.agent a.n v
    r.2.answer a.agent (r.1, 0)
  | none =>
    let r := s.mbxRead a.agent a.n
    r.2.answer a.agent r.1

/-- An access is registered. While others to its mailbox wait in the queue (`more`), which are of the same cycle since no time passes between
commands, it waits for them; then all take effect in their order. (DEDUCED, log entry 6) -/
def Device.register (s : Device) (a : MbxAccess) (more : Bool) : Device :=
  let l := a.rank s.ctl.mbxNow
  if more then s.modCtl (fun x => { x with mbxNow := l })
  else
    (l.filter (fun x => x.n == a.n)).foldl Device.doAccess (s.modCtl (fun x => { x with mbxNow := l.filter (fun x => x.n != a.n) }))

/-- MBX_DATA_WRITE by an agent. -/
def execMbxDataWrite (g : Agent) (n : Nat) (value : Word) (s : State) : Host.Outcome State Fault Refusal :=
  onUnits (mbxOk n) (fun d => d.register { agent := g, n := n, word := some value } (s.pending.any (Instr.accesses n))) s

/-- MBX_DATA_READ by an agent. -/
def execMbxDataRead (g : Agent) (n : Nat) (s : State) : Host.Outcome State Fault Refusal :=
  onUnits (mbxOk n) (fun d => d.register { agent := g, n := n } (s.pending.any (Instr.accesses n))) s

end Sys2Proof.Machine
end

