-- ==== Sys2Proof/Machine/Wear.lean ====
section
/-! DEFINITION. The wear figures of CUR_WEAR (R425, R447): the spares left of each kind, read off the device. -/

namespace Sys2Proof.Machine

def Device.siteIn (s : Device) (t : Nat) : Bool := s.fget F.glbSiteStatus 0 t == siInService

/-- The spares left in each unit of kind k. Of lane groups only those that have lost a lane are listed, behind one that has lost none; of
rails, those that have lost a phase. (DEDUCED, log entry 86) -/
def Device.wearLeft (s : Device) (k : Nat) : List Nat :=
  match k with
  | 0 => ((List.range 16).filter s.siteIn).flatMap (fun c => (List.range 16).map (fun r => b2n (s.rowRepairable c r)))
  | 1 => (List.range 224).map (fun i => (s.standbyLines i).length)
  | 2 => (List.range 40).flatMap (fun t => ((List.range 224).filter (fun i => passes i t)).map (fun i => s.ringsIn t i))
  | 3 => 4 :: ((List.range 16).filter s.siteIn).flatMap (fun c => (s.die c).lost.map (fun e => 4 - e.2))
  | 4 => (List.range 20).map (fun m => s.fget F.memStatusSpares m)
  | 5 => (List.range 4).map (fun q => b2n (s.fget F.plnLaserState q (s.otherCart q) == lsStandby))
  | 6 => ((List.range 4).filter (fun p => s.siteIn (36 + p))).map (fun p => b2n (!(s.port p).spareUsed))
  | 7 => [b2n (s.flag F.curStatusStandbyOk)]
  | 8 => 1 :: s.pwr.phaseLoss.map (fun e => 1 - e.2)
  | _ => []

/-- The start-up step that finds the spares of kind k. (DEDUCED, log entry 86) -/
def wearStep (k : Nat) : Nat := [4, 3, 3, 4, 2, 3, 5, 0, 0].getD k 0

/-- Start-up has ended a step. -/
def Device.stepEnded (s : Device) (n : Nat) : Bool :=
  let k := s.fget F.curBootStep
  if k = 7 then decide (n < s.fget F.curBootFailStep) else decide (n < k)

/-- CUR_WEAR[k] as it reads: `v` holds the accessions counted. -/
def Device.wearWord (s : Device) (k v : Nat) : Nat :=
  if s.stepEnded (wearStep k) then
    let l := s.wearLeft k
    setBits (setBits v 0 16 (min 0xFFFF (l.foldl min (l.headD 0)))) 16 16 (min 0xFFFF (l.filter (· == 0)).length)
  else v

end Sys2Proof.Machine
end

