-- ==== Sys2Proof/Machine/Cspace.lean ====
section
/-! DEFINITION. Accesses to C-space (R14–R17): what a register reads as, read-clears fields, who may write what, legal
values, and the registers whose writes do more (R167, R187, R358, R362, R408, R409, R483, R487, R490, R495, R502–R504). -/

namespace Sys2Proof.Machine

/-! ## What registers show -/

/-- State codes of TILE_THREAD (R92, R135). -/
def tstateCode : TState → Nat
  | .idle => 0 | .ready => 1 | .waitMem => 2 | .waitCount => 3 | .waitSync => 4 | .waitUnit => 5 | .done => 6
  | .faulted => 7

def threadWord (th : Thread) : Nat := tstateCode th.st + 16 * b2n th.m2 + 256 * (th.pc % 2 ^ 24)

/-- The sampling group of a sensor (R390): 0–15 stacks, 16–19 quadrants, 20–23 port dies. -/
def sensorGroup (n : Nat) : Nat := if n < 448 then n / 28 else if n < 576 then 16 + (n - 448) / 32 else 20 + (n - 576) / 4

/-- THM_DATA of a sensor (R413). A rise rate that is no whole number of °C/ms is rounded down. -/
def Device.thmData (s : Device) (n : Nat) : Nat :=
  let x := s.thm.sensors.get {} n
  unsigned 12 x.temp + 2 ^ 12 * unsigned 12 x.est + 2 ^ 24 * x.state + 2 ^ 26 * b2n (s.thm.fast.contains (sensorGroup n)) +
    2 ^ 28 * unsigned 8 (max (-128) (min 127 (10 * x.rate / 4)))

/-- PLN_RING_DATA of a site on a bus (R234): one byte for each ring. -/
def Device.ringData (s : Device) (t b : Nat) : Nat :=
  leNat ((List.range 8).map (fun r => BitVec.ofNat 8 ((s.ring t b r).state + 4 * (s.ring t b r).line)))

/-- PLN_MAP_DATA of channel k of a bus (R235). -/
def Device.mapData (s : Device) (b k : Nat) : Nat :=
  let l := s.lineOf b k
  l + 64 * b2n (decide (k < s.chansOf b)) + 256 * min 255 ((s.now - s.lastPass b l) / 1000000000)

/-- The 64 bytes of a record (R497). -/
def recordBytes (r : Record) : List Byte :=
  leBytes 8 r.time ++ leBytes 8 r.tick ++ leBytes 8 r.frame ++ leBytes 8 r.seq ++ leBytes 1 (r.prio + 4 * r.cls) ++
    leBytes 1 r.srcKind ++ leBytes 2 r.srcIndex ++ leBytes 2 r.cause ++ leBytes 2 r.unit ++ leBytes 4 r.repeats ++
    leBytes 4 r.suppressed ++ leBytes 16 r.detail

/-- Word i of the Ledger windows (R502): a record that is not held reads as zeros. -/
def Device.ledWin (s : Device) (i : Nat) : Nat :=
  let n := s.fget F.ledCurSeq 0 (i / 128) + i % 128 / 8
  match s.led.recs.find? (fun r => r.seq == n) with
  | some r => leNat (((recordBytes r).drop (8 * (i % 8))).take 8)
  | none => 0

/-- All 16 records of a cursor are held. -/
def Device.ledHeld (s : Device) (r : Nat) : Bool :=
  (List.range 16).all (fun k => s.led.recs.any (fun x => x.seq == s.fget F.ledCurSeq 0 r + k))

/-- This device coordinates its group, being eligible for it (R386). -/
def Device.coordinating (s : Device) : Bool :=
  s.fr.job.isSome && s.job.powerCoord != 0xFFFF && s.job.powerCoord == s.self && s.boot.cat.coordEligible

/-- This device's group and ring position (R283). -/
def Device.myGroup (s : Device) : Nat := s.fget F.prtStatusGroup
def Device.myPos (s : Device) : Nat := s.fget F.prtStatusRingPos

/-- The device at a ring position of this device's group. (DESIGN CHOICE, log entry 14) -/
def Device.memberNo (s : Device) (i : Nat) : Nat :=
  if i = s.myPos then s.self else (Config.memberAt s.myGroup i).toNat

/-- What a register reads as, without the side effects of a read. -/
def Device.peek (s : Device) (k : RegKind) (b i : Nat) : Nat :=
  match k with
  | .tileThread => threadWord { s.thread (b / 272) (b % 272) i with st := s.tstate (b / 272) (b % 272) i }
  | .tileCyc => s.cycles (b / 272) % 2 ^ 64
  | .tileRemote => setBits (s.rd k b i) 48 8 (s.tile (b / 272) (b % 272)).rcache.length
  | .plnCyc => s.now % 2 ^ 64
  | .memCyc => s.now % 2 ^ 64
  | .prtCyc => s.now % 2 ^ 64
  | .clkStretch => setBits (s.rd k b i) 0 48 ((s.die i).stretchAcc / 960000)
  | .clkSkip => setBits (s.rd k b i) 0 48 (s.die i).skipped
  | .clkStatus => setBits (s.rd k b i) 32 16 s.hoMs
  | .mbxData => 0
  | .mbxFull => (List.range 64).foldl (fun v n => v + b2n (s.mbxFull n) * 2 ^ n) 0
  | .curWear => s.wearWord i (s.rd k b i)
  | .curXfer => if s.flag F.curXferCtlHeld then leNat (readBytes s.ctl.window (8 * i) 8) else 0
  | .plnRingData => s.ringData (s.fget F.plnRingSelSite b) (s.fget F.plnRingSelBus b)
  | .plnMapData => s.mapData (busOf b (s.fget F.plnMapSelBus b)) (s.fget F.plnMapSelChan b)
  | .prtRtLanes => (s.routeEntry (s.flag F.prtRtSelVer b) (s.fget F.prtRtSelDev b)).lanes.toNat
  | .prtRtFlags =>
    let e := s.routeEntry (s.flag F.prtRtSelVer b) (s.fget F.prtRtSelDev b)
    b2n e.valid + 2 * b2n e.isLocal
  | .prtRmSeq => setBits (s.rd k b i) 0 14 (s.port b).windows.length
  | .prtRmComb => setBits (s.rd k b i) 0 9 (s.port b).combs.length
  | .prtRmAtom => setBits (s.rd k b i) 0 15 (s.port b).replays.length
  | .ledHead => s.led.nextSeq
  | .ledOldest => ((s.led.recs.head?).map Record.seq).getD s.led.nextSeq
  | .ledCur => setBits (s.rd k b i) 48 1 (b2n (s.ledHeld i))
  | .ledWin => s.ledWin i
  | .thmData => s.thmData (s.fget F.thmSelSensor)
  | .pwrRpt => if s.coordinating then s.rd k b i else 0
  | .frmLenPend => s.rd k b i
  | k => s.rd k b i

/-! ## Reads -/

/-- Registers whose value a frame program sees only with TILE_CTL.UCNT (R495). -/
def isCounter : RegKind → Bool
  | .tileCyc => true | .tilePmc => true
  | .plnCyc => true | .plnPmc => true | .plnPmsel => true | .plnPmctl => true | .plnBw => true
  | .memCyc => true | .memPmc => true | .memPmsel => true | .memPmctl => true | .memBw => true
  | .prtCyc => true | .prtPmc => true | .prtPmsel => true | .prtPmctl => true | .prtLaneBw => true | .prtDdrBw => true
  | _ => false

/-- Clear the read-clears fields of a register; an event counted in the same cycle at the field from bit `counted` up
stays (R17). -/
def clearRc (k : RegKind) (v : Nat) (counted : Option Nat) : Nat :=
  (k.fields.filter (fun f => f.acc == .rc)).foldl (fun v f =>
    setBits v f.lo f.w (b2n (counted == some f.lo))) v

/-- A thread's view of a counter. A remote thread's UCNT does not travel with its request: the spec leaves open whether
the responder knows it, so the choice is a free value. (DESIGN CHOICE, log entry 107) -/
def Device.counterView (s : Device) (g : Agent) (v : Nat) : Nat × Device :=
  match g with
  | .thread c t _ => (if s.flag F.tileCtlUcnt (272 * c + t) then v else 0, s)
  | _ =>
    let (w, s) := s.drawWord
    (if w.toNat % 2 = 1 then v else 0, s)

/-- Offsets of the TST block, which is absent unless the Catalogue enables it (R503). -/
def inTst (off : Nat) : Bool := decide (0x80000 ≤ off ∧ off < 0x90000)

/-- A read of C-space (R14). -/
def Device.cRead (s : Device) (g : Agent) (off bytes : Nat) (counted : Option Nat := none) : (Bool × Word) × Device :=
  if bytes ≠ 8 ∨ off % 8 ≠ 0 then ((false, 0), s)
  else if inTst off ∧ !s.flag F.tstCtlPresent then ((true, 0), s)
  else
    match regAt off with
    | none => ((false, 0), s)
    | some (k, b, i) =>
      if k = .mbxData then s.mbxRead g i
      else if k.place.block = .mbx ∧ !s.mbxReach g then ((false, 0), s)
      else
        let v := s.peek k b i
        let (v', s) := if isThreadAgent g && isCounter k then s.counterView g v else (v, s)
        let s := if k.fields.any (fun f => f.acc == .rc) then s.wr k b i (clearRc k (s.rd k b i) counted) else s
        ((true, BitVec.ofNat 64 v'), s)

/-- RC_READ: a local agent's read of a register with read-clears fields. -/
def execRcRead (g : Agent) (off : Nat) (counted : Option Nat) (s : State) : Host.Outcome State Fault Refusal :=
  onDevice (fun s =>
    let r := s.cRead g off 8 counted
    r.2.answer g r.1) s

/-! ## Writes -/

/-- What a writer may do: nothing with an error, nothing without one, clear W1C bits only, or all. -/
inductive Right where
  | error | ignored | w1c | all
  deriving DecidableEq, Repr

/-- The register has a field with an access code. -/
def hasAcc (k : RegKind) (a : Access) : Bool := k.fields.any (fun f => f.acc == a)

/-- Who may write a register (R16 and the statement of its block). Where the spec names the writers of THM_SEL, PRT_RT_SEL, a counter set
(R315, R489) or GLB_BW_CTL (R490) and not what another agent's write of them answers, it is an error response. (DESIGN CHOICE, log
entry 128) -/
def Device.right (s : Device) (g : Agent) (k : RegKind) (i : Nat) : Right :=
  if isThreadAgent g && isCounter k then .error
  else
    match k.place.writer with
    | .none => if hasAcc k .w1c then .w1c else .ignored
    | .curator => if isCuratorAgent g then .all else .error
    | .curatorOnlyRW =>
      if isCuratorAgent g then .all
      else if hasAcc k .rw || hasAcc k .wo then .error
      else if hasAcc k .w1c then .w1c else .ignored
    | .curHost => if isCuratorAgent g || isHostAgent g then .all else .error
    | .curHostW1C =>
      if isCuratorAgent g then .all else if isHostAgent g && hasAcc k .w1c then .w1c else .error
    | .noThread => if isThreadAgent g then .error else .all
    | .coordinator => if s.agentId g == (s.job.powerCoord, 132) && s.fr.job.isSome then .all else .error
    | .member =>
      if (s.agentId g).2 == 132 && s.coordinating && (s.agentId g).1 == s.memberNo i then .all else .error
    | .any => .all

/-- TILE_SRAM_MAP, TILE_CTL and CMP_SPARE can be written while no job is loaded, during an accession, and during the rejoin of a
stack (R130). -/
def Device.mapsWritable (s : Device) : Bool := s.fr.job.isNone || s.fr.work.any (fun k => decide (k < 20000))

/-- Values that a rule forbids beyond the listed ranges (R84, R137, R138, R234, R235, R369, R408, R493), and registers that take no
write now (R130, R242). HANDLER 0 is legal with no resident region too. (DESIGN CHOICE, log entry 118) -/
def Device.specialOk (s : Device) (k : RegKind) (b i v : Nat) : Bool :=
  match k with
  | .tilePmsel =>
    let ev := bits v 0 8
    let arg := bits v 8 4
    if isLinkEvent ev then decide (arg ≤ 3)
    else if ev = evThreadWait then decide (arg ≤ 8) else arg == 0
  | .tileSramMap => s.mapsWritable
  | .tileCtl => s.mapsWritable
  | .cmpSpare => s.mapsWritable
  | .memCmt => i / 2048 != s.fget F.memCmtCtlHalf b
  | .frmLenCommit => (s.slotRegion i).isSome
  | .tilePmctl => bits v 8 24 % 4 == 0 && decide (bits v 8 24 = 0 ∨ bits v 8 24 < 65536 * s.fget F.tileSramMapResGran b)
  | .plnPmsel => decide (bits v 8 6 ≤ 7 ∨ bits v 8 6 = 63)
  | .memPmsel => decide (bits v 8 6 ≤ 31 ∨ bits v 8 6 = 63)
  | .prtPmsel => decide (if 8 ≤ bits v 0 8 then bits v 8 6 ≤ 1 else bits v 8 6 ≤ 16 ∨ bits v 8 6 = 63)
  | .plnRingSel => decide (bits v 0 6 < 40) && siteQuad (bits v 0 6) == b && srcSite (bits v 8 8) != bits v 0 6
  | .plnMapSel => decide (bits v 8 6 ≤ 59)
  | .clkDom => decide (i < 16) && decide (bits v 6 6 ≤ s.fget F.clkDomFmaxStep 0 i)
  | .pwrAssign => decide (900 ≤ bits v 0 11 ∧ bits v 0 11 ≤ s.fget F.pwrLimitCeiling)
  | _ => true

/-- R15: every writable field takes its value. -/
def Device.legal (s : Device) (k : RegKind) (b i v : Nat) : Bool :=
  k.fields.all (fun f => f.acc != .rw || f.legal.ok (bits v f.lo f.w)) && s.specialOk k b i v

/-- The register after a write: RW fields take their bits, W1C bits written 1 clear, the rest stays (R15, R16).
(DEDUCED, log entry 115) -/
def Right.apply (r : Right) (k : RegKind) (old v : Nat) : Nat :=
  k.fields.foldl (fun x f =>
    if f.acc = .rw ∧ r = .all then setBits x f.lo f.w (bits v f.lo f.w)
    else if f.acc = .w1c then setBits x f.lo f.w (bits old f.lo f.w - (bits old f.lo f.w) * bits v f.lo f.w)
    else x) old

/-- A rejection under R15 is counted. (DEDUCED, log entry 111) -/
def Device.rejectWrite (s : Device) : Device := s.modCtl (fun x => { x with rejected := x.rejected + 1 })

/-- FRM_LEN_PEND (R167, R187): the first write of an attempt sets it, each further one takes the smaller; one in the
tick's cycle is discarded and counted as late. -/
def Device.lenPendWrite (s : Device) (n : Nat) (v : Word) (tickCycle : Bool) : Bool × Device :=
  let len := v.toNat % 2 ^ 48
  match s.slotRegion n with
  | none => (false, s.rejectWrite)
  | some r =>
    if r.slotSize < len then (false, s.rejectWrite)
    else if tickCycle then (true, s.modFr (fun f => { f with lateWrites := f.lateWrites + 1 }))
    else if s.fr.firstPend.contains n then
      (true, s.fset F.frmLenPendLength 0 n (min len (s.fget F.frmLenPendLength 0 n)))
    else
      (true, (s.modFr (fun f => { f with firstPend := f.firstPend ++ [n] })).fset F.frmLenPendLength 0 n len)

/-- CLK_DOM (R358, R362): TARGET takes effect at the next tick, RESET at once. (DEDUCED, log entry 97) -/
def Device.clkDomWrite (s : Device) (d v : Nat) : Device :=
  let s := (s.fset F.clkDomTarget 0 d (bits v 6 6)).modDie d (fun y => { y with newTarget := true })
  if bit v 26 then s.resetStack d else s

/-- GLB_BW_CTL (R490, R494): the windows start afresh. -/
def Device.bwCtlWrite (s : Device) (v : Nat) : Device :=
  ((s.fset F.glbBwCtlWindowUs 0 0 (v % 2 ^ 10)).fset F.glbBwCtlWindows 0 0 0).modCtl
    (fun x => { x with bwBytes := [] })

/-- Bits of a register that hardware updates in the cycle of a write keep hardware's value (R17). -/
def keepBits (hw : Word) (old new : Nat) : Nat :=
  ((BitVec.ofNat 64 old &&& hw) ||| (BitVec.ofNat 64 new &&& ~~~hw)).toNat

/-- R504: a TST write is staged while a job runs, and takes effect at the next tick but one when it falls in the tick's
cycle. A field that hardware updates in the write's cycle keeps hardware's value, whenever the write takes effect (R17, R506). -/
def Device.tstStage (s : Device) (k : RegKind) (v : Word) (late : Bool) (hw : Word) : Device :=
  let v := BitVec.ofNat 64 (keepBits hw (s.rd k 0 0) v.toNat)
  if s.running then
    if late then s.modCtl (fun x => { x with stagedLate := x.stagedLate.ins (k.addr 0 0) v })
    else s.modCtl (fun x => { x with staged := x.staged.ins (k.addr 0 0) v })
  else s.wr k 0 0 (Right.all.apply k (s.rd k 0 0) v.toNat)

/-- PWR_RPT (R387, R388): the report's slack is kept with its time for 100 ms. -/
def Device.noteReport (s : Device) (i v : Nat) : Device :=
  (s.wr .pwrRpt 0 i v).modPwr (fun p => { p with
    reports := p.reports.upd [] i (fun l => l.filter (fun e => decide (s.now < e.1 + 100000000)) ++ [(s.now, bits v 0 16)]) })

/-- PWR_ASSIGN (R373, R408): the limit takes effect at the next tick. -/
def Device.assign (s : Device) (v : Nat) : Device :=
  (s.wr .pwrAssign 0 0 (bits v 0 11 + bits v 16 16 * 2 ^ 16)).modPwr (fun p => { p with
    assigned := some (bits v 0 11), toSustained := false, lowered := false })

/-- CUR_PARAM may be written (R483). -/
def Device.paramFree (s : Device) (m : Nat) : Bool := !s.mbxFull m && s.fget F.curCmdState 0 m != 1

/-- The write a writer with the right to it makes. `hw`: bits that hardware updates in its cycle. -/
def Device.cStore (s : Device) (k : RegKind) (b i : Nat) (r : Right) (v : Word) (tickCycle : Bool) (hw : Word := 0) : Bool × Device :=
  let x := v.toNat
  match k with
  | .frmLenPend => s.lenPendWrite i v tickCycle
  | .curXfer =>
    if s.flag F.curXferCtlHeld then
      (true, s.modCtl (fun c => { c with window := writeBytes c.window (8 * i) (leBytes 8 x) }))
    else (false, s.rejectWrite)
  | .curParam => if s.paramFree (i / 8) then (true, s.wr .curParam 0 i x) else (false, s.rejectWrite)
  | _ =>
    if r = .all ∧ !s.legal k b i x then (false, s.rejectWrite)
    else
      match k with
      | .clkDom => (true, s.clkDomWrite i (keepBits hw (s.rd k b i) x))
      | .glbBwCtl => (true, s.bwCtlWrite x)
      | .pwrRpt => (true, s.noteReport i (r.apply k 0 x))
      | .pwrAssign => (true, s.assign x)
      | _ =>
        if k.place.block = .tst then (true, s.tstStage k v tickCycle hw)
        else (true, s.wr k b i (keepBits hw (s.rd k b i) (r.apply k (s.rd k b i) x)))

/-- A write to C-space (R14–R17). `tickCycle`: registered in a tick's CD17 cycle; `hw`: bits that hardware updates in its cycle. -/
def Device.cWrite (s : Device) (g : Agent) (off bytes : Nat) (v : Word) (tickCycle : Bool := false) (hw : Word := 0) : Bool × Device :=
  if bytes ≠ 8 ∨ off % 8 ≠ 0 then (false, s)
  else if inTst off ∧ !s.flag F.tstCtlPresent then (true, s)
  else
    match regAt off with
    | none => (false, s)
    | some (k, b, i) =>
      if k = .mbxData then s.mbxWrite g i v
      else if k.place.block = .mbx ∧ !s.mbxReach g then (false, s)
      else
        match s.right g k i with
        | .error => (false, s)
        | .ignored => (true, s)
        | r => s.cStore k b i r v tickCycle hw

/-- A write by an agent, which hears whether it was accepted. -/
def Device.agentWrite (s : Device) (g : Agent) (off bytes : Nat) (v : Word) (tickCycle : Bool := false) (hw : Word := 0) : Device :=
  let r := s.cWrite g off bytes v tickCycle hw
  r.2.answer g (r.1, 0)

/-- REGISTER_WRITE: `hw` are the bits of the register that hardware sets or updates in the write's cycle, by an event that stands
before it in the queue (R17). (DESIGN CHOICE, log entry 116) -/
def execRegisterWrite (g : Agent) (off bytes : Nat) (value : Word) (s : State) (hw : Word := 0) :
    Host.Outcome State Fault Refusal :=
  onDevice (fun s => s.agentWrite g off bytes value false hw) s

def execFrmLenPendWrite (g : Agent) (slot : Nat) (value : Word) (tickCycle : Bool) (s : State) :
    Host.Outcome State Fault Refusal :=
  onUnits (decide (slot < 2048)) (fun s => s.agentWrite g (RegKind.frmLenPend.addr 0 slot) 8 value tickCycle) s

def execGlbBwCtlWrite (g : Agent) (value : Word) (s : State) : Host.Outcome State Fault Refusal :=
  onDevice (fun s => s.agentWrite g (RegKind.glbBwCtl.addr 0 0) 8 value) s

def execLedCurWrite (g : Agent) (r : Nat) (value : Word) (s : State) : Host.Outcome State Fault Refusal :=
  onUnits (decide (r < 4)) (fun s => s.agentWrite g (RegKind.ledCur.addr 0 r) 8 value) s

def execTstWrite (g : Agent) (off : Nat) (value : Word) (at_ : WriteAt) (s : State) : Host.Outcome State Fault Refusal :=
  onUnits (inTst off) (fun s => s.agentWrite g off 8 value at_.tickCycle at_.hw) s

def execClkDomTarget (g : Agent) (d : Nat) (value : Word) (s : State) : Host.Outcome State Fault Refusal :=
  onUnits (decide (d < 18)) (fun s => s.agentWrite g (RegKind.clkDom.addr 0 d) 8 value) s

def execClkDomReset (g : Agent) (d : Nat) (value : Word) (s : State) : Host.Outcome State Fault Refusal :=
  onUnits (decide (d < 18)) (fun s => s.agentWrite g (RegKind.clkDom.addr 0 d) 8 value) s

end Sys2Proof.Machine
end

