-- ==== Sys2Proof/Machine/Routes.lean ====
section
/-! DEFINITION. The fabric manager's orders about the routing tables (R297, R307). -/

namespace Sys2Proof.Machine

/-- A flip: the stamping epoch changes, and 200 µs of grace begin. -/
def Device.flip (s : Device) : Device :=
  let s := ((s.setPorts F.prtRouteEpoch (1 - b2n s.epoch)).setPorts F.prtRouteGrace 1).setPorts F.prtRouteFlips
    (s.fget F.prtRouteFlips + 1)
  (s.modFab (fun f => { f with flipAt := none, lastFlip := some s.now })).note
    { kind := kPrt, prio := 2, cls := 0, cause := 17, unit := b2n s.epoch }


/-- The payload of RT_WRITE: version, first device, count, entries. -/
def rtVersion (p : Pkt) : Nat := leNat (p.payload.take 2)
def rtFirst (p : Pkt) : Nat := leNat ((p.payload.drop 2).take 2)
def rtCount (p : Pkt) : Nat := leNat ((p.payload.drop 4).take 2)
def rtWord (p : Pkt) (i k : Nat) : Nat := leNat ((p.payload.drop (16 + 16 * i + 8 * k)).take 8)

def rtWriteOk (p : Pkt) : Bool :=
  decide (rtVersion p ≤ 1 ∧ 1 ≤ rtCount p ∧ rtCount p ≤ 31 ∧ p.len = 1 + rtCount p ∧ rtFirst p + rtCount p ≤ 1024) &&
    ((p.payload.drop 6).take 10).all (· == 0) &&
    (List.range (rtCount p)).all (fun i => decide (rtWord p i 1 < 4) && (!bit (rtWord p i 1) 1 || rtWord p i 0 == 0))

/-- RT_WRITE: its status, and its effect. -/
def Device.rtWrite (s : Device) (p : Pkt) : Nat × Device :=
  if !rtWriteOk p then (stField, s)
  else if rtVersion p = b2n s.epoch ∨ s.flag F.prtRouteGrace then (stBusy, s)
  else
    (stOk, s.modFab (fun f => { f with
      tables := (List.range (rtCount p)).foldl (fun m i =>
        m.set {} (1024 * rtVersion p + rtFirst p + i)
          { lanes := BitVec.ofNat 64 (rtWord p i 0), valid := bit (rtWord p i 1) 0, isLocal := bit (rtWord p i 1) 1 }) f.tables }))

/-- RT_FLIP: at a tick at least two ahead, or at once with no job running and ADDR = 0; not within 1 ms of the last. -/
def Device.rtFlip (s : Device) (p : Pkt) : Nat × Device :=
  if p.len ≠ 0 then (stField, s)
  else if s.fab.lastFlip.any (fun t => decide (s.now < t + 1000000)) then (stBusy, s)
  else if !s.running && p.addr == 0 then (stOk, s.flip)
  else if p.addr < s.fr.tick + 2 then (stBusy, s)
  else (stOk, s.modFab (fun f => { f with flipAt := some (p.addr, 1 - b2n s.epoch) }))

/-- The status of an order, and its effect. -/
def Device.mgmtOrder (s : Device) (p : Pkt) : Nat × Device := if p.arg = 1 then s.rtWrite p else s.rtFlip p

end Sys2Proof.Machine
end

