-- ==== Sys2Proof/Machine/Home.lean ====
section
/-! DEFINITION. The responder's side of remote memory (R292, R318–R342): home port dies, sequence windows and
duplicates, the checks of R319, the line combiner, atomics and replay records, responses. -/

namespace Sys2Proof.Machine

/-! ## Who asks, where it is served -/

/-- A request of a host, proxied by a gateway's agent (R305). -/
def ofHost (p : Pkt) : Bool := p.seng == 133

/-- The target of a request at this device: MCAST_WRITE ignores DEV (R288). -/
def Device.target (s : Device) (p : Pkt) : Nat := gAddr s.self (gSpace p.addr) (gOff p.addr)

/-- The port die of arrival; P0 for a request of this device, but that of a transfer scheduler. -/
def arrivalPort (v : Via) (p : Pkt) : Nat :=
  match v with
  | .lane z => z / 16
  | .own => if 128 ≤ p.seng ∧ p.seng ≤ 131 then p.seng - 128 else 0

/-- The home port die, or for a target that cannot be translated the port die of arrival (R318). A write to the load area is placed as
D-space. (DEDUCED, log entry 52) -/
def Device.homePort (s : Device) (v : Via) (p : Pkt) : Nat :=
  if p.typ = tMgmt ∨ gSpace p.addr = 3 then 0
  else if s.offsetOk (s.target p) 1 || (s.jobState == jLoading && ofHost p && p.typ == tWrite && gSpace p.addr == 2) then ((s.locate (s.target p)).map Prod.fst).getD (arrivalPort v p)
  else arrivalPort v p

/-- The agent behind a request: a thread of this device where its own tracker lists the request. -/
def Device.agentOf (s : Device) (p : Pkt) : Agent :=
  if p.src ≠ s.self then .device p.src p.seng
  else if p.seng = 132 then .curator
  else if p.seng = 133 then .gateway
  else
    match s.reqs.find? (fun r => r.stage == .sent && r.pkt.seng == p.seng && r.pkt.seq == p.seq && r.pkt.dst == p.dst) with
    | some r => .thread r.c r.t r.n
    | none => .device p.src p.seng

/-- Bytes a request names: READ 8 × ARG, stores their payload less what ARG leaves unwritten, atomics s (R288, R336). -/
def reqLen (p : Pkt) : Nat :=
  if p.typ = tRead then 8 * p.arg
  else if p.typ = tAtomic then (if 16 ≤ p.arg then 16 else 8)
  else if p.typ = tReduce then 16 * p.len
  else 16 * p.len - p.arg

/-- The aligned 256-byte granules of `n` bytes at an address, each with its bytes (R292). (DEDUCED, log entry 101) -/
def granuleParts (a n : Nat) : List (Nat × Nat) :=
  (List.range ((a % 256 + n + 255) / 256)).map (fun i =>
    let lo := max a (256 * (a / 256 + i))
    (lo, min (a + n) (256 * (a / 256 + i + 1)) - lo))

/-! ## Responses -/

/-- The memory unit whose controller serves a READ of this device's HBM4 (R318). -/
def Device.readUnit (s : Device) (p : Pkt) : Option Nat :=
  if p.typ = tRead then
    match s.locate (s.target p) with
    | some (_, key) => if key < 2 ^ 42 then some (64 + lineChan (key / 64) / 32) else none
    | none => none
  else none

/-- The unit of a requester of this device: its stream engine's edge, else P0. -/
def respUnit (seng : Nat) : Nat := if seng ≤ 127 then engineUnit seng else 84

/-- Send a response: to a requester of this device, or out through port die h (R288). A READ of HBM4 is answered by its memory site,
anything else by the port die. -/
def Device.sendReply (s : Device) (h : Nat) (p : Pkt) (r : Pkt) : Device :=
  let site := ((s.readUnit p).map unitSite).getD (36 + h)
  if p.src = s.self then s.cross site (respUnit p.seng) (.response r) (fun s => s.emit (.request r))
  else s.cross site (84 + h) (.onward r) (fun s => s.transmit r)

/-- Answer a request (R288, R290). -/
def Device.reply (s : Device) (h : Nat) (p : Pkt) (status : Nat) (payload : List Byte) : Device :=
  s.sendReply h p (respond p s.self status payload s.epoch)

/-! ## Sequence windows (R325–R327) -/

def seqVal (p : Pkt) : Nat := p.seq % seqMod p.seng

/-- The window of a request's key. -/
def Port.window (x : Port) (p : Pkt) : Option WinEntry :=
  x.windows.find? (fun e => e.src == p.src && e.seng == p.seng && e.dst == p.dst)

/-- A value lies in the window with its bit set, or 512 or more below M. -/
def WinEntry.dup (e : WinEntry) (v md : Nat) : Bool :=
  let ahead := (v + md - e.m) % md
  ahead == 0 || (decide (md / 2 ≤ ahead) && (decide (512 ≤ md - ahead) || e.seen.contains v))

/-- The window after an accepted value. -/
def WinEntry.accept (e : WinEntry) (v md : Nat) : WinEntry :=
  let ahead := (v + md - e.m) % md
  if ahead < md / 2 then
    { e with m := v, seen := v :: e.seen.filter (fun u => decide ((v + md - u) % md ≤ 511)), refused := e.refused.filter (· != v) }
  else { e with seen := v :: e.seen }

/-- A request is accepted: its value enters the window. -/
def Device.accept (s : Device) (h : Nat) (p : Pkt) : Device :=
  s.modPort h (fun x =>
    match x.window p with
    | some e =>
      { x with windows := x.windows.map (fun f => if f = e then e.accept (seqVal p) (seqMod p.seng) else f) }
    | none =>
      { x with windows := x.windows ++ [{ src := p.src, seng := p.seng, dst := p.dst, m := seqVal p, seen := [seqVal p] }] })

/-- The effect of an accepted request never comes: its duplicates get no response (R261, R265, R319, R325). -/
def Device.neverApplied (s : Device) (p : Pkt) : Device :=
  { s with ports := s.ports.map (fun x => (x.1, { x.2 with windows := x.2.windows.map (fun e =>
    if e.src = p.src ∧ e.seng = p.seng ∧ e.dst = p.dst then { e with refused := addNew e.refused (seqVal p) } else e) })) }

/-- Two packets are attempts of one request. -/
def samePkt (a b : Pkt) : Bool := a.src == b.src && a.seng == b.seng && a.dst == b.dst && a.seq == b.seq

/-- A replay record of a request (R338). -/
def Port.replay (x : Port) (p : Pkt) : Option Replay :=
  x.replays.find? (fun r => r.src == p.src && r.seng == p.seng && r.dst == p.dst && r.seq == p.seq)

def Port.record (x : Port) (p : Pkt) (prior : List Byte) : Port :=
  { x with replays := x.replays ++ [{ src := p.src, seng := p.seng, dst := p.dst, seq := p.seq, prior := prior }] }

/-- A combiner entry still owes a request its effect. -/
def Comb.owes (e : Comb) (p : Pkt) : Bool :=
  e.waiters.any (fun w => samePkt w.pkt p) || e.ops.any (fun o => samePkt o.1 p)

def Device.owed (s : Device) (p : Pkt) : Bool := s.ports.any (fun e => e.2.combs.any (fun c => c.owes p))

/-! ## The combiner (R333, R334) -/

/-- Put a store's bytes in an entry, behind atomics that have not executed. -/
def Comb.put (e : Comb) (line : Line) (en : Word) (p : Pkt) (v : Via) : Comb :=
  if e.ops.isEmpty then
    { e with data := mergeLine e.data line en, enable := e.enable ||| en, waiters := e.waiters ++ [{ pkt := p, via := v }] }
  else { e with ops := e.ops ++ [(p, v)] }

/-- The packet cut down to one of its lines. -/
def piecePkt (p : Pkt) (a : Nat) (bs : List Byte) : Pkt :=
  let lo := max (gOff p.addr) (gOff a)
  let hi := min (gOff p.addr + bs.length) (gOff a + 64)
  { p with addr := a - gOff a + lo, payload := (bs.drop (lo - gOff p.addr)).take (hi - lo) }

/-- The pieces of a store: port die and line key at home, line, enables, cut packet. -/
structure Piece where
  port : Nat
  key : Nat
  line : Line
  en : Word
  pkt : Pkt
  deriving DecidableEq, Repr

def Device.pieces (s : Device) (p : Pkt) : List Piece :=
  let bs := p.payload.take (reqLen p)
  (linePieces (s.target p) bs).filterMap (fun (a, l, en) =>
    (s.locate a).map (fun (h, key) =>
      { port := h, key := key / 64, line := l, en := en, pkt := piecePkt { p with addr := s.target p } a bs }))

/-- A line has an entry, or one is free (R335). -/
def Device.combRoom (s : Device) (ps : List Piece) : Bool :=
  (List.range 4).all (fun h =>
    let fresh := ps.filter (fun q => q.port == h && !(s.port h).combs.any (fun e => e.line == q.key))
    fresh.isEmpty || decide ((s.port h).combs.length + fresh.length ≤ 256))

/-- One piece enters the combiner of its home. -/
def Device.combStore (s : Device) (v : Via) (q : Piece) : Device :=
  if (s.port q.port).combs.any (fun e => e.line == q.key) then
    ((s.modPort q.port (fun x => { x with
        combs := x.combs.map (fun e => if e.line = q.key then e.put q.line q.en q.pkt v else e) })).fsat
      F.prtRmCombMerged q.port 0 1).pmc pmcPrt q.port 0 0x04 63 1
  else
    s.modPort q.port (fun x => { x with combs := x.combs ++ [({ line := q.key } : Comb).put q.line q.en q.pkt v] })

/-- An atomic or one line of a REDUCE enters the entry of its line (R337). -/
def Device.combOp (s : Device) (v : Via) (q : Piece) : Device :=
  s.modPort q.port (fun x =>
    if x.combs.any (fun e => e.line == q.key) then
      { x with combs := x.combs.map (fun e => if e.line = q.key then { e with ops := e.ops ++ [(q.pkt, v)] } else e) }
    else { x with combs := x.combs ++ [{ line := q.key, ops := [(q.pkt, v)] }] })

/-! ## The checks of R319 -/

/-- Kind of access of a request type (R155). -/
def accessOf (p : Pkt) : Access3 :=
  if p.typ = tRead then .read else if p.typ = tAtomic ∨ p.typ = tReduce then .atomic else .write

/-- R101, R288: the alignment a request needs: 8 bytes, its size for an atomic, 16 for EWA values. -/
def alignOf (p : Pkt) : Nat := if p.typ = tAtomic then reqLen p else if p.typ = tReduce then 16 else 8

/-- LEN of an atomic (R336). -/
def atomicLenOk (p : Pkt) : Bool := p.typ != tAtomic || p.len == (if p.arg = 19 then 2 else 1)

/-- R436: to a pair, writes from other devices come only by MCAST_WRITE; FRM_LEN_PEND too. -/
def Device.pairRefuses (s : Device) (p : Pkt) : Bool :=
  s.pairRejects p.src && (p.typ == tWrite || p.typ == tReduce || p.typ == tAtomic) &&
    (gSpace p.addr != 3 || isLenPend p.addr)

/-- The accesses of a request: a payload is applied granule by granule (R292); a READ, or an atomic, is one access (R239). -/
def accessParts (p : Pkt) (a : Nat) : List (Nat × Nat) :=
  if p.typ = tRead ∨ p.typ = tAtomic then [(a, reqLen p)] else granuleParts a (reqLen p)

/-- Status of a request to I-, P- or D-space: alignment, then R239, R155 and R166 for each granule in order, LEN of an
atomic, then ownership. (DEDUCED, log entry 101) -/
def Device.memStatus (s : Device) (p : Pkt) : Nat :=
  let a := s.target p
  if a % alignOf p ≠ 0 then stAlign
  else if s.pairRefuses p then stWriteSet
  else
    match (accessParts p a).find? (fun g => s.accessStatus (ofHost p) (p.seng == 132) (accessOf p) g.1 g.2 != stOk) with
    | some g => s.accessStatus (ofHost p) (p.seng == 132) (accessOf p) g.1 g.2
    | none =>
      if !atomicLenOk p then stField
      else if p.typ ≠ tRead ∧ (granuleParts a (reqLen p)).any (fun g => s.ownedByOther p.src p.seng g.1) then stOwnership
      else stOk

/-- A rejection: answered, recorded when it is one of R341. -/
def Device.refuse (s : Device) (h : Nat) (p : Pkt) (status : Nat) : Device :=
  let s := if status = stOwnership then
      s.recordOwn h p.src (if p.src = s.self then 0 else p.typ) (s.target p) else s
  s.reply h p status []

/-! ## Serving one request -/

/-- What becomes of a request now: done, or it waits at its input, or is held for the confirm point or a page repair, or is a duplicate that
waits for its original's effect; with the counters that have counted it by then. -/
inductive Served where
  | done (s : Device)
  | waits (s : Device) (seen : List Nat)
  | held (s : Device) (seen : List Nat)
  | dup (s : Device) (seen : List Nat)

/-- A request itself finds no free entry: it waits, and counter k counts it once (R327, R335, R338). -/
def Device.waitFull (s : Device) (seen : List Nat) (k : Nat) (f : Fld) (h : Nat) : Served :=
  if seen.contains k then .waits s seen else .waits (s.fsat f h 0 1) (k :: seen)

/-- A host's read of a mailbox (R479). -/
def boxRead (p : Pkt) : Bool := p.typ == tRead && gSpace p.addr == 3 && (mailboxAt (gOff p.addr)).isSome

/-- Replay records a port die will write: of atomics not yet executed, and of a gateway's mailbox reads not yet answered (R338). -/
def Device.recordsDue (s : Device) (h : Nat) : Nat :=
  ((s.port h).combs.map (fun e => (e.ops.filter (fun o => o.1.typ == tAtomic)).length)).sum +
    (s.reqs.filter (fun r => r.kind == .hostReq && r.slot / 16 == h && r.pkt.typ == tRead && gSpace r.gaddr == 3 &&
      (mailboxAt (gOff r.gaddr)).isSome)).length

/-- A record is free for one more. -/
def Device.recordRoom (s : Device) (h : Nat) : Bool := decide ((s.port h).replays.length + s.recordsDue h < 16384)

/-- The load area (R472): host writes while LOADING. -/
def Device.loadWrite (s : Device) (h : Nat) (p : Pkt) : Served :=
  let o := gOff p.addr
  let n := reqLen p
  if o % 8 ≠ 0 then .done (s.refuse h p stAlign)
  else if s.ctl.loadLen < o + n then .done (s.refuse h p stAddress)
  else
    .done (((s.modCtl (fun c => { c with loadArea := writeBytes c.loadArea o (p.payload.take n) })).accept h p).reply h p stOk [])

/-- The frame digest's items (R442): lines the program wrote, lines of host writes. -/
def Device.noteStore (s : Device) (p : Pkt) : Device :=
  let a := s.target p
  if s.running && (ofHost p || (p.src == s.self && decide (p.seng ≤ 127) && s.digested a)) then
    s.noteItems a (p.payload.take (reqLen p))
  else s

/-- A store to memory (R292, R333). (DEDUCED, log entry 101) -/
def Device.serveStore (s : Device) (v : Via) (h : Nat) (p : Pkt) (seen : List Nat) : Served :=
  let st := s.memStatus p
  if st ≠ stOk then .done (s.refuse h p st)
  else if s.settling && !ofHost p then .held s seen
  else
    let ps := s.pieces p
    if !s.combRoom ps then s.waitFull seen 1 F.prtRmCombFull h
    else .done ((ps.foldl (fun s q => s.combStore v q) (s.accept h p)).noteStore p)

/-- An atomic or REDUCE (R336–R338). (DEDUCED, log entry 101) -/
def Device.serveAtomic (s : Device) (v : Via) (h : Nat) (p : Pkt) (seen : List Nat) : Served :=
  let st := s.memStatus p
  if st ≠ stOk then .done (s.refuse h p st)
  else if s.settling then .held s seen
  else if p.typ = tAtomic ∧ s.recordRoom h = false then s.waitFull seen 2 F.prtRmAtomFull h
  else
    let ps := if p.typ = tAtomic then
        (s.pieces { p with payload := List.replicate (reqLen p) 0, len := 1, arg := 0, typ := tWrite }).map (fun q =>
          { q with pkt := { p with addr := s.target p } })
      else s.pieces p
    if !s.combRoom ps then s.waitFull seen 1 F.prtRmCombFull h
    else .done ((ps.foldl (fun s q => s.combOp v q) (s.accept h p)).noteStore p)

/-- The mark of a READ that waits at its controller for tokens, and its lines' places in the queues (R246). -/
def readMark (p : Pkt) : Mark := .read p.src p.seng p.dst p.seq
def Device.leaveLines (s : Device) (key n : Nat) (mk : Mark) : Device := (keyLines key n).foldl (fun s l => s.leaveQueue l mk) s

/-- A READ of memory, served at the line's controller (R318); one of an unreadable line is not answered, since every
consumer of it would meet a parity error (R261). (DEDUCED, log entry 102) -/
def Device.serveRead (s : Device) (h : Nat) (p : Pkt) (seen : List Nat) : Served :=
  let a := s.target p
  let st := s.memStatus p
  if st ≠ stOk then .done (s.refuse h p st)
  else
    match s.locate a with
    | none => .done (s.refuse h p stAddress)
    | some (_, key) =>
      let mk := readMark p
      if s.readsHeld a key (reqLen p) then .held (s.leaveLines key (reqLen p) mk) seen
      else
      match s.readAccess key (reqLen p) (some mk) with
      | none => .waits (if s.queuedAt (key / 64) mk then s else
          (keyLines key (reqLen p)).foldl (fun s l => s.arriveAt l (16 + lineChan l / 32) mk true) s) seen
      | some s =>
        match ((s.leaveLines key (reqLen p) mk).accept h p).memRead a key (reqLen p) with
        | (some bs, s) => .done (s.reply h p stOk bs)
        | (none, s) => .done s

/-- An MBX_WRITE (R479): accepted, or rejected with MBX_REJECT, which leaves no trace in the window. -/
def Device.serveMbx (s : Device) (h : Nat) (p : Pkt) : Device :=
  match mailboxAt (gOff p.addr) with
  | none => s.refuse h p stAddress
  | some n =>
    if gSpace p.addr ≠ 3 ∨ !s.mbxReach (s.agentOf p) then s.refuse h p stAddress
    else
      let r := s.mbxWrite (s.agentOf p) n (BitVec.ofNat 64 (leNat (p.payload.take 8)))
      if r.1 then (r.2.accept h p).reply h p stOk []
      else
        r.2.sendReply h p (sealPkt { blankPkt with
          dst := p.src, src := s.self, epoch := s.epoch, typ := tMbxReject, seng := p.seng, seq := p.seq, xfer := p.xfer,
          addr := p.addr })

/-- An access to C-space by a packet (R14): an error response travels as ADDRESS. A read of MBX_DATA keeps a replay
record (R479). -/
def Device.serveCspace (s : Device) (h : Nat) (p : Pkt) (seen : List Nat) : Served :=
  let off := gOff p.addr
  let g := s.agentOf p
  if p.typ = tRead then
    if (mailboxAt off).isSome ∧ s.recordRoom h = false then s.waitFull seen 2 F.prtRmAtomFull h
    else
      let r := s.cRead g off (8 * p.arg)
      if !r.1.1 then .done (r.2.refuse h p stAddress)
      else
        let s := r.2.accept h p
        let bs := leBytes 8 r.1.2.toNat
        let s := if (mailboxAt off).isSome then s.modPort h (fun x => x.record p bs) else s
        .done (s.reply h p stOk bs)
  else if p.typ = tWrite ∨ p.typ = tMcast then
    if s.pairRefuses p then .done (s.refuse h p stWriteSet)
    else
      let r := s.cWrite g off (reqLen p) (BitVec.ofNat 64 (leNat (p.payload.take 8)))
      if r.1 then .done ((r.2.accept h p).reply h p stOk []) else .done (r.2.refuse h p stAddress)
  else .done (s.refuse h p stAddress)

/-- A duplicate (R325): counted once, answered once its original's effect has been applied (R319), never applied again; where that effect
never comes, it gets no response. -/
def Device.serveDup (s : Device) (h : Nat) (p : Pkt) (seen : List Nat) : Served :=
  let s := if seen.contains 3 then s else (s.fsat F.prtRmSeqDuplicate h 0 1).pmc pmcPrt h 0 0x03 63 1
  let seen := addNew seen 3
  if p.typ = tRead ∧ !boxRead p then
    if gSpace p.addr = 3 then s.serveCspace h p seen else s.serveRead h p seen
  else if p.typ = tAtomic ∨ p.typ = tRead then
    if s.owed p then .dup s seen
    else
    match (s.port h).replay p with
    | some r => .done ((s.fsat F.prtRmAtomReplayed h 0 1).reply h p stOk (r.prior ++ List.replicate (16 - r.prior.length) 0))
    | none => .done (s.fsat F.prtRmAtomReplayMiss h 0 1)
  else if s.owed p then .dup s seen
  else if ((s.port h).window p).any (fun e => e.refused.contains (seqVal p)) then .done s
  else .done (s.reply h p stOk [])

/-! ## The gateway's agent (R304, R305, R436, R481) -/

/-- The partner of a device of a pair that this gateway has learned. -/
def Device.pairOf (s : Device) (d : Nat) : Option Nat :=
  let v := s.ctl.pairs.get 0 d
  if v = 0 then none else some (v - 1)

/-- The partner that holds the lease, by the last beacons; before any, the lower device number. -/
def Device.holderOf (s : Device) (a b : Nat) : Nat :=
  if s.ctl.roles.get 0 a = 1 then a else if s.ctl.roles.get 0 b = 1 then b else min a b

/-- The agent's own request for a host's: MGMT goes to DST, everything else to ADDR's device; of a pair, a write to its
memory or its FRM_LEN_PEND goes to both partners, a read of its memory to the lease holder. (DEDUCED, log entry 99) -/
def Device.agentPkt (s : Device) (p : Pkt) : Pkt :=
  let d := if p.typ = tMgmt then p.dst else gDev p.addr
  let q : Pkt := { p with src := s.self, seng := 133, hops := 0, dst := d, last := false }
  match (if p.typ = tMgmt ∨ s.ctl.loading.contains d then none else s.pairOf d) with
  | none => q
  | some e =>
    if p.typ = tWrite ∧ (gSpace p.addr ≠ 3 ∨ isLenPend p.addr) then
      { q with typ := tMcast, mgrp := d / 32, dst := 32 * (d / 32), mask := 2 ^ (d % 32) + 2 ^ (e % 32) }
    else if p.typ = tRead ∧ gSpace p.addr ≠ 3 then
      let h := s.holderOf d e
      { q with dst := h, addr := gAddr h (gSpace p.addr) (gOff p.addr) }
    else q

/-- What the agent learns from the loads that pass through it: commands LOAD, LOAD_END and UNLOAD, and the images' headers. -/
def Device.learnLoad (s : Device) (p : Pkt) : Device :=
  let d := gDev p.addr
  if p.typ = tMbxWrite then
    let opc := leNat (p.payload.take 1)
    if opc = 0x04 then
      s.modCtl (fun c => { c with loading := addNew c.loading d, headers := c.headers.clear (64 * d) (64 * d + 64),
                                  pairs := c.pairs.del d })
    else if opc = 0x05 then
      let h := readBytes s.ctl.headers (64 * d) 64
      let e := leNat ((h.drop 0x3E).take 2)
      s.modCtl (fun c => { c with
        loading := c.loading.filter (· != d)
        pairs := if c.loading.contains d && leNat (h.take 4) == 0x494A5842 && decide (e < 1024) then c.pairs.set 0 d (e + 1)
                 else c.pairs })
    else if opc = 0x06 then
      s.modCtl (fun c => { c with loading := c.loading.filter (· != d), pairs := c.pairs.del d })
    else s
  else if p.typ = tWrite ∧ gSpace p.addr = 2 ∧ s.ctl.loading.contains d ∧ gOff p.addr < 64 then
    s.modCtl (fun c => { c with
      headers := writeBytes c.headers (64 * d + gOff p.addr) ((p.payload.take (reqLen p)).take (64 - gOff p.addr)) })
  else s

/-- A host's request is still outstanding under the agent. -/
def isHostAttempt (p : Pkt) (r : Req) : Bool :=
  r.kind == .hostReq && r.stage == .sent && r.d == p.src && r.loc == p.seq && r.op == p.seng && r.t == p.dst

/-- The key under which the windows and replay records of a gateway hold a host's request: its node number past the device
numbers, SENG 255 so that its values count modulo 2^32 (R320). -/
def hostKey (p : Pkt) : Pkt := { p with src := 1024 + 256 * p.src + p.seng % 256, seng := 255 }

/-- The request of a host behind one of the agent's, as the gateway's windows know it. -/
def hostPkt (r : Req) : Pkt :=
  { blankPkt with src := r.d, seq := r.loc, seng := r.op, dst := r.t, addr := r.gaddr, typ := r.pkt.typ }

/-- Keys of host requests under way at a port die that will enter its table once they are answered (R305, R327). -/
def Device.keysDue (s : Device) (h : Nat) : List (Nat × Nat × Nat) :=
  (((s.reqs.filter (fun r => r.kind == .hostReq && r.slot / 16 == h)).map (fun r => hostKey (hostPkt r))).filter
    (fun k => ((s.port h).window k).isNone)).map (fun k => (k.src, k.seng, k.dst)) |>.eraseDups

/-- R327: a request's key has an entry in the port die's table, or one is free for it. -/
def Device.windowRoom (s : Device) (h : Nat) (p : Pkt) : Bool :=
  ((s.port h).window p).isSome || (s.keysDue h).contains (p.src, p.seng, p.dst) ||
    decide ((s.port h).windows.length + (s.keysDue h).length < 8192)

/-- A host request accepted at the gateway: new ones and repeated reads are issued by the agent; a repeated write is answered;
a repeated mailbox read is answered from its replay record. (DEDUCED, log entry 99) -/
def Device.proxy (s : Device) (z : Nat) (p : Pkt) (seen : List Nat) : Served :=
  let h := z / 16
  let box := boxRead p
  let answer (s : Device) (bs : List Byte) : Served := .done (s.toHost p.src (respond p s.self stOk bs s.epoch))
  if s.reqs.any (isHostAttempt p) then .done s
  else if ((s.port h).window (hostKey p)).any (fun e => e.dup p.seq (2 ^ 32)) ∧ (p.typ ≠ tRead ∨ box) then
    let s := if seen.contains 3 then s else (s.fsat F.prtRmSeqDuplicate h 0 1).pmc pmcPrt h 0 0x03 63 1
    if box then
      match (s.port h).replay (hostKey p) with
      | some r => answer (s.fsat F.prtRmAtomReplayed h 0 1) r.prior
      | none => .done (s.fsat F.prtRmAtomReplayMiss h 0 1)
    else answer s []
  else if !s.windowRoom h (hostKey p) then s.waitFull seen 0 F.prtRmSeqFull h
  else if box && !s.recordRoom h then s.waitFull seen 2 F.prtRmAtomFull h
  else if !s.seqRoom 133 (s.agentPkt p).dst then .waits s seen
  else
    let r := (s.learnLoad p).stamp (s.agentPkt p)
    let s := r.2.addReq { kind := .hostReq, stage := .sent, c := 16, d := p.src, loc := p.seq, op := p.seng, t := p.dst, slot := z,
                          gaddr := p.addr, len := reqLen p, pkt := r.1 }
    .done (s.launch r.1)

/-- The tick stamp of a request differs from this device's tick number (R321). -/
def Device.staleStamp (s : Device) (p : Pkt) : Bool := decide (p.seng ≤ 131) && p.seq / 2 ^ 20 != s.fr.tick % 4096

/-- R319 from the stamp check on. -/
def Device.serveFabric (s : Device) (v : Via) (p : Pkt) (seen : List Nat) : Served :=
  let h := s.homePort v p
  if s.staleStamp p then .done (s.fsat F.prtRmSeqStale h 0 1)
  else if ((s.port h).window p).any (fun e => e.dup (seqVal p) (seqMod p.seng)) then s.serveDup h p seen
  else if !s.windowRoom h p then s.waitFull seen 0 F.prtRmSeqFull h
  else if p.typ = tMgmt then
    let r := s.mgmtOrder p
    .done ((if r.1 = stOk then r.2.accept h p else r.2).reply h p r.1 [])
  else if p.typ = tMbxWrite then .done (s.serveMbx h p)
  else if gSpace p.addr = 3 then s.serveCspace h p seen
  else if s.jobState = jLoading ∧ ofHost p ∧ p.typ = tWrite ∧ gSpace p.addr = 2 then s.loadWrite h p
  else if p.typ = tRead then s.serveRead h p seen
  else if p.typ = tAtomic ∨ p.typ = tReduce then s.serveAtomic v h p seen
  else s.serveStore v h p seen

/-- A request is served at its home, or proxied where it came from a host. (DEDUCED, log entry 101) -/
def Device.serveOnce (s : Device) (v : Via) (p : Pkt) (seen : List Nat) : Served :=
  match v with
  | .lane z => if s.laneRole z = rHost then s.proxy z p seen else s.serveFabric v p seen
  | .own => s.serveFabric v p seen

/-- The port die at whose input a request waits: its home, or for a host's the one it came to. -/
def Device.inputPort (s : Device) (v : Via) (p : Pkt) : Nat :=
  match v with
  | .lane z => if s.laneRole z = rHost then z / 16 else s.homePort v p
  | .own => s.homePort v p

/-- What became of a request at a port die's input. -/
def Device.settled (h : Nat) (e : Waiting) : Served → Device
  | .done s => s
  | .waits s l => s.modPort h (fun x => { x with input := x.input ++ [{ e with seen := l }] })
  | .held s l => s.modPort h (fun x => { x with held := x.held ++ [{ e with seen := l }] })
  | .dup s l => s.modPort h (fun x => { x with dups := x.dups ++ [{ e with seen := l }] })

/-- A request is at its home: served, or queued behind what waits at the same input (R327, R335, R338). -/
def Device.serveHere (s : Device) (v : Via) (p : Pkt) : Device :=
  let h := s.inputPort v p
  if (s.port h).input.any (fun e => e.via == v) then s.modPort h (fun x => { x with input := x.input ++ [{ pkt := p, via := v }] })
  else Device.settled h { pkt := p, via := v } (s.serveOnce v p [])

/-- A request comes from a lane, or from this device: a READ of HBM4 goes on to its controller (R318); a tile's has come there. -/
def Device.serve (s : Device) (v : Via) (p : Pkt) : Device :=
  let host := match v with
    | .lane z => s.laneRole z == rHost
    | .own => decide (p.seng ≤ 127)
  match (if host then none else s.readUnit p) with
  | some u => s.cross (36 + arrivalPort v p) u (.homeward v p) (fun s => s.serveHere v p)
  | none => s.serveHere v p

/-- What waits at an input of a port die is tried again, in order; what waits behind another of its input is not examined. -/
def Device.retry (s : Device) (h : Nat) : Device :=
  let l := (s.port h).input
  (List.range l.length).foldl (fun s i =>
    match l[i]? with
    | none => s
    | some e =>
      if (s.port h).input.any (fun f => f.via == e.via) then s.modPort h (fun x => { x with input := x.input ++ [e] })
      else Device.settled h e (s.serveOnce e.via e.pkt e.seen))
    (s.modPort h (fun x => { x with input := [] }))

def Device.retryAll (s : Device) : Device := (List.range 4).foldl Device.retry s

/-- Requests held for the confirm point or a page repair are served in arrival order (R164, R263). -/
def Device.serveHeld (s : Device) : Device :=
  (List.range 4).foldl (fun s h =>
    (s.port h).held.foldl (fun s e => Device.settled h e (s.serveOnce e.via e.pkt e.seen)) (s.modPort h (fun x => { x with held := [] }))) s

/-- Duplicates whose original has had its effect are answered (R325). -/
def Device.serveDups (s : Device) : Device :=
  (List.range 4).foldl (fun s h =>
    (s.port h).dups.foldl (fun s e => Device.settled h e (s.serveOnce e.via e.pkt e.seen)) (s.modPort h (fun x => { x with dups := [] }))) s

/-- PAGE_REPAIR (R263): the reads that waited for the page are served. -/
def execPageRepair (page : Nat) (s : State) : Host.Outcome State Fault Refusal :=
  onDevice (fun s => if s.mem.heldPages.contains page then (s.repairPage page).serveHeld else s) s

/-! ## Drains (R334) -/

/-- Change the entry of a line. -/
def Device.modComb (s : Device) (p line : Nat) (f : Comb → Comb) : Device :=
  s.modPort p (fun x => { x with combs := x.combs.map (fun e => if e.line = line then f e else e) })

/-- DRAIN: an entry with enabled bytes and no drain in flight issues them. -/
def Comb.drain (e : Comb) : Comb :=
  { e with draining := true, drainEn := e.enable, drainData := e.data, enable := 0
           waiters := e.waiters.map (fun w => { w with inDrain := true }) }

/-- Every store of a drain lands a scheduled transfer (R201). -/
def Comb.isStaged (e : Comb) : Bool := !e.waiters.isEmpty && e.waiters.all (fun w => decide (128 ≤ w.pkt.seng ∧ w.pkt.seng ≤ 131))

/-- The bytes of a drain have reached the controller, over the ASSIGN that counts them at `cc`, if any (R204). -/
def Device.drainCame (s : Device) (p line : Nat) (cc : Option Nat) : Device :=
  if (s.port p).combs.any (fun e => e.line == line && e.draining && !e.atCtl) then
    (s.modComb p line (fun e => if e.draining then { e with atCtl := true, cc := cc } else e)).arriveAt line (36 + p) (.drain p)
  else s

def Device.drainLine (s : Device) (p line : Nat) : Device :=
  match (s.port p).combs.find? (fun e => e.line == line) with
  | none => s
  | some e =>
    if e.enable = 0 ∨ e.draining then s
    else (s.modComb p line Comb.drain).toController p line (.drain p line e.isStaged) (fun s => s.drainCame p line none)

def execDrain (p : Nat) (line : Nat) (s : State) : Host.Outcome State Fault Refusal :=
  onUnits (portOk p) (fun s => s.drainLine p line) s

/-- A released request: its count, and its response (R319, R331). -/
def Device.release (s : Device) (w : Waiter) : Device :=
  if s.owed w.pkt then s
  else
    let s := if w.pkt.ccEn then s.countCc w.pkt.cc else s
    s.reply (arrivalPort w.via w.pkt) w.pkt stOk (if w.pkt.typ = tAtomic then w.prior ++ List.replicate (16 - w.prior.length) 0 else [])

/-- The entry after its drain: freed when nothing waits on it. -/
def Comb.drained (e : Comb) : Option Comb :=
  let e := { e with draining := false, drainEn := 0, drainData := 0, atCtl := false, cc := none, waiters := e.waiters.filter (fun w => !w.inDrain) }
  if e.enable = 0 ∧ e.waiters.isEmpty ∧ e.ops.isEmpty then none else some e

/-- A request whose line was refused at its controller gets no response, and its duplicates none (R265). -/
def Device.forget (s : Device) (p : Pkt) : Device :=
  let s := s.neverApplied p
  { s with ports := s.ports.map (fun e => (e.1, { e.2 with
      combs := e.2.combs.map (fun c => { c with waiters := c.waiters.filter (fun w => !samePkt w.pkt p) }) })) }

/-- DRAIN_APPLIED: the controller writes the bytes, in their turn (R246), and never to a lost channel (R253); an armed parity flip makes it refuse them (R265, R506). -/
def Device.drainApplied (s : Device) (p line : Nat) : Device :=
  match (s.port p).combs.find? (fun e => e.line == line) with
  | none => s
  | some e =>
    if !e.draining || !e.atCtl || s.mem.lost line then s
    else
      match s.accessFor true line (some (.drain p)) with
      | none => s
      | some s =>
        let s := s.leaveQueue line (.drain p)
        let done := e.waiters.filter Waiter.inDrain
        let s1 := s.modPort p (fun x => { x with
          combs := x.combs.filterMap (fun c => if c.line = line then c.drained else some c) })
        if s1.flipArmed ptFabric p 0 then
          (done.foldl (fun s w => s.forget w.pkt) (s1.flipFires.writeParity (64 * line) true)).serveDups.retryAll
        else
          let s2 := (s1.modMem (fun m => m.writeLine line e.drainData e.drainEn)).countMem true (64 * line) 64
          let s2 := match e.cc with
            | some k => s2.countCc k
            | none => s2
          (done.foldl (fun s w => s.release w) s2).serveDups.retryAll

def execDrainApplied (p : Nat) (line : Nat) (s : State) : Host.Outcome State Fault Refusal :=
  onUnits (portOk p) (fun s => s.drainApplied p line) s

/-! ## Atomics (R336–R338) -/

/-- The value an atomic stores, of `n` bytes, from the prior value, the operand and the new value of a compare-swap. -/
def atomicResult (op n prior a b : Nat) : Nat :=
  match op with
  | 0 => (prior + a) % 2 ^ 64
  | 1 => ((Ewa.ofNat prior).add (Ewa.ofNat a)).toNat
  | 2 => a
  | 3 => if prior = a then b else prior
  | 4 => if signed (8 * n) a < signed (8 * n) prior then a else prior
  | 5 => if signed (8 * n) prior < signed (8 * n) a then a else prior
  | 6 => Nat.land prior a
  | 7 => Nat.lor prior a
  | _ => Nat.xor prior a

/-- EWA values of a REDUCE added to stored ones (R62, R66). -/
def reduceBytes : List Byte → List Byte → Nat → List Byte
  | _, _, 0 => []
  | old, new, k + 1 =>
    leBytes 16 ((Ewa.ofNat (leNat (old.take 16))).add (Ewa.ofNat (leNat (new.take 16)))).toNat ++
      reduceBytes (old.drop 16) (new.drop 16) k

/-- The bytes an operation on a line stores, and the prior value it returns. -/
def opBytes (p : Pkt) (old : List Byte) : List Byte × List Byte :=
  let n := reqLen p
  if p.typ = tAtomic then
    let prior := leNat (old.take n)
    let new := atomicResult (p.arg % 16) n prior (leNat (p.payload.take n)) (leNat ((p.payload.drop n).take n))
    (leBytes n new, leBytes n prior)
  else (reduceBytes old p.payload (p.payload.length / 16), [])

/-- The stores that wait behind an executed atomic, up to the next one, merge. (DEDUCED, log entry 114) -/
def Comb.settleOps : Comb → List (Pkt × Via) → Comb
  | e, [] => { e with ops := [] }
  | e, o :: l =>
    if o.1.typ = tAtomic ∨ o.1.typ = tReduce then { e with ops := o :: l }
    else
      match (linePieces (gOff o.1.addr) o.1.payload).head? with
      | some q => Comb.settleOps (({ e with ops := [] } : Comb).put q.2.1 q.2.2 o.1 o.2) l
      | none => Comb.settleOps e l

/-- Execute the first operation of a whole entry. (DEDUCED, log entry 114) -/
def Comb.execute (e : Comb) (p : Pkt) (v : Via) (rest : List (Pkt × Via)) : Comb × List Byte :=
  let o := gOff p.addr % 64
  let (new, prior) := opBytes p ((bytesOfLine e.data).drop o)
  let q := (linePieces o new).headD (0, 0, 0)
  (({ e with
      data := mergeLine e.data q.2.1 q.2.2, enable := e.enable ||| q.2.2
      waiters := e.waiters ++ [{ pkt := p, via := v, prior := prior }] } : Comb).settleOps rest, prior)

/-- The entry with its whole line, read from the controller behind every drain (R337). (DEDUCED, log entry 114) -/
def Comb.withLine (e : Comb) (m : Memory) : Comb :=
  if e.whole then e else { e with asked := false, come := false, data := mergeLine (m.lineAt e.line) e.data e.enable, whole := true }

/-- An entry's request for its line has come to the controller, which sends the line back; and the entry asks for it (R246, R337). -/
def Device.lineBack (s : Device) (p line : Nat) : Device :=
  (if (s.port p).combs.any (fun e => e.line == line && e.asked) && !s.queuedAt line (.atomic p) then s.arriveAt line (36 + p) (.atomic p)
    else s).fromController p line (.fetched p line) (fun s => s.modComb p line (fun e => { e with come := true }))
def Device.askLine (s : Device) (p line : Nat) : Device :=
  (s.modComb p line (fun e => { e with asked := true })).toController p line (.fetch p line) (fun s => s.lineBack p line)

/-- An entry without its whole line asks for it, behind its drain; and the entry then. -/
def Device.wantLine (s : Device) (p line : Nat) (e : Comb) : Device :=
  if e.whole || e.asked || e.draining then s else s.askLine p line

/-- ATOMIC_EXECUTE: the oldest atomic, or line of a REDUCE, of an entry, once the port die has the whole line. One on an unreadable line is
dropped without a response (R261); on a lost channel nothing happens (R253). (DEDUCED, log entries 102 and 114) -/
def Device.atomicExec (s : Device) (p line : Nat) : Device :=
  match (s.port p).combs.find? (fun e => e.line == line) with
  | none => s
  | some e =>
    match e.ops with
    | [] => s
    | o :: rest =>
      let s := s.wantLine p line e
      let here := e.whole || ((s.port p).combs.find? (fun c => c.line == line)).any Comb.come
      if e.draining && !e.whole || !here || s.mem.lost line || (!e.whole && (s.accessFor true line (some (.atomic p))).isNone) then s
      else if !e.whole && s.mem.unreadable line then
        ((s.leaveQueue line (.atomic p)).modPort p (fun x => { x with combs := x.combs.filterMap (fun c =>
          if c.line = line then
            let c := (({ c with ops := [], asked := false, come := false } : Comb)).settleOps rest
            (if c.enable = 0 ∧ !c.draining ∧ c.waiters.isEmpty ∧ c.ops.isEmpty then none else some c)
          else some c) })).neverApplied o.1 |>.uncorrected line
      else
        let r := (e.withLine s.mem).execute o.1 o.2 rest
        let s := if e.whole then s else ((s.accessFor true line (some (.atomic p))).getD s).leaveQueue line (.atomic p)
        let s := s.modPort p (fun x => { x with combs := x.combs.map (fun c => if c.line = line then r.1 else c) })
        if o.1.typ = tAtomic then
          (s.modPort (s.homePort o.2 o.1) (fun x => x.record o.1 r.2)).pmc pmcPrt p 0 0x05 63 1
        else s

def execAtomicExecute (p : Nat) (line : Nat) (s : State) : Host.Outcome State Fault Refusal :=
  onUnits (portOk p) (fun s => s.atomicExec p line) s

/-- REPLAY_RECORD_RELEASE (R338). -/
def execReplayRecordRelease (p src seng dst seq : Nat) (s : State) : Host.Outcome State Fault Refusal :=
  onUnits (portOk p) (fun s => (s.modPort p (fun x => { x with
    replays := x.replays.filter (fun r => !(r.src == src && r.seng == seng && r.dst == dst && r.seq == seq)) })).retryAll) s

/-- WINDOW_ENTRY_RELEASE (R327): an entry of a requester other than a stream engine or a transfer scheduler. -/
def execWindowEntryRelease (p src seng dst : Nat) (s : State) : Host.Outcome State Fault Refusal :=
  onUnits (portOk p) (fun s =>
    if seng ≤ 131 then s
    else (s.modPort p (fun x => { x with
      windows := x.windows.filter (fun e => !(e.src == src && e.seng == seng && e.dst == dst)) })).retryAll) s

/-! ## Traffic that has crossed the Plinth -/

/-- A tile's request is at its site: a partner of a mirror pair rejects an ATOMIC to another device (R436), and one without an effective lease
completes an outward request itself (R437, R440). -/
def Device.landRequest (s : Device) (id : Nat) (p : Pkt) : Device :=
  match s.reqs.find? (fun r => r.id == id && r.stage == .sent) with
  | some r =>
    if r.kind == .atomic && s.pairRejects (gDev r.gaddr) then s.answerReq r stWriteSet []
    else if s.mute && gDev r.gaddr != s.self && r.kind != .m2ld && r.kind != .sld && r.kind != .get && r.kind != .atomic then
      s.answerReq r stOk []
    else s.launch p
  | none => s.launch p

/-- What crossed the Plinth is taken at its unit. -/
def Device.land (s : Device) (cc : Option Nat) : Dyn → Device
  | .request id p => s.landRequest id p
  | .response p => s.emit (.request p)
  | .onward p => s.transmit p
  | .homeward v p => s.serveHere v p
  | .drain p l _ => s.drainCame p l cc
  | .fetch p l => s.lineBack p l
  | .fetched p l => s.modComb p l (fun e => { e with come := true })

/-- Where no phase map is in force any more, what waited for a channel is not delayed. (DESIGN CHOICE, log entry 123) -/
def Device.freeTraffic (s : Device) : Device :=
  if s.mapped then s
  else s.pln.waiting.foldl (fun s e => e.2.foldl (fun s d => s.land none d) s) (s.modPln (fun p => { p with waiting := [] }))

end Sys2Proof.Machine
end

