-- ==== Sys2Proof/Machine/Cells.lean ====
section
/-! DEFINITION. What a receiver makes of the blocks of a λ-channel (R195, R197, R198, R204, R220). -/

namespace Sys2Proof.Machine

/-- A receiver without block boundaries counts the blocks in a row that have a zero syndrome (R195). -/
def Device.seekSync (s : Device) (rx : Nat) (errors : List (Nat × Nat)) : Device :=
  s.modPln (fun p => { p with
    sync := p.sync.set 0 rx (if zeroSyndrome (errorPattern errors) then p.sync.get 0 rx - 1 else syncBlocks) })

/-- Blocks in a row without the channel's identity (R220). -/
def Device.countWrong (s : Device) (rx : Nat) : Device := s.modPln (fun p => { p with wrongRun := p.wrongRun.upd 0 rx (· + 1) })

/-- A channel's cells in flight are these. -/
def Device.setFlight (s : Device) (key : Nat) (l : List Cell) : Device := s.modPln (fun p => { p with flight := p.flight.set [] key l })

/-- The block with this cell, if any, is lost (R198). -/
def Device.loseHead (s : Device) (t b key : Nat) (head : Option (Cell × List Cell)) : Device :=
  match head with
  | some (c, rest) => (s.setFlight key rest).loseCell t b (some c)
  | none => s.loseCell t b none

/-- The counter at which a cell's ASSIGN counts its lines (R204). -/
def Device.cellCc (s : Device) (c : Cell) : Option Nat :=
  ((s.mapOf c.phase)[c.entry]?).bind (fun e => if e.isStatic && e.ccEn then some e.cc else none)

/-- A good cell arrives: dynamic traffic is taken at its unit, a line is accepted; a window write that finds its send queue full waits
(R202). -/
def Device.takeCell (s : Device) (t b key : Nat) (c : Cell) (rest : List Cell) (tickClear : Bool) : Device :=
  match c.dyn, (s.mapOf c.phase)[c.entry]? with
  | some d, _ => (((if isCompute t then s.adapt t (rxGroup b) c.count else s).setFlight key rest).siteEvent t 0x02 b c.count).land (s.cellCc c) d
  | none, none => s.setFlight key rest
  | none, some e =>
    if isCompute t && !s.lbRoom t e.edge (e.dstLine + c.index) then s.siteEvent t 0x05 b 1
    else (s.setFlight key rest).acceptCell b c e tickClear

/-- CELL_RECEIVE: a block reaches a site's receiver for a channel, with these byte errors. One that does not decode, or whose header CRC
fails, is lost, as is one that comes to a site cut off by a crossing or isolated (R356, R358); one that carries another channel's identity is
discarded and counted. -/
def Device.cellReceive (s : Device) (t b k sb sk : Nat) (errors : List (Nat × Nat)) (headerOk tickClear : Bool) : Device :=
  let key := chKey b k
  let rx := rxKey t b k
  let head := Sys2Proof.Machine.takeCell (s.pln.flight.get [] key) t
  if !s.reaches b t then (if head.isSome then s.loseHead t b key head else s)
  else if s.pln.sync.get 0 rx ≠ 0 && !head.any (fun h => h.1.started) then
    ((if head.isSome then s.loseHead t b key head else s).seekSync rx errors).countWrong rx
  else if !correctable errors then (s.loseHead t b key head).countWrong rx
  else
    let s := s.fsat F.plnFecCorrBytes (busQuad b) 0 (wrongBytes errors)
    if !headerOk then (s.loseHead t b key head).countWrong rx
    else if chKey sb sk ≠ key then ((s.fsat F.plnErrWrongId (siteQuad t) 0 1).siteEvent t 0x08 b 1).countWrong rx
    else
      let s := s.modPln (fun p => { p with wrongRun := p.wrongRun.set 0 rx 0 })
      match head with
      | none => s
      | some (c, rest) => s.takeCell t b key c rest tickClear

def execCellReceive (site bus chan sentBus sentChan : Nat) (errors : List (Nat × Nat)) (s : State)
    (headerOk : Bool := true) (tickClear : Bool := false) : Host.Outcome State Fault Refusal :=
  onUnits (siteOk site && chanOk bus chan && chanOk sentBus sentChan && passes bus site)
    (fun s => s.cellReceive site bus chan sentBus sentChan errors headerOk tickClear) s

end Sys2Proof.Machine
end

