-- ==== Sys2Proof/Machine/Power.lean ====
section
/-! DEFINITION. The Curator's own requests (R320), power capping, the brake, load steps, coordination (R372–R389, R424). -/

namespace Sys2Proof.Machine

/-! ## Requests of the Curator -/

/-- The Curator issues a request (SENG 132); `op` says what its response serves. -/
def Device.curSend (s : Device) (p : Pkt) (d op : Nat) : Device :=
  let q : Pkt := { p with src := s.self, seng := 132 }
  if s.seqRoom 132 q.dst then
    let r := s.stamp q
    (r.2.addReq { kind := .reg, stage := .sent, c := 16, gaddr := r.1.addr, len := reqLen r.1, d := d, op := op, pkt := r.1 }).launch r.1
  else s.addReq { kind := .reg, stage := .tracker, c := 16, gaddr := q.addr, len := reqLen q, d := d, op := op, pkt := q }

/-- The Curator's requests that waited for room under R322 are issued, in order. -/
def Device.curNext (s : Device) : Device :=
  (s.reqs.filter (fun r => r.kind == .reg && r.stage == .tracker)).foldl (fun s r =>
    if s.seqRoom 132 r.pkt.dst then
      let q := s.stamp r.pkt
      (q.2.modReq r.id (fun x => { x with stage := .sent, pkt := q.1 })).launch q.1
    else s) s

/-- A WRITE of a register of a device. -/
def regWritePkt (dev off v : Nat) : Pkt :=
  { blankPkt with dst := dev, typ := tWrite, len := 1, arg := 8, addr := gAddr dev 3 off, payload := leBytes 16 (v % 2 ^ 64) }

/-- What a Curator's request serves. -/
def opReport : Nat := 20
def opAssign : Nat := 21

/-! ## Limits and averages (R372–R374) -/

/-- L. -/
def Device.limit (s : Device) : Nat := s.fget F.pwrLimitEffective

/-- The `n` latest 1 ms averages, summed, in units of 10 µJ. (DEDUCED, log entry 95) -/
def lastSum (l : List Nat) (n : Nat) : Nat := (l.drop (l.length - n)).sum

/-- The mean of the `n` latest 1 ms averages, in W; of those there are, before there are `n`. (DEDUCED, log entry 95) -/
def lastMean (l : List Nat) (n : Nat) : Nat := lastSum l n / (100 * max 1 (min n l.length))

/-- PWR_STATUS.STATE (R403). (DEDUCED, log entry 95) -/
def Device.showPower (s : Device) : Device :=
  let x := s.pwr
  let s := s.fset F.pwrStatusState 0 0 (if x.brake then 2 else if x.floor then 3 else if x.excursion ≠ 0 then 1 else 0)
  s.fset F.pwrStatusExcMs 0 0 (min 31 x.excursion)

/-! ## Skip counts (R382) -/

/-- The skip in force: the largest of power, thermal and brake. -/
def Device.skipOf (s : Device) (c : Nat) : Nat :=
  max (max (s.die c).kPower (s.thm.skip.get 0 c))
    (if s.pwr.brake && s.fget F.glbSiteStatus 0 c == siInService then 12 else 0)

def Device.showSkip (s : Device) (c : Nat) : Device := s.fset F.clkSkipK 0 c (s.skipOf c)
def Device.showSkips (s : Device) : Device := (List.range 16).foldl (fun s c => s.showSkip c) s

/-! ## The brake (R378) -/

/-- The brake engages: an up-step under way ends at the present step (R382). -/
def Device.engageBrake (s : Device) : Device :=
  if s.pwr.brake then s
  else
    let s := ((s.modPwr (fun p => { p with brake := true })).fsat F.pwrExcBrakes 0 0 1).note
      { kind := kPwr, prio := 2, cls := 1, cause := 25 }
    let s := (List.range 16).foldl (fun s c =>
      if ((s.die c).changeTo).any (fun t => decide (s.domStep c < t)) then
        (s.fset F.clkDomTarget 0 c (s.domStep c)).modDie c (fun y => { y with newTarget := true })
      else s) s
    s.showSkips.showPower

/-- The end of a 1 ms average: the excursion, its figures, and the end of the brake (R374, R378). -/
def Device.endMs (s : Device) : Device :=
  let sum := s.pwr.block.sum
  let above := decide (100 * s.limit < sum)
  let s := s.modPwr (fun p => { p with
    block := [], avg1ms := (p.avg1ms ++ [sum]).drop (p.avg1ms.length + 1 - 10000)
    excursion := if above then p.excursion + 1 else 0, brake := p.brake && above })
  let s := if s.pwr.excursion = 1 then s.fsat F.pwrExcExcursions 0 0 1 else s
  let s := s.fset F.pwrExcLongest 0 0 (max (s.fget F.pwrExcLongest) (min 255 s.pwr.excursion))
  let s := ((s.fset F.pwrStatusP1ms 0 0 (sum / 100)).fset F.pwrStatusP1s 0 0 (lastMean s.pwr.avg1ms 1000)).fset
    F.pwrStatusP10s 0 0 (lastMean s.pwr.avg1ms 10000)
  let s := if 19 ≤ s.pwr.excursion then s.engageBrake else s
  s.showSkips.showPower

/-- Energy measured since the start tick, in units of 10 J (R385, R407). -/
def Device.countEnergy (s : Device) (w : Nat) : Device :=
  if s.running then
    let s := s.modPwr (fun p => { p with measured := p.measured + w })
    s.fset F.pwrEnJobMeasured 0 0 (min (2 ^ 32 - 1) (s.pwr.measured / 1000000))
  else s

/-- POWER_SAMPLE: the mean input power over 10 µs. -/
def Device.powerSample (s : Device) (w : Nat) : Device :=
  let s := (s.countEnergy w).modPwr (fun p => { p with
    last10 := (p.last10 ++ [w]).drop (p.last10.length + 1 - 10), block := p.block ++ [w] })
  let s := if s.pwr.last10.length = 10 ∧ 12 * s.limit ≤ s.pwr.last10.sum then s.engageBrake else s
  if s.pwr.block.length = 100 then s.endMs else s

def execPowerSample (watts : Nat) (s : State) : Host.Outcome State Fault Refusal :=
  onDevice (fun s => s.powerSample watts) s

/-! ## The budget and its shares (R375–R377) -/

/-- b, in W. -/
def Device.inputBudgetW (s : Device) : Nat :=
  let l := s.limit
  let b : Int := min ((100000 * l : Nat) - (lastSum s.pwr.avg1ms 999 : Nat))
    (min ((1000000 * l : Nat) - (lastSum s.pwr.avg1ms 9999 : Nat)) (125 * l : Nat))
  let b := if 18 ≤ s.pwr.excursion then min b (100 * l : Nat) else b
  b.toNat / 100

/-- Classes 0 MEMORY, 1 COMPUTE, 2 LINKS in the order that POWER_ORDER declares. -/
def Device.powerOrder (s : Device) : List Nat :=
  let o := if s.fr.job.isSome then s.job.powerOrder else 0x24
  [o % 4, o / 4 % 4, o / 16 % 4]

/-- The draws of one control period (R375, R377, R379, R380): of FIXED, demands and floors of the classes and the DDR5 tier's draw in W; the
stacks' dynamic demands and the HBM4 stacks' demands in mW. -/
structure Draws where
  fixedW : Nat
  dC : Nat
  fC : Nat
  dM : Nat
  fM : Nat
  dL : Nat
  fL : Nat
  ddrW : Nat
  stackDyn : List Nat
  hbmDemand : List Nat
  deriving DecidableEq, Repr

/-- Demands and floors of the classes. -/
def demandOf (x : Draws) (k : Nat) : Nat := if k = 0 then x.dM else if k = 1 then x.dC else x.dL
def floorOf (x : Draws) (k : Nat) : Nat := if k = 0 then x.fM else if k = 1 then x.fC else x.fL

/-- What the classes get above their floors, in order (R377): extras by class, and what is left. -/
def extras (x : Draws) : List Nat → Int → List (Nat × Int) × Int
  | [], avail => ([], avail)
  | k :: ks, avail =>
    let e : Int := min ((demandOf x k : Int) - floorOf x k) (max avail 0)
    let r := extras x ks (avail - e)
    ((k, e) :: r.1, r.2)

/-- The share of a class. (DEDUCED, log entry 95) -/
def shareOf (x : Draws) (es : List (Nat × Int)) (k : Nat) : Nat :=
  ((floorOf x k : Int) + ((es.find? (fun e => e.1 == k)).map Prod.snd).getD 0).toNat

/-! ## COMPUTE (R379) -/

/-- Dynamic and total demand of a stack of the image, in mW. -/
def Device.dynOf (s : Device) (c : Nat) : Nat := s.pwr.dyn.getD c 0
def Device.stackDemand (s : Device) (c : Nat) : Nat := if bit s.job.stackSet c then s.coef 9 + s.dynOf c else 0

/-- f × V² of a step. -/
def Device.speedPower (s : Device) (c k : Nat) : Nat := (750 + 25 * k) * (s.voltOf c k * s.voltOf c k)

/-- The draw predicted at a step with K of 16 cycles skipped fits the stack's part of the COMPUTE share. -/
def Device.fitsShare (s : Device) (c step k : Nat) : Bool :=
  let fb := s.speedPower c s.budgetStep
  let total := ((List.range 16).map s.stackDemand).sum
  decide ((16 * s.coef 9 * fb + s.dynOf c * s.speedPower c step * (16 - k)) * total ≤
    16 * 1000 * s.fget F.pwrShareCompute * s.stackDemand c * fb)

/-- K_power. -/
def Device.powerSkip (s : Device) (c : Nat) : Nat :=
  if bit s.job.stackSet c then ((List.range 13).find? (fun k => s.fitsShare c (s.domStep c) k)).getD 12 else 0

/-- The step whose predicted draw fits the share, no higher than the budgeted one and FMAX_STEP. (DEDUCED, log entry 95) -/
def Device.powerStep (s : Device) (c : Nat) : Nat :=
  let top := min s.budgetStep (s.fget F.clkDomFmaxStep 0 c)
  ((List.range (top + 1)).reverse.find? (fun k => s.fitsShare c k 0)).getD 0

/-- R396: the thermal manager lets TARGET rise. -/
def Device.mayRaise (s : Device) (c : Nat) : Bool :=
  s.thm.skip.get 0 c == 0 && !s.flag F.clkDomDiv4 0 c && decide (s.thm.coolAt.get 0 c + 1000000 ≤ s.now)

/-- At a tick the Curator writes TARGET of each stack of the image. (DEDUCED, log entries 95 and 97) -/
def Device.writeTargets (s : Device) : Device :=
  if s.pwr.dyn.isEmpty then s
  else
    (List.range 16).foldl (fun s c =>
      let t := s.powerStep c
      let old := s.fget F.clkDomTarget 0 c
      if !bit s.job.stackSet c || t == old || (decide (old < t) && !s.mayRaise c) then s
      else (s.fset F.clkDomTarget 0 c t).modDie c (fun y => { y with newTarget := true })) s

/-! ## MEMORY and LINKS (R380, R381, R227, R282) -/

/-- The token rates: the MEMORY share less the DDR5 draw, in proportion to the stacks' demands. (DEDUCED, log entry 98) -/
def Device.setRates (s : Device) (x : Draws) : Device :=
  let share := s.fget F.pwrShareMemory
  let total := x.hbmDemand.sum
  let rates := (List.range 20).filterMap (fun m =>
    let full := s.memFull m
    let w := (share - x.ddrW) * x.hbmDemand.getD m 0
    let r := max (full / 10) (min full (w * 1000000000 / (max 1 total * max 1 (s.coef 6))))
    if r = 0 then none else some (m, r))
  s.modMem (fun y => { y with rates := if x.dM ≤ share then [] else rates })

/-- Switch lanes that routing does not need: idle, and not the lowest UP lane of a VALID entry of the active tables; the
lanes of the tick tree stay (R282). -/
def Device.spareLanes (s : Device) : List Nat :=
  let up := (List.range 64).filter (fun z => s.laneRole z == rSwitch && s.laneState z == lUp)
  let needed := (s.fab.tables.filter (fun e => e.2.valid && e.1 / 1024 == b2n s.epoch)).filterMap (fun e =>
    up.find? (fun z => bit e.2.lanes.toNat z))
  up.filter (fun z => !needed.contains z && s.fab.laneQ.get 0 z == 0 && !bit s.boot.cat.upLanes z)

/-- The logical channels whose modulators and receivers may be dimmed (R227): those that carry nothing in the current phase, an ungranted pool
channel among them; and those that are. -/
def Device.darkChans (s : Device) : List Nat :=
  (List.range 224).flatMap (fun b => ((List.range (s.chansOf b)).filter (fun k =>
    !(s.lit b k && s.mapNow.any (fun e => e.names b k && (e.typ != tPool || s.pln.grants.get 0 (chKey b k) != 0))))).map (chKey b))
def Device.dimmedChans (s : Device) : List Nat := if s.pwr.dimStage = 0 then [] else s.darkChans

/-- R381: one stage of dimming more, or one less. -/
def Device.dim (s : Device) (covers : Bool) : Device :=
  let k := s.pwr.dimStage
  if covers then
    let s := if k = 2 then
        (List.range 64).foldl (fun s z => if s.laneState z = lDimmed then s.setLane z lUp else s) s
      else s
    s.modPwr (fun p => { p with dimStage := k - 1 })
  else
    let s := if 1 ≤ k then s.spareLanes.foldl (fun s z => s.setLane z lDimmed) s else s
    s.modPwr (fun p => { p with dimStage := min 2 (k + 1) })

/-! ## The draws of a control period (R375, R384, R385) -/

/-- The energy that the λ-channels and the lanes in service take in 1 µs: undimmed ones, or all of them. -/
def Device.linksDraw (s : Device) (chans lanes : Nat) : Nat := s.coef 5 * (50000 * chans) + s.coef 8 * (800000 * lanes)

/-- λ-channels in service, and lanes in a state. -/
def Device.allChans (s : Device) : Nat := ((List.range 224).map s.chansOf).sum
def Device.lanesAt (s : Device) (st : Nat) : Nat := ((List.range 64).filter (fun z => s.laneState z == st)).length

/-- What LINKS draws in a µs is counted, dimmed and undimmed. -/
def Device.linkEnergy (s : Device) : Device :=
  if s.coef 5 = 0 ∧ s.coef 8 = 0 then s
  else
    let n := s.allChans
    let up := s.lanesAt lUp
    (s.addEnergy acLinks (s.linksDraw (n - s.dimmedChans.length) up)).addEnergy acUndimmed (s.linksDraw n (up + s.lanesAt lDimmed))

/-- The energy of an account in the control period that ends, 1 ms; 10⁹ fJ in it are 1 mW. -/
def Device.inPeriod (s : Device) (a : Nat) : Nat := s.energy.get 0 a - s.pwr.sumMs.get 0 a

/-- A stack's dynamic demand, in mW: scaled to K = 0 and to the budgeted step (R375). -/
def Device.dynNow (s : Device) (c : Nat) : Nat :=
  let f (k : Nat) : Nat := 750 + 25 * k
  s.inPeriod (acStack c) * f s.budgetStep * 16 / (f (s.domStep c) * (16 - s.skipOf c)) / 1000000000

/-- Its draw at the present step with K = 12. -/
def Device.dynFloor (s : Device) (c : Nat) : Nat :=
  let fb := s.speedPower c s.budgetStep
  let d := s.dynNow c * 4
  if fb = 0 then d / 16 else d * s.speedPower c (s.domStep c) / (16 * fb)

/-- Bytes that wait for tokens at a stack's controllers. -/
def Device.bytesWaiting (s : Device) (m : Nat) : Nat :=
  if s.lacksTokens m then 64 * ((s.mem.waiting.filter (fun e => e.1 / 32 == m)).map (fun e => e.2.length)).sum else 0

/-- A stack's demand, in mW. -/
def Device.hbmNow (s : Device) (m : Nat) : Nat := (s.inPeriod (acHbm m) + s.coef 6 * s.bytesWaiting m) / 1000000000

/-- The draws that the coefficients give for the control period that ends; demands round down, floors up.
(DEDUCED, log entry 95) -/
def Device.draws (s : Device) : Draws :=
  let ups := (List.range 16).filter (fun c => s.fget F.glbSiteStatus 0 c == siInService)
  let static := ups.length * s.coef 9
  let ddr := s.inPeriod acDdr / 1000000000
  let hbm := (List.range 20).map s.hbmNow
  let tenth := ((List.range 20).map (fun m => s.memFull m / 10 * s.coef 6 / 1000000)).sum
  { fixedW := ceilDiv (s.coef 10) 1000
    dC := (static + ((List.range 16).map s.dynNow).sum) / 1000
    fC := ceilDiv (static + ((List.range 16).map s.dynFloor).sum) 1000
    dM := (ddr + hbm.sum) / 1000
    fM := ceilDiv (ddr + tenth) 1000
    dL := s.inPeriod acUndimmed / 1000000000000
    fL := ceilDiv (s.linksDraw (s.allChans - s.darkChans.length) (s.lanesAt lUp - s.spareLanes.length)) 1000000000
    ddrW := ddr / 1000
    stackDyn := (List.range 16).map s.dynNow
    hbmDemand := hbm }

/-- INPUT_BUDGET (R376, R377): budget, shares, and the controls of the coming millisecond. -/
def Device.inputBudget (s : Device) (x : Draws) : Device :=
  let b := s.inputBudgetW
  let avail : Int := (b * s.coef 11 / 1000 : Nat) - (x.fixedW : Int) - (x.fM + x.fC + x.fL : Nat)
  let r := extras x s.powerOrder avail
  let s := ((s.fset F.pwrShareCompute 0 0 (shareOf x r.1 1)).fset F.pwrShareMemory 0 0 (shareOf x r.1 0)).fset
    F.pwrShareLinks 0 0 (shareOf x r.1 2)
  let s := s.fset F.pwrShareBudget 0 0 b
  let s := s.modPwr (fun p => { p with floor := decide (r.2 < 0), dyn := x.stackDyn, sumMs := s.energy })
  let s := if r.2 < 0 then
      (s.fsat F.pwrExcFloorEvents 0 0 1).note { kind := kPwr, prio := 2, cls := 1, cause := 26 }
    else s
  let s := (List.range 16).foldl (fun s c => let k := s.powerSkip c; s.modDie c (fun y => { y with kPower := k })) s
  ((s.setRates x).dim (decide (x.dL ≤ s.fget F.pwrShareLinks))).showSkips.showPower

/-- The draws are what the energy model has counted: the command carries nothing. -/
def execInputBudget (_ : Unit) (s : State) : Host.Outcome State Fault Refusal := onDevice (fun s => s.inputBudget s.draws) s

/-! ## Load steps (R177, R383) -/

/-- REGULATOR_WARNING, before every tick, tick 0 among them: the setpoint is raised for 20 µs. -/
def execRegulatorWarning (s : State) : Host.Outcome State Fault Refusal :=
  onDevice (fun s => s.modPwr (fun p => { p with raisedUntil := s.now + 20000 })) s

/-- The setpoint of a stack's compute rail, in µV: the Catalogue's voltage of the STEP its regulator is set to (R362, R363), raised by 1.5 % after
a warning (R383). -/
def Device.setpoint (s : Device) (c : Nat) : Nat :=
  s.voltOf c (s.die c).volt * (if s.now < s.pwr.raisedUntil then 1015 else 1000)

/-! ## Regulator phases (R424) -/

/-- REGULATOR_PHASE_FAILURE of a rail: the other phases carry its rating, the spare one among them (R415, R424); a second one derates it to `derated` W. -/
def Device.loseRegPhase (s : Device) (rail derated : Nat) : Device :=
  let n := s.pwr.phaseLoss.get 0 rail + 1
  let s := s.modPwr (fun p => { p with phaseLoss := p.phaseLoss.set 0 rail n })
  if n = 1 then
    ((s.useSpare 8).note { kind := kPwr, prio := 1, cls := 3, cause := 31, unit := rail }).note
      { kind := kPwr, prio := 2, cls := 3, cause := 4, unit := rail }
  else
    (s.modPwr (fun p => { p with derate := some (min derated (p.derate.getD derated)) })).note
      { kind := kPwr, prio := 0, cls := 4, cause := 31, unit := rail }

def execRegulatorPhaseFailure (rail derated : Nat) (s : State) : Host.Outcome State Fault Refusal :=
  onDevice (fun s => s.loseRegPhase rail derated) s

/-! ## Energy of an attempt (R385, R407) -/

/-- The energy of an account since the last tick, and that of a static draw in mW, in fJ. -/
def Device.sinceTick (s : Device) (a : Nat) : Nat := s.energy.get 0 a - s.pwr.sumTick.get 0 a
def Device.staticSince (s : Device) (mw : Nat) : Nat := mw * (s.now - s.pwr.sumTickAt) * 1000

/-- COMPUTE, MEMORY and LINKS energies since the last tick, in fJ. -/
def Device.computeSince (s : Device) : Nat :=
  ((List.range 16).map (fun c =>
    s.sinceTick (acDrawn c) + (if s.fget F.glbSiteStatus 0 c = siInService then s.staticSince (s.coef 9) else 0))).sum
def Device.memorySince (s : Device) : Nat := ((List.range 20).map (fun m => s.sinceTick (acHbm m))).sum + s.sinceTick acDdr
def Device.linksSince (s : Device) : Nat := s.sinceTick acLinks

/-- TOTAL adds FIXED and divides by η. -/
def Device.totalSince (s : Device) : Nat :=
  (s.computeSince + s.memorySince + s.linksSince + s.staticSince (s.coef 10)) * 1000 / max 1 (s.coef 11)

/-- The sums of a tick; where an attempt `ended` there they are reported, in units of 100 µJ, rounded down and saturating.
(DESIGN CHOICE, log entry 96) -/
def Device.frameEnergy (s : Device) (ended : Bool) : Device :=
  let u (e : Nat) : Nat := min 0xFFFF (e / 100000000000)
  let total := s.totalSince / 100000000000
  let s1 :=
    if !ended then s
    else
      let x := ((s.fset F.pwrEnFrameCompute 0 0 (u s.computeSince)).fset F.pwrEnFrameMemory 0 0 (u s.memorySince)).fset
        F.pwrEnFrameLinks 0 0 (u s.linksSince)
      let x := (x.fset F.pwrEnFrameTotal 0 0 (min 0xFFFF total)).modPwr (fun p => { p with modelled := p.modelled + total })
      x.fset F.pwrEnJobModel 0 0 (min (2 ^ 32 - 1) (x.pwr.modelled / 100000))
  s1.modPwr (fun p => { p with sumTick := s.energy, sumTickAt := s.now })

/-! ## The limit at a tick (R373, R386, R389, R424) -/

/-- A derated rail lowers the sustained limit; an assigned limit, or the return to SUSTAINED that was ordered before this tick (`back`), takes
effect. -/
def Device.applyLimit (s : Device) (back : Bool) : Device :=
  let p := s.pwr
  let s := match p.derate with
    | some w => s.fset F.pwrLimitSustained 0 0 (min w (s.fget F.pwrLimitSustained))
    | none => s
  let l := match p.assigned with
    | some l => l
    | none =>
      if back || !(p.toSustained || p.lowered || s.flag F.pwrLimitCoord) then s.fget F.pwrLimitSustained else s.limit
  let l := match p.derate with
    | some w => min w l
    | none => l
  let s := s.fset F.pwrLimitEffective 0 0 l
  let s := if p.assigned.isSome then s.setFlag F.pwrLimitCoord 0 0 true else s
  s.modPwr (fun p => { p with assigned := none, toSustained := p.toSustained && !back, lowered := p.lowered && p.assigned.isNone && !back })

/-- What power management does at a tick, at which an attempt ended or none. -/
def Device.powerTick (s : Device) (ended back : Bool) : Device := ((s.frameEnergy ended).applyLimit back).writeTargets

/-! ## Coordination (R386–R389) -/

/-- This device is in the coordinated set. -/
def Device.inSet (s : Device) : Bool :=
  s.fr.job.isSome && s.job.powerCoord != 0xFFFF &&
    (s.coordinating || (s.job.powerCoord != s.self && (List.range 32).any (fun i => s.memberNo i == s.job.powerCoord)))

/-- The report of the last 10 ms (R387, R409). -/
def Device.reportValue (s : Device) : Nat :=
  s.pwr.slackMin % 2 ^ 16 + min 0xFFF (lastMean s.pwr.avg1ms 10) * 2 ^ 16 + s.limit * 2 ^ 28 +
    b2n s.pwr.throttled * 2 ^ 39 + s.pwr.rptSeq % 2 ^ 16 * 2 ^ 48

/-- A thermal skip count or division acts now, so in the next 10 ms too. -/
def Device.throttling (s : Device) : Bool := s.thm.skip.any (fun e => e.2 != 0) || (List.range 16).any (fun c => s.flag F.clkDomDiv4 0 c)

/-- POWER_REPORT: the coordinator writes its own locally. -/
def Device.powerReport (s : Device) : Device :=
  if s.running && s.inSet then
    let v := s.reportValue
    let s := if s.coordinating then s.noteReport s.myPos v
      else s.curSend (regWritePkt s.job.powerCoord (RegKind.pwrRpt.addr 0 s.myPos) v) 0 opReport
    s.modPwr (fun p => { p with slackMin := 0xFFFF, throttled := s.throttling, rptSeq := p.rptSeq + 1 })
  else s

def execPowerReport (s : State) : Host.Outcome State Fault Refusal := onDevice Device.powerReport s

/-- A member as the coordinator sees it: ring position, smallest slack of the last 100 ms, limit and ceiling, whether a
throttle acted, and whether its report is younger than 30 ms. -/
structure Member where
  pos : Nat
  no : Nat
  slack : Nat
  limit : Nat
  ceiling : Nat
  throttled : Bool
  young : Bool
  deriving DecidableEq, Repr

/-- The member at a ring position of the coordinator's group, if it is a device of the job. One that has not reported has its Catalogue's
limit. (DESIGN CHOICE, log entry 14) -/
def Device.member (s : Device) (i : Nat) : Option Member :=
  let l := s.pwr.reports.get [] i
  if s.memberNo i < s.job.devices then
    some {
      pos := i, no := s.memberNo i
      slack := ((l.filter (fun e => decide (s.now < e.1 + 100000000))).map Prod.snd).foldl min 0xFFFF
      limit := if !l.isEmpty then s.fget F.pwrRptLimit 0 i else if i = s.myPos then s.limit else (Config.sustainedOf (s.memberNo i)).toNat
      ceiling := if i = s.myPos then s.fget F.pwrLimitCeiling else (Config.ceilingOf (s.memberNo i)).toNat
      throttled := s.flag F.pwrRptThrottled 0 i
      young := l.any (fun e => decide (s.now < e.1 + 30000000)) }
  else none

/-- Into a list sorted by slack, ties by device number. -/
def insertMember (m : Member) : List Member → List Member
  | [] => [m]
  | x :: l => if m.slack < x.slack ∨ (m.slack = x.slack ∧ m.no < x.no) then m :: x :: l else x :: insertMember m l

/-- R388's pairing over the sorted members i to j: pairs (receiver, giver). -/
def pairMembers (p : List Member) : Nat → Nat → Nat → Nat → List (Member × Member)
  | 0, _, _, _ => []
  | fuel + 1, i, j, pairs =>
    if j ≤ i ∨ 8 ≤ pairs then []
    else
      match p[i]?, p[j]? with
      | some r, some g =>
        if g.slack ≤ 2 * r.slack then []
        else if r.throttled || decide (r.ceiling < r.limit + 20) then pairMembers p fuel (i + 1) j pairs
        else if g.limit < 920 then pairMembers p fuel i (j - 1) pairs
        else (r, g) :: pairMembers p fuel (i + 1) (j - 1) (pairs + 1)
      | _, _ => []

/-- The value of PWR_ASSIGN for a member. -/
def Device.sendAssign (s : Device) (m : Member) (l : Nat) : Device :=
  let v := l + s.pwr.asgSeq % 2 ^ 16 * 2 ^ 16
  if m.pos = s.myPos then s.assign v else s.curSend (regWritePkt m.no (RegKind.pwrAssign.addr 0 0) v) 0 opAssign

/-- POWER_COORDINATION: raises whose giver has shown its lowered limit are written; new pairs are formed; every member is
written. -/
def Device.coordinate (s : Device) : Device :=
  if !(s.running && s.coordinating) then s
  else
    let ms := (List.range 32).filterMap s.member
    let due := s.pwr.raises.filter (fun r => decide (s.fget F.pwrRptLimit 0 r.2.1 ≤ r.2.2))
    let ms := ms.map (fun m => { m with limit := m.limit + 20 * (due.filter (fun r => r.1 == m.pos)).length })
    let p := (ms.filter Member.young).foldl (fun l m => insertMember m l) []
    let prs := pairMembers p 64 0 (p.length - 1) 0
    let s := s.modPwr (fun q => { q with
      asgSeq := q.asgSeq + 1
      raises := q.raises.filter (fun r => !due.contains r) ++ prs.map (fun e => (e.1.pos, e.2.pos, e.2.limit - 20)) })
    ms.foldl (fun s m => s.sendAssign m (if prs.any (fun e => e.2.pos == m.pos) then m.limit - 20 else m.limit)) s

def execPowerCoordination (s : State) : Host.Outcome State Fault Refusal := onDevice Device.coordinate s

/-- The limit returns at the next tick (R373, R389). -/
def Device.returnLimit (s : Device) : Device := s.modPwr (fun p => { p with toSustained := true })

/-- COORDINATION_TIMEOUT (R389): COORD clears; a raised limit returns at the next tick, a lowered one only after 300 ms
more (`further`). -/
def Device.endCoordination (s : Device) (further : Bool) : Device :=
  if further then
    if s.pwr.lowered && !s.flag F.pwrLimitCoord then s.returnLimit else s
  else if s.flag F.pwrLimitCoord then
    let s := s.setFlag F.pwrLimitCoord 0 0 false
    if s.limit < s.fget F.pwrLimitSustained then s.modPwr (fun p => { p with lowered := true })
    else s.returnLimit
  else s

/-- A device that leaves RUNNING leaves the coordination (R389); an assignment not yet applied is void. -/
def Device.leaveCoordination (s : Device) : Device := (s.modPwr (fun p => { p with assigned := none })).endCoordination false

def execCoordinationTimeout (further : Bool) (s : State) : Host.Outcome State Fault Refusal :=
  onDevice (fun s => s.endCoordination further) s

end Sys2Proof.Machine
end

