-- ==== Sys2Proof/Machine/Lanes.lean ====
section
/-! DEFINITION. Lanes: training, interruption, failure and spare transceivers, bypass elements, telemetry of queues (R276–R285,
R308, R523). -/

namespace Sys2Proof.Machine

/-- Index of a ring lane, and its side (R276). -/
def ringIndex (z : Nat) : Nat := z % 16 - 12 + 4 * (z / 16 % 2)
def isEast (z : Nat) : Bool := decide (32 ≤ z)
def westLane (k : Nat) : Nat := 16 * (k / 4) + 12 + k % 4
def eastLane (k : Nat) : Nat := 32 + westLane k

/-- Packets queued on a lane that leaves service are routed anew; those of a host's lane, and TICK and HOLD, which other links carry, are
dropped. (DESIGN CHOICE, log entry 125) -/
def Device.reroute (s : Device) (z : Nat) : Device :=
  let l := s.fab.txq.get [] z
  if l.isEmpty then s
  else
    (s.modFab (fun f => { f with
      txq := f.txq.del z, laneQ := f.laneQ.upd 0 z (· - (l.map pktBytes).sum)
      held := f.held ++ l.filter (fun p => s.laneRole z != rHost && p.typ != tTick && p.typ != tHold) })).offerHeld

/-- A lane's state, and the lanes in service that follow from it. -/
def Device.setLaneState (s : Device) (z st : Nat) : Device :=
  let s := (s.setLane z st).publishLanes
  if st = lUp ∨ st = lDimmed ∨ st = lInterrupted then s else s.reroute z

/-- R523: the transmitter at full level, or back at search level. -/
def Device.setLevel (s : Device) (z : Nat) (full : Bool) : Device :=
  s.modFab (fun f => { f with fullLevel := if full then addNew f.fullLevel z else f.fullLevel.filter (· != z) })

/-! ## Training (R278, R284, R285) -/

/-- The peer fits the lane: roles 0 device, 1 switch, 2 host adapter; sides 0 west, 1 east. On a test path behind a closed
bypass element nothing is checked. -/
def Device.peerOk (s : Device) (z role group side index : Nat) : Bool :=
  if s.laneRole z = rRing then
    !s.fab.bypassOpen.contains (ringIndex z) ||
      (role == 0 && group == s.myGroup && side == b2n (!isEast z) && index == ringIndex z)
  else if s.laneRole z = rHost then role == 1 || role == 2
  else role == 1

/-- The link delay of a round trip (R302). -/
def Device.setDelay (s : Device) (z rt : Nat) : Device :=
  (s.modFab (fun f => { f with roundTrip := f.roundTrip.set 0 z rt })).laneSet F.prtLaneDelay z (min 4095 (rt / 2))

/-- A lane may train: it is DOWN or TRAINING, in use, and, once it was found miswired, only when its light has been lost and
returned. -/
def Device.mayTrain (s : Device) (z : Nat) : Bool :=
  (s.laneState z == lDown || s.laneState z == lTraining) && s.laneRole z != 3 &&
    (!s.flag F.prtLaneMiswired (z / 16) (z % 16) || s.fab.lightLost.contains z)

/-- LANE_TRAINING: light is there, and the lane trains with the peer that the exchange names. -/
def Device.trainLane (s : Device) (z peer role group pos side index delayNs : Nat) : Device :=
  if !s.mayTrain z then s
  else
    let s := ((s.setLevel z true).modFab (fun f => { f with
      attempts := f.attempts.del z, lightLost := f.lightLost.filter (· != z) })).laneCount F.prtLaneRetrains z 1
    if s.peerOk z role group side index then
      let s := (s.laneSet F.prtLaneMiswired z 0).laneSet F.prtLanePeer z (if role = 1 then 0x3FF else peer)
      let s := (s.setDelay z delayNs).modFab (fun f => { f with
        peerPos := if role = 0 then f.peerPos.set 0 z (pos + 1) else f.peerPos.del z
        quiesced := f.quiesced.filter (fun e => !(s.laneRole z == rRing && e.1 == ringIndex z && e.2 == isEast z)) })
      (s.setLaneState z lUp).offerHeld
    else
      ((s.laneSet F.prtLaneMiswired z 1).setLaneState z lDown).note
        { kind := kPrt, index := z / 16, prio := 2, cls := 1, cause := 16, unit := z }

def execLaneTraining (z peer role group side index delayNs : Nat) (s : State) (pos : Nat := 0) : Host.Outcome State Fault Refusal :=
  onUnits (laneOk z) (fun s => s.trainLane z peer role group pos side index delayNs) s

/-! ## Failure (R280) -/

/-- The spare transceiver takes over a fibre pair (R26): the lane trains on it. -/
def Device.switchSpare (s : Device) (p : Nat) : Device :=
  match (s.port p).spareAt with
  | none => s
  | some j =>
    let s := s.modPort p (fun x => { x with spareAt := none, spareOn := some j })
    (((s.fset F.prtLanePair p 16 j).setLaneState (16 * p + j) lDown).useSpare 6).note
      { kind := kPrt, index := p, prio := 2, cls := 3, cause := 4, unit := 16 * p + j }

/-- A lane is declared FAILED; a first failure of its port die whose cause is not in the fibre takes the spare, at the next
frame boundary or at once with no job running; another leaves the lane FAILED, and the running checks follow. -/
def Device.failLane (s : Device) (z : Nat) (fibre : Bool) : Device :=
  let p := z / 16
  let s := ((s.modFab (fun f => { f with attempts := f.attempts.del z })).setLevel z false).setLaneState z lFailed
  let s := s.note { kind := kPrt, index := p, prio := 1, cls := if fibre || (s.port p).spareUsed then 4 else 3, cause := 15,
                    unit := z }
  if fibre || (s.port p).spareUsed then s.recheck
  else
    let s := s.modPort p (fun x => { x with spareUsed := true, spareAt := some (z % 16) })
    if s.running then s else s.switchSpare p

/-- TRAINING_ATTEMPT_TIMEOUT: the third failed attempt fails the lane. -/
def Device.trainTimeout (s : Device) (z : Nat) : Device :=
  if !s.mayTrain z then s
  else
    let n := s.fab.attempts.get 0 z + 1
    if n < 3 then (s.modFab (fun f => { f with attempts := f.attempts.set 0 z n })).setLaneState z lTraining
    else s.failLane z false

def execTrainingAttemptTimeout (z : Nat) (s : State) : Host.Outcome State Fault Refusal :=
  onUnits (laneOk z) (fun s => s.trainTimeout z) s

/-- LANE_ERROR_RATE_EXCEEDED: the uncorrectable codewords of a second count (R316); with more than 16 of them, or the corrected symbol rate
exceeded, a working lane is declared FAILED (R280). -/
def Device.errorRate (s : Device) (z : Nat) (errs : LaneErrs) (fibre : Bool) : Device :=
  let s := s.laneCount F.prtLaneUncorr z errs.uncorr
  if (s.laneState z = lUp ∨ s.laneState z = lDimmed ∨ s.laneState z = lInterrupted) ∧ (errs.rate = true ∨ 16 < errs.uncorr) then
    s.failLane z fibre
  else s

def execLaneErrorRateExceeded (z : Nat) (fibre : Bool) (s : State) (errs : LaneErrs := {}) : Host.Outcome State Fault Refusal :=
  onUnits (laneOk z) (fun s => s.errorRate z errs fibre) s

/-! ## Comb lines of lanes (R277) -/

/-- Lines of a quadrant's comb that are deaccessioned on all its buses. -/
def Device.combDead (s : Device) (q l : Nat) : Bool := (List.range 56).all (fun i => s.lineDead (busOf q i) l)

/-- The lines that the lanes of P(q) use: L56–L63, and the lowest healthy of L52–L55 in place of those deaccessioned. -/
def Device.laneLines (s : Device) (q : Nat) : List Nat :=
  let own := ((List.range 8).map (· + 56)).filter (fun l => !s.combDead q l)
  own ++ ((((List.range 4).map (· + 52)).filter (fun l => !s.combDead q l)).take (8 - own.length))

/-- LINE_DEACCESSION (R222, R277): lanes that used the line retrain on another, or are FAILED. -/
def Device.lineDeaccession (s : Device) (q l : Nat) : Device :=
  if s.combDead q l then s
  else
    let used := (s.laneLines q).contains l
    let s := (s.setLow q (addNew (s.lowLines q) l)).deaccessLine q l
    if !used then s
    else
      (List.range 16).foldl (fun s j =>
        let z := 16 * q + j
        if s.laneState z = lFailed ∨ s.laneRole z = 3 then s
        else if (s.laneLines q).length = 8 then (s.setLaneState z lDown).setLevel z false
        else s.failLane z true) s

def execLineDeaccession (q line : Nat) (s : State) : Host.Outcome State Fault Refusal :=
  onUnits (quadOk q && lineOk line) (fun s => s.lineDeaccession q line) s

/-- CARTRIDGE_SWITCH_CONDITION (R223): `value` is the drop of condition 0; `lines` are those of conditions 1 and 2. Without a standby
cartridge the failed lines are deaccessioned (R222), or, with all 64 dark, R25 applies. -/
def Device.switchCondition (s : Device) (q cond value : Nat) (lines : List Nat) : Device :=
  let ls := (List.range 64).filter lines.contains
  let n := if cond = 1 ∨ cond = 2 then ls.length else value
  let s := s.showCondition q cond n ls
  if !switchDue cond n || s.fget F.plnStatusSource q == 0 || s.flag F.plnStatusSwitching q then s
  else if s.canSwitch q then s.startSwitch q
  else if cond = 1 ∧ ls.length = 64 then (s.fset F.plnLaserState q (s.activeCart q) lsFailed).combLost q
  else if cond = 1 ∨ cond = 2 then ls.foldl (fun s l => s.lineDeaccession q l) s
  else s

def execCartridgeSwitchCondition (q cond value : Nat) (s : State) (lines : List Nat := []) : Host.Outcome State Fault Refusal :=
  onUnits (quadOk q && decide (cond < 4)) (fun s => s.switchCondition q cond value lines) s

/-! ## Interruption (R279, R282) -/

/-- LANE_INTERRUPTED; of a miswired lane, the light that it must lose before it trains again (R278). -/
def Device.interrupt (s : Device) (z : Nat) : Device :=
  if s.laneState z = lUp ∨ s.laneState z = lDimmed then
    (s.setLaneState z lInterrupted).note { kind := kPrt, index := z / 16, prio := 2, cls := 1, cause := 14, unit := z }
  else if s.laneState z = lDown ∧ s.flag F.prtLaneMiswired (z / 16) (z % 16) then
    s.modFab (fun f => { f with lightLost := addNew f.lightLost z })
  else s

def execLaneInterrupted (z : Nat) (s : State) : Host.Outcome State Fault Refusal := onUnits (laneOk z) (fun s => s.interrupt z) s

/-- LANE_LIGHT_RETURN: within 100 µs. -/
def execLaneLightReturn (z : Nat) (s : State) : Host.Outcome State Fault Refusal :=
  onUnits (laneOk z) (fun s => if s.laneState z = lInterrupted then (s.setLaneState z lUp).offerHeld else s) s

/-- LANE_DOWN: the interruption has lasted 100 µs. -/
def execLaneDown (z : Nat) (s : State) : Host.Outcome State Fault Refusal :=
  onUnits (laneOk z) (fun s => if s.laneState z = lInterrupted then (s.setLaneState z lDown).setLevel z false else s) s

/-- LANE_WAKE: a packet has selected a dimmed lane. -/
def execLaneWake (z : Nat) (s : State) : Host.Outcome State Fault Refusal :=
  onUnits (laneOk z) (fun s =>
    if s.laneState z = lDimmed ∧ s.fab.laneQ.get 0 z ≠ 0 then s.setLaneState z lUp else s) s

/-- LINK_DELAY_MEASUREMENT (R302). -/
def execLinkDelayMeasurement (z roundTripNs : Nat) (s : State) : Host.Outcome State Fault Refusal :=
  onUnits (laneOk z) (fun s => if s.laneState z = lUp then s.setDelay z roundTripNs else s) s

/-! ## Bypass (R27, R28, R285) -/

/-- Element k may open: all ring ports have trained, and one by one the earlier elements have opened and their lanes have come UP, or
have a lane FAILED. -/
def Device.mayOpen (s : Device) (k : Nat) : Bool :=
  let failed (i : Nat) : Bool := s.laneState (westLane i) == lFailed || s.laneState (eastLane i) == lFailed
  let up (i : Nat) : Bool := s.laneState (westLane i) == lUp && s.laneState (eastLane i) == lUp
  !s.fab.bypassOpen.contains k && up k && (List.range 8).all (fun i => up i || failed i) &&
    (List.range k).all (fun i => failed i || s.fab.bypassOpen.contains i)

/-- BYPASS_ELEMENT_OPEN: both neighbours are told, and element k opens; its lanes then train to them. -/
def Device.openBypass (s : Device) (k : Nat) : Device :=
  if !s.mayOpen k then s
  else
    ((s.emit (.quiesce k)).modFab (fun f => { f with bypassOpen := f.bypassOpen ++ [k] })).setLaneState (westLane k) lDown
      |>.setLaneState (eastLane k) lDown

def execBypassElementOpen (k : Nat) (s : State) : Host.Outcome State Fault Refusal :=
  onUnits (decide (k < 8)) (fun s => s.openBypass k) s

/-- BYPASS_LANE_TIMEOUT: element k closes again and its lane is FAILED on the device. -/
def Device.reclose (s : Device) (k : Nat) : Device :=
  if !s.fab.bypassOpen.contains k || (s.laneState (westLane k) == lUp && s.laneState (eastLane k) == lUp) then s
  else
    let s := s.modFab (fun f => { f with bypassOpen := f.bypassOpen.filter (· != k) })
    let s := [westLane k, eastLane k].foldl (fun s z => (s.setLaneState z lFailed).setLevel z false) s
    (s.note { kind := kPrt, index := k / 4, prio := 1, cls := 4, cause := 15, unit := westLane k }).recheck

def execBypassLaneTimeout (k : Nat) (s : State) : Host.Outcome State Fault Refusal :=
  onUnits (decide (k < 8)) (fun s => s.reclose k) s

/-- All eight elements close (R28): the ring lanes behind them emit nothing (R523). -/
def Device.closeBypass (s : Device) : Device :=
  let s := s.modFab (fun f => { f with bypassOpen := [] })
  (List.range 8).foldl (fun s k =>
    [westLane k, eastLane k].foldl (fun s z =>
      (if s.laneState z = lFailed then s else s.setLaneState z lDown).setLevel z false) s) s

/-- LANE_QUIESCE_NOTICE: this device stops selecting ring lane k toward the neighbour. -/
def execLaneQuiesceNotice (k : Nat) (east : Bool) (s : State) : Host.Outcome State Fault Refusal :=
  onUnits (decide (k < 8)) (fun s => s.modFab (fun f => { f with quiesced := addNew f.quiesced (k, east) })) s

/-! ## Telemetry (R307–R309) -/

/-- A packet toward the fabric manager's node: on the gateway out of its HOST lane, elsewhere toward the gateway, whose device
number the spec does not give to other devices. (DEDUCED, log entry 108) -/
def Device.toManager (s : Device) (p : Pkt) : Device :=
  if s.flag F.prtStatusGateway || s.flag F.prtStatusAltGateway then s.toHost s.boot.cat.fmNode p
  else s.emit (.toGateway p)

/-- A telemetry packet with its payload. (DEDUCED, log entry 108) -/
def Device.telemPkt (s : Device) (op : Nat) (bs : List Byte) : Pkt :=
  sealPkt { blankPkt with
    dst := s.boot.cat.fmNode, src := s.self, epoch := s.epoch, typ := tMgmt, seng := 132, arg := op,
    len := ceilDiv bs.length 16, payload := bs }

/-- Send telemetry at no more than 200 Mb/s (40 ns a byte); what would exceed it is dropped, `n` records at a time.
(DEDUCED, log entry 108) -/
def Device.sendTelem (s : Device) (p : Pkt) (n : Nat) : Device :=
  if s.now < s.fab.telemUntil then s.fsat F.prtTelemDropped 0 0 n
  else (s.modFab (fun f => { f with telemUntil := s.now + 40 * pktBytes p })).toManager p

/-- The bin of an occupancy (R308). -/
def occupancyBin (up : Bool) (n : Nat) : Nat :=
  if !up then 7
  else if n = 0 then 0 else if n ≤ 512 then 1 else if n ≤ 2048 then 2 else if n ≤ 8192 then 3 else if n ≤ 32768 then 4
  else if n ≤ 131072 then 5 else 6

/-- One sample of every lane's queue, each µs. -/
def Device.sampleQueues (s : Device) : Device :=
  if s.flag F.prtTelemMode then s
  else
    s.modFab (fun f => { f with
      bins := (List.range 64).foldl (fun b z =>
        b.upd 0 (8 * z + occupancyBin (s.laneState z == lUp) (f.laneQ.get 0 z)) (fun v => min 255 (v + 1))) f.bins })

/-- TELEM_MAP: two packets for the window that ends. -/
def Device.telemMap (s : Device) : Device :=
  if s.flag F.prtTelemMode then s
  else
    let dev := if s.fr.job.isSome then s.self else 0x3FF
    let pay (h : Nat) : List Byte :=
      leBytes 2 dev ++ leBytes 1 h ++ leBytes 5 0 ++ leBytes 8 (s.fr.jobTime / 100000) ++
        (List.range 256).map (fun i => BitVec.ofNat 8 (s.fab.bins.get 0 (256 * h + i)))
    let a := s.telemPkt 3 (pay 0)
    let b := s.telemPkt 3 (pay 1)
    let s := s.modFab (fun f => { f with bins := [] })
    if s.now < s.fab.telemUntil then s.fsat F.prtTelemDropped 0 0 2
    else ((s.modFab (fun f => { f with telemUntil := s.now + 40 * (pktBytes a + pktBytes b) })).toManager a).toManager b

def execTelemMap (s : State) : Host.Outcome State Fault Refusal := onDevice Device.telemMap s

/-- TELEM_SAMPLE: the header of a lane's every 2^K-th packet is copied; ten records make a packet. -/
def Device.telemSample (s : Device) (z : Nat) (received : Bool) (p : Pkt) : Device :=
  let n := s.fab.counted.get 0 (2 * z + b2n received)
  if !s.flag F.prtTelemMode || n == 0 || n % 2 ^ s.fget F.prtTelemK != 0 then s
  else
    let r := hdrBytes p ++ leBytes 8 (s.fr.jobTime / 2) ++ leBytes 1 z ++ leBytes 1 (b2n received) ++ leBytes 6 0
    let rs := s.fab.records ++ [r]
    if rs.length < 10 then s.modFab (fun f => { f with records := rs })
    else (s.modFab (fun f => { f with records := [] })).sendTelem (s.telemPkt 4 rs.flatten) 10

def execTelemSample (z : Nat) (received : Bool) (p : Pkt) (s : State) : Host.Outcome State Fault Refusal :=
  onUnits (laneOk z) (fun s => s.telemSample z received p) s

end Sys2Proof.Machine
end

