-- ==== Sys2Proof/Machine/Catalogue.lean ====
section
/-! DEFINITION. The flash, the Catalogue slots in it, their verification, the choice between them and what the chosen one
sets (R452–R467, R501). -/

namespace Sys2Proof.Machine

/-! ## Flash (R452) -/

/-- Bytes of the flash: an erased byte reads as 0xFF. (DESIGN CHOICE, log entry 8) -/
def Device.flashBytes (s : Device) (a n : Nat) : List Byte := (List.range n).map (fun i => s.boot.flash.get 0xFF (a + i))

/-- Program bytes: programming clears bits and sets none. (PRESUMED, log entry 18) -/
def Device.flashProgram (s : Device) (a : Nat) (bs : List Byte) : Device :=
  s.modBoot (fun b => { b with flash :=
    (List.range bs.length).foldl (fun m i => m.set 0xFF (a + i) (m.get 0xFF (a + i) &&& bs.getD i 0xFF)) b.flash })

/-- Erase `n` bytes. -/
def Device.flashErase (s : Device) (a n : Nat) : Device := s.modBoot (fun b => { b with flash := b.flash.clear a (a + n) })

/-- The Curator's operation on `n` bytes in pages of `page` bytes is in progress from `before` on. (DESIGN CHOICE, log entry 139) -/
def Device.flashBegin (s : Device) (a n page : Nat) (before : NMap Byte) : Device :=
  s.modBoot (fun b => { b with writing := some { addr := a, len := n, page := page, before := before } })

/-- An operation in progress completes its current page and stops there (R450): the pages behind it stay as they were. Which page is the
current one is a free value. (DESIGN CHOICE, log entry 139) -/
def Device.flashStop (s : Device) : Device :=
  match s.boot.writing with
  | none => s
  | some j =>
    let (w, s) := s.drawWord
    let done := min j.len (j.page * (w.toNat % (j.len / j.page) + 1))
    s.modBoot (fun b => { b with
      writing := none, flash := NMap.copy 0xFF j.before b.flash (j.addr + done) (j.addr + done) (j.len - done) })

def slotBase (slot : Nat) : Nat := 0x4000000 * slot
def imageArea : Nat := 0x3C00000

/-- Bytes and numbers of a slot's Catalogue image. -/
def Device.catBytes (s : Device) (slot o n : Nat) : List Byte := s.flashBytes (slotBase slot + o) n
def Device.catU (s : Device) (slot o n : Nat) : Nat := leNat (s.catBytes slot o n)
def Device.catZero (s : Device) (slot o n : Nat) : Bool := (s.catBytes slot o n).all (· == 0)

/-! ## Sections (R148, R456) -/

/-- An entry of a section table. -/
structure Sect where
  typ : Nat := 0
  index : Nat := 0
  off : Nat := 0
  len : Nat := 0
  deriving DecidableEq, Repr

def Device.catSects (s : Device) (slot : Nat) : List Sect :=
  (List.range (s.catU slot 0x18 2)).map (fun i =>
    let o := s.catU slot 0x20 8 + 32 * i
    { typ := s.catU slot o 2, index := s.catU slot (o + 2) 2, off := s.catU slot (o + 8) 8, len := s.catU slot (o + 16) 8 })

/-- The offset of a section of the image. -/
def Device.catSect (s : Device) (slot typ : Nat) : Option Sect := (s.catSects slot).find? (fun x => x.typ == typ)
def Device.catOff (s : Device) (slot typ : Nat) : Nat := ((s.catSect slot typ).map Sect.off).getD 0

/-- Sections lie on multiples of 64, do not overlap, and no type and index appear twice (R148). -/
def sectsApart : List Sect → Bool
  | [] => true
  | x :: l => x.off % 64 == 0 && l.all (fun y =>
      (decide (x.off + x.len ≤ y.off ∨ y.off + y.len ≤ x.off)) && !(x.typ == y.typ && x.index == y.index)) && sectsApart l

/-- LENGTH fits the type (R456). -/
def catLenOk (x : Sect) : Bool :=
  match x.typ with
  | 1 => x.len == 256
  | 2 => x.len == 32768
  | 3 => x.len == 64
  | 4 => x.len == 1184
  | 5 => decide (x.len ≤ 16777216)
  | 6 => x.len == 17504
  | 7 => x.len % 448 == 0 && decide (448 ≤ x.len ∧ x.len ≤ 1792)
  | 8 => x.len == 64
  | _ => false

/-- The entries of JOB_KEYS have the form of R462: no TAG, KEY_IDs 1–255, each once, USAGE and the bytes behind it zero. -/
def Device.jobKeysOk (s : Device) (slot : Nat) : Bool :=
  let o := s.catOff slot 7
  let n := ((s.catSect slot 7).map (fun x => x.len / 448)).getD 0
  let id (i : Nat) : Nat := s.catU slot (o + 448 * i + 8) 1
  (List.range n).all (fun i =>
    s.catZero slot (o + 448 * i) 8 && id i != 0 && s.catZero slot (o + 448 * i + 9) 7 && (List.range i).all (fun k => id k != id i))

/-- Step 1 of R464. Bytes of CERTS and JOB_KEYS that R462 fixes count as part of it. (DEDUCED, log entry 34; DESIGN CHOICE, log entry 138) -/
def Device.catFormat (s : Device) (slot : Nat) : Bool :=
  let u := s.catU slot
  let xs := s.catSects slot
  let ends := (xs.map (fun x => x.off + x.len)).foldl max 0
  u 4 2 == 1 && u 6 2 == 256 && u 8 4 % 64 == 0 && decide (u 8 4 + 16640 ≤ 62914560) && u 0x0C 2 != 0 &&
    decide (1 ≤ u 0x0E 2 ∧ u 0x0E 2 ≤ u 0x0C 2) && decide (7 ≤ u 0x18 2 ∧ u 0x18 2 ≤ 8) && s.catZero slot 0x1A 6 &&
    u 0x20 8 % 64 == 0 && s.catZero slot 0x28 216 && decide (u 0x20 8 + 32 * u 0x18 2 ≤ u 8 4) && ends == u 8 4 &&
    xs.all (fun x => x.index == 0xFFFF) &&
    (List.range (u 0x18 2)).all (fun i =>
      s.catZero slot (u 0x20 8 + 32 * i + 4) 4 && s.catZero slot (u 0x20 8 + 32 * i + 24) 8) &&
    sectsApart xs && xs.all catLenOk && (List.range 7).all (fun t => xs.any (fun x => x.typ == t + 1)) &&
    s.catZero slot (s.catOff slot 6 + 432) 16 && s.jobKeysOk slot

/-! ## Keys (R462, R463) -/

/-- The two algorithms of a signature over a message, by keys, RSA signature and SLH-DSA signature. -/
def bothOk (rsa slh m rsig ssig : List Byte) : Bool := Config.rsaOk rsa m rsig && Config.slhOk slh m ssig

/-- Part of the CERTS section. -/
def Device.certs (s : Device) (slot o n : Nat) : List Byte := s.catBytes slot (s.catOff slot 6 + o) n

def Device.rootOk (s : Device) (slot : Nat) : Bool :=
  [Config.rootPair 0, Config.rootPair 1].contains (some (Config.sha384 (s.certs slot 0 384), Config.sha384 (s.certs slot 384 48)))

/-- The bytes of an ASCII text. -/
def ascii (t : String) : List Byte := t.toList.map (fun c => BitVec.ofNat 8 c.toNat)

/-- The owner certificate (R462): its fixed bytes, both signatures of the root, and the right to sign Catalogues. (DESIGN CHOICE, log entry 138) -/
def Device.ownerOk (s : Device) (slot : Nat) : Bool :=
  let body := s.certs slot 448 448
  body.take 9 == ascii "UBXCRT01" ++ [0] && ((body.drop 10).take 6).all (· == 0) &&
  bothOk (s.certs slot 0 384) (s.certs slot 384 48) body (s.certs slot 896 384) (s.certs slot 1280 16224) &&
    bit ((body.getD 9 0).toNat) 0

/-- A digest as its 48 bytes. (DESIGN CHOICE, log entry 13) -/
def digestBytes (d : BitVec 384) : List Byte := leBytes 48 d.toNat

/-- K, and DEVICE_ID: the first 8 bytes of the digest of its text and K (R468). -/
def seedK : List Byte := leBytes 48 Config.pufSeed.toNat
def deviceId : Nat := leNat ((digestBytes (Config.sha384 (ascii "UBXDID01" ++ seedK))).take 8)

/-- The private identity keys (R468): SLH-DSA from three seeds of 24 bytes, RSA from a DRBG of its own. -/
def slhKey : List Byte :=
  let r := Config.hmacDrbg seedK (ascii "UBXIDSLH") 72
  (Config.slhKeygen (r.take 24) ((r.drop 24).take 24) (r.drop 48)).2
def rsaKey : List Byte := (Config.rsaKeygen seedK (ascii "UBXIDRSA")).2

/-- The signature block of the identity keys over a report body (R463, R470): KEY_ID 0, both algorithms over the same message. -/
def signBlock (m : List Byte) : List Byte :=
  ascii "UBXSIG01" ++ List.replicate 24 0 ++ leBytes 384 (Config.rsaSign rsaKey m).toNat ++ leBytes 16224 (Config.slhSign slhKey m).toNat

/-- The message a Catalogue's signatures sign. -/
def Device.catDigest (s : Device) (slot : Nat) : List Byte := digestBytes <| Config.sha384 (s.catBytes slot 0 (s.catU slot 8 4))
def Device.catMessage (s : Device) (slot : Nat) : List Byte := ascii "UBXCAT01" ++ s.catDigest slot

/-- A signature block starts with its text, names its key and has zeros behind. -/
def sigHead (blk : List Byte) (keyId : Nat) : Bool :=
  blk.take 8 == ascii "UBXSIG01" && (blk.getD 8 0).toNat == keyId && ((blk.drop 9).take 23).all (· == 0)

/-! ## Ranges (R457–R459, R501) -/

/-- The role of lane z. -/
def Device.catRole (s : Device) (slot z : Nat) : Nat :=
  s.catU slot (s.catOff slot 1 + 0x40) 16 / 4 ^ z % 4

def isRingLane (z : Nat) : Bool := decide (12 ≤ z % 16)

/-- R457: every field of CONFIG, read at its offset, lies in its range, and every byte that is none of them is zero. -/
def Device.configOk (s : Device) (slot : Nat) : Bool :=
  let o := s.catOff slot 1
  let u (a n : Nat) : Nat := s.catU slot (o + a) n
  let zero (a n : Nat) : Bool := s.catZero slot (o + a) n
  let roles := u 4 1
  let master := bit roles 2
  let role := s.catRole slot
  let hosts := ((List.range 64).filter (fun z => role z == rHost)).length
  let up := (List.range 64).filter (fun z => bit (u 0x30 8) z)
  decide (u 0 2 < 1024 ∧ u 2 1 < 32 ∧ u 3 1 < 32 ∧ roles < 32 ∧ u 5 1 ≤ 1 ∧ u 6 2 < 1024) &&
    decide (900 ≤ u 8 2 ∧ u 8 2 ≤ 1400 ∧ u 8 2 ≤ u 0xA 2 ∧ u 0xA 2 ≤ 1400 ∧ 20 ≤ u 0xC 2 ∧ u 0xC 2 ≤ 500) &&
    decide (1 ≤ u 0xE 1 ∧ u 0xE 1 ≤ 8 ∧ u 0xF 1 < 64 ∧ 4 ≤ u 0xF 1 / 2 ∧ u 0xF 1 / 2 ≤ 24 ∧ u 0x10 1 < 4 ∧ u 0x12 2 ≤ 64) &&
    zero 0x11 1 && zero 0x14 12 && zero 0x38 8 && zero 0xD0 48 &&
    (List.range 16).all (fun c => decide (u (0x20 + c) 1 ≤ 36)) &&
    !(bit roles 0 && bit roles 1) && (!master || bit roles 3) &&
    (if master then up.isEmpty else (up.length == 1 || up.length == 2) && up.all (fun z => role z == rSwitch)) &&
    (List.range 64).all (fun z => (role z == rRing) == isRingLane z) &&
    (if bit roles 0 || bit roles 1 then decide (2 ≤ hosts ∧ hosts ≤ 8) && !zero 0x50 128 else hosts == 0)

/-- Coefficient k. -/
def Device.catCoef (s : Device) (slot k : Nat) : Nat := s.catU slot (s.catOff slot 3 + 4 * k) 4

/-- The range of coefficient k. -/
def coefOk (k v : Nat) : Bool :=
  if k ≤ 8 then decide (1 ≤ v ∧ v ≤ 1048575)
  else if k = 9 then decide (v ≤ 50000)
  else if k = 10 then decide (v ≤ 200000)
  else if k = 11 then decide (800 ≤ v ∧ v ≤ 990)
  else if k = 12 then decide (v ≤ 10000)
  else v == 0

/-- The voltage of stack c at step k, in mV. -/
def Device.catVolt (s : Device) (slot c k : Nat) : Nat := s.catU slot (s.catOff slot 4 + 2 * (37 * c + k)) 2

def Device.voltsOk (s : Device) (slot : Nat) : Bool :=
  (List.range 16).all (fun c => (List.range 37).all (fun k =>
    decide (550 ≤ s.catVolt slot c k ∧ s.catVolt slot c k ≤ 1000) &&
      (k == 0 || decide (s.catVolt slot c (k - 1) ≤ s.catVolt slot c k))))

/-- The Ledger's settings, where the section is there. -/
def Device.ledgerOk (s : Device) (slot : Nat) : Bool :=
  match s.catSect slot 8 with
  | none => true
  | some x =>
    let f (i : Nat) : Nat := s.catU slot (x.off + 2 * i) 2
    decide (1 ≤ f 0 ∧ f 0 ≤ 10000 ∧ 1 ≤ f 2 ∧ f 2 ≤ 10000 ∧ 1 ≤ f 4 ∧ f 4 ≤ 20000) &&
      decide (1 ≤ f 1 ∧ f 1 ≤ 1024 ∧ 1 ≤ f 3 ∧ f 3 ≤ 1024 ∧ 1 ≤ f 5 ∧ f 5 ≤ 1024 ∧ f 6 ≤ 1) && s.catZero slot (x.off + 0xE) 50

/-! ## Verification and choice (R464, R465, R467) -/

def resEmpty : Nat := 1
def resFormat : Nat := 2
def resRoot : Nat := 3
def resOwner : Nat := 4
def resRsa : Nat := 5
def resSlh : Nat := 6
def resBind : Nat := 7
def resRange : Nat := 8
def resBelow : Nat := 9
def resFirmware : Nat := 10

/-- R464: the result of verifying a slot, 0 when it passes. -/
def Device.verifySlot (s : Device) (slot : Nat) : Nat :=
  let size := s.catU slot 8 4
  let blk := s.catBytes slot size 16640
  let cert := s.certs slot 448 448
  let bind := s.catU slot 0x10 8
  if s.catU slot 0 4 ≠ 0x54435842 then resEmpty
  else if !s.catFormat slot then resFormat
  else if !s.rootOk slot then resRoot
  else if !s.ownerOk slot then resOwner
  else if !(sigHead blk 0 && Config.rsaOk ((cert.drop 16).take 384) (s.catMessage slot) ((blk.drop 0x20).take 384)) then resRsa
  else if !Config.slhOk ((cert.drop 400).take 48) (s.catMessage slot) (blk.drop 0x1A0) then resSlh
  else if bind ≠ 0 ∧ !(s.boot.identOk && bind == deviceId) then resBind
  else if !(s.configOk slot && (List.range 16).all (fun k => coefOk k (s.catCoef slot k)) && s.voltsOk slot && s.ledgerOk slot) then
    resRange
  else 0

def Device.catVersion (s : Device) (slot : Nat) : Nat := s.catU slot 0xC 2
def Device.catFloor (s : Device) (slot : Nat) : Nat := s.catU slot 0xE 2

/-- F: the highest floor of the verified slots, given both results. -/
def Device.floorOf (s : Device) (ra rb : Nat) : Nat :=
  max (if ra = 0 then s.catFloor 0 else 0) (if rb = 0 then s.catFloor 1 else 0)

/-- The results after the floor has been applied. -/
def Device.flooredResults (s : Device) (ra rb : Nat) : Nat × Nat :=
  let f := s.floorOf ra rb
  (if ra = 0 ∧ s.catVersion 0 < f then resBelow else ra, if rb = 0 ∧ s.catVersion 1 < f then resBelow else rb)

/-- The eligible slot with the highest version, on a tie slot A. -/
def Device.chooseSlot (s : Device) (ra rb : Nat) : Option Nat :=
  if ra = 0 then (if rb = 0 ∧ s.catVersion 0 < s.catVersion 1 then some 1 else some 0)
  else if rb = 0 then some 1 else none

/-! ## Application (R460) -/

/-- The routing table entries of the image (R293). -/
def Device.catRoutes (s : Device) (slot : Nat) : NMap Route :=
  let o := s.catOff slot 2
  (List.range 2048).foldl (fun m i =>
    let w0 := s.catU slot (o + 16 * i) 8
    let w1 := s.catU slot (o + 16 * i + 8) 8
    m.set {} i { lanes := BitVec.ofNat 64 w0, valid := bit w1 0, isLocal := bit w1 1 }) []

/-- What the Curator holds without a register. -/
def Device.catHeld (s : Device) (slot : Nat) : Catalogue :=
  let o := s.catOff slot 1
  { coordEligible := bit (s.catU slot (o + 4) 1) 4, journalGib := s.catU slot (o + 0x12) 2, fmNode := s.catU slot (o + 6) 2
    hosts := s.catU slot (o + 0x50) 128, upLanes := s.catU slot (o + 0x30) 8
    volt := (List.range 592).map (fun i => s.catVolt slot (i / 37) (i % 37)), policy := s.catU slot (o + 0x10) 1 }

/-- The Ledger's settings (R501): rates, bursts, TRACE_OFF. -/
def Device.ledgerSet (s : Device) (slot : Nat) : Device :=
  match s.catSect slot 8 with
  | none => s
  | some x =>
    let f (i : Nat) : Nat := s.catU slot (x.off + 2 * i) 2
    { s with led := { s.led with rate := [f 0, f 2, f 4], burst := [f 1, f 3, f 5], traceOff := bit (f 6) 0 } }

/-- The chosen Catalogue is applied, in one cycle; a derated rail's limit holds (R424). -/
def Device.applyCatalogue (s : Device) (slot : Nat) : Device :=
  let o := s.catOff slot 1
  let u (a n : Nat) : Nat := s.catU slot (o + a) n
  let roles := u 4 1
  let s1 := s.fset F.glbStatusDeviceNo 0 0 (u 0 2)
  let s1 := (s1.setPorts F.prtStatusGroup (u 2 1)).setPorts F.prtStatusRingPos (u 3 1)
  let s1 := (((s1.setPorts F.prtStatusGateway (bits roles 0 1)).setPorts F.prtStatusAltGateway (bits roles 1 1)).setPorts
    F.prtStatusMaster (bits roles 2 1)).setPorts F.prtStatusRelay (bits roles 3 1)
  let s1 := (s1.setPorts F.prtRouteEpoch (u 5 1)).modFab (fun f => { f with tables := s.catRoutes slot })
  let s1 := (s1.setPorts F.prtTelemMode (bits (u 0xF 1) 0 1)).setPorts F.prtTelemK (u 0xF 1 / 2)
  let s1 := (List.range 64).foldl (fun x z => x.fset F.prtLaneRole (z / 16) (z % 16) (s.catRole slot z)) s1
  let w := min (u 8 2) (s.pwr.derate.getD (u 8 2))
  let s1 := ((s1.fset F.pwrLimitSustained 0 0 w).fset F.pwrLimitCeiling 0 0 (u 0xA 2)).fset F.pwrLimitEffective 0 0 w
  let s1 := (List.range 16).foldl (fun x k => x.fset F.pwrCoefValue 0 k (s.catCoef slot k)) s1
  let s1 := (s1.fset F.frmLimitsMinSlack 0 0 (u 0xC 2)).fset F.frmLimitsHoldBudget 0 0 (u 0xE 1)
  let s1 := (List.range 16).foldl (fun x c =>
    let fm := s.catU slot (o + 0x20 + c) 1
    (((x.fset F.clkDomFmaxStep 0 c fm).fset F.clkDomTarget 0 c (min 30 fm)).modDie c (fun y => { y with newTarget := true }))) s1
  let s1 := s1.setFlag F.tstCtlPresent 0 0 (bit (u 0x10 1) 1)
  (s1.modBoot (fun b => { b with cat := s.catHeld slot })).ledgerSet slot

end Sys2Proof.Machine
end

