-- ==== Sys2Proof/Machine/Load.lean ====
section
/-! DEFINITION. Job images: their format, the checks of admission, what an admitted image is written out to, unloading
(R146–R160, R178, R199–R203, R299, R340, R435, R471–R474). -/

namespace Sys2Proof.Machine

/-! ## Reading an image -/

/-- `n` bytes of the image, as a number; whether `n` bytes are zero. -/
def imgU (m : NMap Byte) (o n : Nat) : Nat := leNat (readBytes m o n)
def imgZero (m : NMap Byte) (o n : Nat) : Bool := (m.range o (o + n)).isEmpty

/-- The section table (R148). -/
def imgSects (m : NMap Byte) : List Sect :=
  (List.range (imgU m 0x42 2)).map (fun i =>
    let o := imgU m 0x48 8 + 32 * i
    { typ := imgU m o 2, index := imgU m (o + 2) 2, off := imgU m (o + 8) 8, len := imgU m (o + 16) 8 })

/-- A section, and its place in the table. -/
def imgSect (m : NMap Byte) (typ index : Nat) : Option Sect := (imgSects m).find? (fun x => x.typ == typ && x.index == index)
def imgSectNo (m : NMap Byte) (typ index : Nat) : Nat :=
  ((imgSects m).findIdx? (fun x => x.typ == typ && x.index == index)).getD 0xFFF

/-- Section types (R149). -/
def scTiles : Nat := 0x01
def scResident : Nat := 0x02
def scCarry : Nat := 0x03
def scRoutes : Nat := 0x04
def scAnchors : Nat := 0x05
def scStart : Nat := 0x06
def scPhases : Nat := 0x10
def scMaps : Nat := 0x11
def scSched : Nat := 0x20
def scRegions : Nat := 0x30
def scOwners : Nat := 0x31
def scData : Nat := 0x40

/-- Where a section starts, and its length; 0 where it is missing. -/
def imgOff (m : NMap Byte) (typ index : Nat) : Nat := ((imgSect m typ index).map Sect.off).getD 0
def imgLen (m : NMap Byte) (typ index : Nat) : Nat := ((imgSect m typ index).map Sect.len).getD 0

/-- A byte of the configuration of logical tile i of a stack (R150); 0 for a stack without that section. -/
def tileCfg (m : NMap Byte) (c i k : Nat) : Nat :=
  if (imgSect m scTiles c).isSome then imgU m (imgOff m scTiles c + 8 * i + k) 1 else 0

/-- Sizes of a tile's resident region and carry bank, in bytes; where they start in their sections. -/
def resBytes (m : NMap Byte) (c i : Nat) : Nat := 65536 * tileCfg m c i 0
def carryBytes (m : NMap Byte) (c i : Nat) : Nat := 16384 * tileCfg m c i 1
def resOff (m : NMap Byte) (c i : Nat) : Nat := imgOff m scResident c + ((List.range i).map (resBytes m c)).sum
def carryOff (m : NMap Byte) (c i : Nat) : Nat := imgOff m scCarry c + ((List.range i).map (carryBytes m c)).sum

/-- A thread start entry (R151). -/
def startAt (m : NMap Byte) (prog c i n : Nat) : Nat := imgU m (imgOff m scStart c + 4 * ((256 * prog + i) * 8 + n)) 4

/-- A phase table entry (R153). -/
def imgPhase (m : NMap Byte) (p : Nat) : Nat := imgU m (imgOff m scPhases 0xFFFF + 8 * p) 8
def phaseEnt (w : Nat) : PhaseEnt := { startUs := bits w 0 16, retune := bit w 16, ramp := bit w 17 }

/-- A region declaration (R154). -/
def imgRegion (m : NMap Byte) (i : Nat) : Region :=
  let o := imgOff m scRegions 0xFFFF + 32 * i
  { kind := imgU m o 1, flags := imgU m (o + 1) 1, slots := imgU m (o + 2) 2, firstSlot := imgU m (o + 4) 2
    base := imgU m (o + 8) 8, len := imgU m (o + 16) 8 }
def imgRegions (m : NMap Byte) : List Region := (List.range (imgLen m scRegions 0xFFFF / 32)).map (imgRegion m)

/-- Directory word of a phase's map, and a word of entry i (R199, R200). -/
def mapDir (m : NMap Byte) (p : Nat) : Nat := imgU m (imgOff m scMaps 0xFFFF + 8 * p) 8
def mapWord (m : NMap Byte) (i k : Nat) : Nat := imgU m (imgOff m scMaps 0xFFFF + 128 + 32 * i + 8 * k) 8

def imgMapEnt (m : NMap Byte) (i : Nat) : MapEnt :=
  let w0 := mapWord m i 0
  let w1 := mapWord m i 1
  let w2 := mapWord m i 2
  { typ := bits w0 0 4, bus := bits w0 4 8, chan := bits w0 12 6, chans := bits w0 18 4
    dsts := if bits w0 0 4 = tPool then [] else (List.range (bits w0 46 2 + 1)).map (fun k => bits w0 (22 + 6 * k) 6)
    srcLine := bits w1 0 17, dstLine := bits w1 17 17, edge := bits w1 34 2, lines := bits w1 36 18
    cc := bits w2 0 14, ccEn := bit w2 14, gaddr := mapWord m i 3 }

def imgMap (m : NMap Byte) (p : Nat) : List MapEnt :=
  (List.range (bits (mapDir m p) 16 16)).map (fun i => imgMapEnt m (bits (mapDir m p) 0 16 + i))

/-- A word of scheduled transfer i, and the transfer (R299); MAP_ENTRY counts over all phases (R199). -/
def schedWord (m : NMap Byte) (i k : Nat) : Nat := imgU m (imgOff m scSched 0xFFFF + 64 + 32 * i + 8 * k) 8
def schedCount (m : NMap Byte) : Nat := if (imgSect m scSched 0xFFFF).isSome then imgU m (imgOff m scSched 0xFFFF) 8 else 0

def imgSched (m : NMap Byte) (i : Nat) : Sched :=
  let w0 := schedWord m i 0
  let w1 := schedWord m i 1
  let w3 := schedWord m i 3
  { phase := bits w0 0 4, mapEntry := bits w0 4 16 - bits (mapDir m (bits w0 0 4)) 0 16, port := bits w0 20 2
    typ := bits w0 22 4, mgrp := bits w0 26 5, dst := bits w0 32 10, mask := bits w1 0 32, xfer := bits w1 32 24
    daddr := schedWord m i 2, cc := bits w3 0 14, ccEn := bit w3 14, lines := bits w3 15 17 }

/-- Ownership entries (R340). -/
def ownerWord (m : NMap Byte) (i k : Nat) : Nat := imgU m (imgOff m scOwners 0xFFFF + 64 + 16 * i + 8 * k) 8
def ownerCount (m : NMap Byte) : Nat := if (imgSect m scOwners 0xFFFF).isSome then imgU m (imgOff m scOwners 0xFFFF) 8 else 0
def imgOwner (m : NMap Byte) (i : Nat) : Owner :=
  let w := ownerWord m i 1
  { base := ownerWord m i 0, units := bits w 0 16, owner := bits w 16 10, programs := bits w 26 16 }

/-- The image digest (R471): SHA-384 over the digests of its 64 MiB chunks. -/
def imageDigest (m : NMap Byte) : BitVec 384 :=
  let n := imgU m 8 8
  let chunk := 2 ^ 26
  Config.sha384 ((List.range (ceilDiv n chunk)).flatMap (fun i =>
    digestBytes (Config.sha384 (readBytes m (chunk * i) (min chunk (n - chunk * i))))))

/-- The digest that mirror partners compare: DEVICE and MIRROR_PARTNER set to zero (R435). (DESIGN CHOICE, log entry 31) -/
def pairDigest (m : NMap Byte) : BitVec 384 :=
  Config.sha384 (readBytes (writeBytes (writeBytes m 0x18 [0, 0]) 0x3E [0, 0]) 0 (imgU m 8 8))

/-- Where the signature block begins. -/
def sigOff (m : NMap Byte) : Nat := 64 * ceilDiv (imgU m 8 8) 64

/-- The image as the device keeps it. -/
def readJob (m : NMap Byte) : Job :=
  let stackSet := imgU m 0x1E 2
  let phases := imgU m 0x22 1
  let programs := imgU m 0x23 1
  { jobId := imgU m 0x10 8, device := imgU m 0x18 2, devices := imgU m 0x1A 2, capReq := imgU m 0x1C 2, stackSet := stackSet
    periodUs := imgU m 0x20 2, phases := phases, programs := programs, clkMhz := imgU m 0x24 2
    holdLimit := imgU m 0x26 2, firstOutNs := imgU m 0x30 4, ccUsed := imgU m 0x38 2, policy := imgU m 0x3A 1
    powerOrder := imgU m 0x3B 1, powerCoord := imgU m 0x3C 2, mirrorPartner := imgU m 0x3E 2, wdog := imgU m 0x40 2
    iBytes := imgU m 0x50 8, dBytes := imgU m 0x58 8, pUnits := (List.range 20).map (fun k => imgU m (0x60 + 4 * k) 4)
    lanes := (List.range 4).map (fun p => imgU m (0xB0 + p) 1), appendSlots := imgU m 0xB4 2
    keyId := imgU m (sigOff m + 8) 1, digest := imageDigest m, mirrorDigest := pairDigest m
    phaseTable := (List.range phases).map (fun p => phaseEnt (imgPhase m p)), maps := (List.range phases).map (imgMap m)
    sched := (List.range (schedCount m)).map (imgSched m), regions := imgRegions m
    owners := (List.range (ownerCount m)).map (imgOwner m)
    start := (List.range (programs * 16)).foldl (fun t q =>
      if bit stackSet (q % 16) then
        (List.range 2048).foldl (fun t i => t.set 0 (2048 * q + i) (startAt m (q / 16) (q % 16) (i / 8) (i % 8))) t
      else t) [] }

/-! ## FORMAT (R157, R147–R154, R199–R203, R299, R340, R435) -/

/-- A refusal: reason, section, detail (R184). -/
structure Refused where
  reason : Nat
  sect : Nat := 0xFFF
  detail : Nat := 0
  deriving DecidableEq, Repr

/-- Refuse with a reason unless a condition holds. -/
def need (ok : Bool) (reason : Nat) (sect : Nat := 0xFFF) (detail : Nat := 0) : Option Refused :=
  if ok then none else some { reason := reason, sect := sect, detail := detail }

/-- The first refusal of a list of checks. -/
def firstOf (l : List (Option Refused)) : Option Refused := l.findSome? id

/-- DETAIL of a section: its stack or region (R184). -/
def Sect.detail (x : Sect) : Nat := if x.index = 0xFFFF then 0 else x.index

def mib2 (v : Nat) : Bool := v % 2097152 == 0

/-- POWER_ORDER is a permutation of the classes. -/
def orderOk (o : Nat) : Bool :=
  decide (o < 64) && [0, 1, 2].all (fun k => o % 4 == k || o / 4 % 4 == k || o / 16 % 4 == k)

/-- The header. (DESIGN CHOICE, log entry 23; DEDUCED, log entry 24) -/
def Device.headerOk (s : Device) (m : NMap Byte) : Bool :=
  let u := imgU m
  let dev := u 0x18 2
  let devs := u 0x1A 2
  let mp := u 0x3E 2
  let pol := u 0x3A 1
  u 0 4 == 0x494A5842 && u 4 2 == 1 && u 6 2 == 256 && u 0x10 8 != 0 && decide (1 ≤ devs ∧ devs ≤ 1024 ∧ dev < devs) &&
    dev == s.fget F.glbStatusDeviceNo && decide (64 ≤ u 0x20 2 ∧ u 0x20 2 ≤ 1024) &&
    decide (1 ≤ u 0x22 1 ∧ u 0x22 1 ≤ 16 ∧ 1 ≤ u 0x23 1 ∧ u 0x23 1 ≤ 16) &&
    decide (750 ≤ u 0x24 2 ∧ u 0x24 2 ≤ 1650) && u 0x24 2 % 25 == 0 && decide (pol < 16) &&
    (!bit pol 3 || bit (u 0x1C 2) 1) && orderOk (u 0x3B 1) && decide (u 0x3C 2 < devs ∨ u 0x3C 2 = 0xFFFF) &&
    (mp == 0xFFFF || (mp != dev && decide (mp < devs) && mp / 32 == dev / 32 && s.boot.cat.journalGib != 0)) &&
    decide (1 ≤ u 0x42 2 ∧ u 0x42 2 ≤ 4096) && imgZero m 0x44 4 && u 0x48 8 % 64 == 0 && mib2 (u 0x50 8) && mib2 (u 0x58 8) &&
    (List.range 4).all (fun p => decide (u (0xB0 + p) 1 ≤ 16)) && decide (u 0xB4 2 ≤ 2048) && imgZero m 0xB6 74 &&
    decide (sigOff m + 16640 ≤ s.ctl.loadLen)

/-- A type of the table, with an INDEX of its kind. -/
def sectOk (regions : Nat) (x : Sect) : Bool :=
  if scTiles ≤ x.typ ∧ x.typ ≤ scStart then decide (x.index < 16)
  else if x.typ = scData then decide (x.index < regions)
  else x.index == 0xFFFF && (x.typ == scPhases || x.typ == scMaps || x.typ == scSched || x.typ == scRegions || x.typ == scOwners)

/-- The section table: layout, types, the sections an image must contain. (DEDUCED, log entry 24) -/
def tableOk (m : NMap Byte) : Option Refused :=
  let xs := imgSects m
  let n := imgLen m scRegions 0xFFFF / 32
  let stackSet := (List.range 16).filter (fun c => bit (imgU m 0x1E 2) c)
  firstOf (
    (List.range xs.length).map (fun i =>
      let o := imgU m 0x48 8 + 32 * i
      need (imgZero m (o + 4) 4 && imgZero m (o + 24) 8 && (xs[i]?).any (sectOk n)) 1 i ((xs[i]?).getD {}).detail) ++
    [need (sectsApart xs) 1, need ((xs.map (fun x => x.off + x.len)).foldl max 0 == imgU m 8 8) 1] ++
    stackSet.map (fun c => need ((List.range 6).all (fun t => xs.any (fun x => x.typ == t + 1 && x.index == c))) 1 0xFFF c) ++
    [need ([scPhases, scMaps, scRegions].all (fun t => xs.any (fun x => x.typ == t))) 1,
     need (imgU m 0x1A 2 == 1 || xs.any (fun x => x.typ == scSched)) 1])

/-- LENGTH matches content. (DEDUCED, log entries 21 and 22) -/
def lengthOk (m : NMap Byte) (x : Sect) : Bool :=
  let tiles := List.range 256
  if x.typ = scTiles then x.len == 2048
  else if x.typ = scResident then x.len == (tiles.map (resBytes m x.index)).sum
  else if x.typ = scCarry then x.len == (tiles.map (carryBytes m x.index)).sum
  else if x.typ = scRoutes then x.len == 4194304
  else if x.typ = scAnchors then x.len == 131072
  else if x.typ = scStart then x.len == 8192 * imgU m 0x23 1
  else if x.typ = scPhases then x.len == 128
  else if x.typ = scMaps then
    x.len == 128 + 32 * ((List.range (imgU m 0x22 1)).map (fun p => bits (mapDir m p) 16 16)).sum
  else if x.typ = scSched then x.len == 64 + 32 * schedCount m
  else if x.typ = scRegions then x.len % 32 == 0
  else if x.typ = scOwners then x.len == 64 + 16 * ownerCount m
  else x.len == (imgRegion m x.index).len

/-- A TILE_CONFIG entry (R150). -/
def cfgOk (m : NMap Byte) (c i : Nat) : Bool :=
  let b := tileCfg m c i
  decide (1 ≤ b 0 ∧ b 0 ≤ 16 ∧ b 1 ≤ 16 ∧ b 2 ≤ 7 ∧ 0xF0 ≤ b 3 ∧ 0xF0 ≤ b 4) && b 5 == 0 && b 6 == 0 && b 7 == 0

/-- A start entry (R151). -/
def startOk (m : NMap Byte) (c i w : Nat) : Bool :=
  if bit w 24 then
    bits w 0 24 % 4 == 0 && decide (bits w 0 24 < resBytes m c i) && (!bit w 25 || bit (imgU m 0x3A 1) 3) && decide (w < 2 ^ 26)
  else w == 0

/-- The per-stack sections of stack c, those present, whether STACKS names it or not (R157). (DEDUCED, log entry 21) -/
def stackOk' (m : NMap Byte) (c : Nat) : Option Refused :=
  let has (t : Nat) : Bool := (imgSect m t c).isSome
  firstOf [
    need (!has scTiles || (List.range 256).all (fun i => cfgOk m c i)) 1 (imgSectNo m scTiles c) c,
    need (!has scAnchors || (List.range (256 * 256)).all (fun k => decide (imgU m (imgOff m scAnchors c + 2 * k) 2 < 512))) 1
      (imgSectNo m scAnchors c) c,
    need (!has scStart || (List.range (imgU m 0x23 1)).all (fun q => (List.range 256).all (fun i => (List.range 8).all (fun n =>
      startOk m c i (startAt m q c i n))))) 1 (imgSectNo m scStart c) c]

/-- A region declaration, but for the conditions of WRITE_SET. (DEDUCED, log entry 22) -/
def regionOk (m : NMap Byte) (i : Nat) : Bool :=
  let o := imgOff m scRegions 0xFFFF + 32 * i
  let r := imgRegion m i
  decide (r.kind ≤ 3 ∧ r.flags < 8) &&
    (if r.kind = rgAppend then decide (1 ≤ r.slots ∧ r.slots ≤ 2048) && r.len % r.slots == 0 && r.slotSize % 256 == 0
     else r.slots == 0 && r.firstSlot == 0) &&
    imgZero m (o + 6) 2 && imgZero m (o + 24) 8 && gDev r.base == imgU m 0x18 2 && decide (gSpace r.base ≤ 2) && mib2 r.base &&
    mib2 r.len

/-- `n` bytes at an address lie in a region. (DEDUCED, log entry 27) -/
def Region.covers (r : Region) (a n : Nat) : Bool :=
  gDev r.base == gDev a && gSpace r.base == gSpace a && decide (gOff r.base ≤ gOff a ∧ gOff a + n ≤ gOff r.base + r.span)

/-- Fields that an entry's type requires to be zero, and ranges (R200). -/
def mapFieldsOk (m : NMap Byte) (i : Nat) : Bool :=
  let w0 := mapWord m i 0
  let w1 := mapWord m i 1
  let w2 := mapWord m i 2
  let e := imgMapEnt m i
  let src := srcSite e.bus
  let ranges := decide (1 ≤ e.typ ∧ e.typ ≤ 3 ∧ e.bus ≤ 223 ∧ 1 ≤ e.chans ∧ e.chans ≤ 8 ∧ e.chan + e.chans ≤ 60) &&
    bits w0 48 16 == 0 && bits w1 54 10 == 0 && bits w2 15 49 == 0
  if e.typ = tPool then ranges && bits w0 22 42 == 0 && w1 == 0 && w2 == 0 && e.gaddr == 0
  else
    let d := e.dsts.getD 0 0
    let toPort := e.typ == tAssign && (isPortSite d || isPortSite src)
    ranges && e.dsts.all (fun t => decide (t < 40)) &&
      (List.range 4).all (fun k => decide (k < e.dsts.length) || bits w0 (22 + 6 * k) 6 == 0) &&
      (e.typ == tFetch || e.dsts.length == 1) &&
      (if toPort then e.lines == 0 else decide (1 ≤ e.lines ∧ e.lines ≤ 131072)) &&
      (isCompute src || e.srcLine == 0) && (isCompute d || (e.dstLine == 0 && e.edge == 0)) &&
      (e.typ == tFetch || isMemSite d || e.gaddr == 0) && decide (e.srcLine + e.lines ≤ 131072 ∧ e.dstLine + e.lines ≤ 131072)

/-- Sources and destinations that go together (R201), and what a FETCH may read (R203). (DEDUCED, log entry 27) -/
def mapEndsOk (m : NMap Byte) (e : MapEnt) : Bool :=
  let src := srcSite e.bus
  let d := e.dsts.getD 0 0
  if e.typ = tPool then true
  else if e.typ = tAssign then isCompute src || (isPortSite src && isMemSite d)
  else
    isMemSite src && e.dsts.all isCompute && decide e.dsts.Nodup && gDev e.gaddr == imgU m 0x18 2 && gSpace e.gaddr == 1 && bits (gOff e.gaddr) 36 5 == src - 16 &&
      bits (gOff e.gaddr) 41 11 == 0 && e.gaddr % 64 == 0 && (imgRegions m).any (fun r => r.covers e.gaddr (64 * e.lines))

/-- The maps: directory, entries, each channel once in a phase. -/
def mapsOk (m : NMap Byte) : Option Refused :=
  let phases := imgU m 0x22 1
  let no := imgSectNo m scMaps 0xFFFF
  firstOf ((List.range 16).map (fun p =>
    if p < phases then
      let w := mapDir m p
      let first := ((List.range p).map (fun q => bits (mapDir m q) 16 16)).sum
      let es := imgMap m p
      need (bits w 32 32 == 0 && bits w 0 16 == first &&
        (List.range es.length).all (fun i => mapFieldsOk m (first + i)) && es.all (mapEndsOk m) &&
        decide ((es.flatMap MapEnt.keys).Nodup)) 1 no p
    else need (mapDir m p == 0) 1 no p))

/-- The schedule (R299): the first entry that breaks its ranges is refused with its phase. (DESIGN CHOICE, log entry 25; DEDUCED, log
entry 30) -/
def schedOk (m : NMap Byte) : Option Refused :=
  let o := imgOff m scSched 0xFFFF
  let n := schedCount m
  let no := imgSectNo m scSched 0xFFFF
  firstOf (need (n == 0 || imgZero m (o + 8) 56) 1 no :: (List.range n).map (fun i =>
    let w0 := schedWord m i 0
    let w1 := schedWord m i 1
    let w3 := schedWord m i 3
    let x := imgSched m i
    let first := bits (mapDir m x.phase) 0 16
    need (decide (x.phase < imgU m 0x22 1) && (i == 0 || decide ((imgSched m (i - 1)).phase ≤ x.phase)) &&
      (x.typ == 1 || x.typ == 7 || x.typ == 8) && !bit w0 31 && bits w0 42 22 == 0 && bits w1 56 8 == 0 && bits w3 32 32 == 0 &&
      (if x.typ = 7 then x.dst == 32 * x.mgrp else x.mgrp == 0 && x.mask == 0) && gSpace x.daddr == 1 && x.daddr % 512 == 0 &&
      decide (1 ≤ x.lines ∧ x.lines ≤ 131064) && x.lines % 8 == 0 && decide (first ≤ bits w0 4 16) &&
      ((imgMap m x.phase)[x.mapEntry]?).any (fun e => e.typ == tAssign && e.dsts == [36 + x.port] && isCompute (srcSite e.bus))) 1 no x.phase))

/-- Two ownership entries overlap while one program runs. -/
def ownersClash (a b : Owner) : Bool :=
  Nat.land a.programs b.programs != 0 && gSpace a.base == gSpace b.base &&
    decide (gOff a.base < gOff b.base + 2097152 * b.units ∧ gOff b.base < gOff a.base + 2097152 * a.units)

/-- OWNERS (R340): each owned unit lies in some region. (DEDUCED, log entry 27) -/
def ownersOk (m : NMap Byte) : Bool :=
  let n := ownerCount m
  let l := (List.range n).map (imgOwner m)
  (n == 0 || imgZero m (imgOff m scOwners 0xFFFF + 8) 56) &&
    (List.range n).all (fun i =>
      let x := imgOwner m i
      bits (ownerWord m i 1) 42 22 == 0 && gDev x.base == imgU m 0x18 2 && decide (gSpace x.base ≤ 2) && mib2 x.base &&
        decide (1 ≤ x.units ∧ x.owner < imgU m 0x1A 2 ∧ x.programs < 2 ^ imgU m 0x23 1) &&
        (List.range x.units).all (fun k => (imgRegions m).any (fun r => r.covers (x.base + 2097152 * k) 2097152)) &&
        (l.drop (i + 1)).all (fun y => !ownersClash x y))

/-- Check 1. -/
def Device.formatFail (s : Device) (m : NMap Byte) : Option Refused :=
  firstOf [need (s.headerOk m) 1, tableOk m,
    firstOf ((List.range (imgSects m).length).map (fun i =>
      need (((imgSects m)[i]?).any (lengthOk m)) 1 i (((imgSects m)[i]?).getD {}).detail)),
    firstOf ((List.range 16).map (stackOk' m)),
    firstOf ((List.range 16).map (fun p => need (decide (imgPhase m p < 2 ^ 18)) 1 (imgSectNo m scPhases 0xFFFF) p)),
    firstOf ((List.range (imgRegions m).length).map (fun i => need (regionOk m i) 1 (imgSectNo m scRegions 0xFFFF) i)),
    mapsOk m, schedOk m, need (ownersOk m) 1 (imgSectNo m scOwners 0xFFFF)]

/-! ## The other checks -/

/-- The RSA and SLH-DSA keys that a KEY_ID names: the owner's, allowed to sign images, or one of JOB_KEYS (R471). -/
def Device.jobKeys (s : Device) (keyId : Nat) : Option (List Byte × List Byte) :=
  let slot := s.fget F.curCatSlot
  let cut (b : List Byte) : List Byte × List Byte := ((b.drop 16).take 384, (b.drop 400).take 48)
  if keyId = 0 then
    let cert := s.certs slot 448 448
    if bit ((cert.getD 9 0).toNat) 1 then some (cut cert) else none
  else
    match s.catSect slot 7 with
    | none => none
    | some x =>
      ((List.range (x.len / 448)).map (fun i => s.catBytes slot (x.off + 448 * i) 448)).findSome? (fun b =>
        if (b.getD 8 0).toNat = keyId then some (cut b) else none)

/-- Check 2 (R463, R471). -/
def Device.signatureFail (s : Device) (m : NMap Byte) : Bool :=
  let blk := readBytes m (sigOff m) 16640
  let key := imgU m (sigOff m + 8) 1
  match s.jobKeys key with
  | none => true
  | some k =>
    !(sigHead blk key && bothOk k.1 k.2 (ascii "UBXJOB01" ++ digestBytes (imageDigest m)) ((blk.drop 0x20).take 384) (blk.drop 0x1A0))

/-- Check 9 (R153): the first phase that breaks the table's conditions. -/
def periodFail (m : NMap Byte) : Option Nat :=
  let phases := imgU m 0x22 1
  let start (p : Nat) : Nat := if p < phases then bits (imgPhase m p) 0 16 else imgU m 0x20 2
  (List.range 16).find? (fun p =>
    if p < phases then (p == 0 && start 0 != 0) || decide (start (p + 1) < start p + 8) else imgPhase m p != 0)

/-- Check 10 (R158). -/
def Device.slackFail (s : Device) (m : NMap Byte) : Bool :=
  let eow := ceilDiv (imgU m 0x28 4 * 1000) (max 1 (imgU m 0x24 2)) + imgU m 0x2C 4
  let w := 1000 * imgU m 0x20 2
  !(decide (eow + 2000 ≤ w) && decide (ceilDiv (w * s.fget F.frmLimitsMinSlack) 1000 + eow ≤ w))

/-- A region lies in its declared footprint. -/
def inFootprint (j : Job) (r : Region) : Bool :=
  let o := gOff r.base
  match gSpace r.base with
  | 0 => decide (o + r.span ≤ j.iBytes)
  | 1 => decide (o / 2 ^ 41 = 0 ∧ bits o 36 5 ≤ 19 ∧ bits o 0 36 + r.span ≤ 2097152 * j.pUnits.getD (bits o 36 5) 0)
  | _ => decide (o + r.span ≤ j.dBytes)

/-- Regions overlap. (DEDUCED, log entry 26) -/
def regionsClash (a b : Region) : Bool :=
  gSpace a.base == gSpace b.base && decide (gOff a.base < gOff b.base + b.span ∧ gOff b.base < gOff a.base + a.span)

/-- Check 14 on one region. -/
def regionFits (j : Job) (i : Nat) : Bool :=
  let r := j.regions.getD i {}
  (j.regions.drop (i + 1)).all (fun x => !regionsClash r x) && inFootprint j r &&
    (r.kind != rgAppend || (gSpace r.base == 1 && decide (r.firstSlot + r.slots ≤ 2048))) &&
    (!r.hostWrite || r.kind == rgBanked) && (!r.atomic || (r.kind != rgReadOnly && r.kind != rgAppend))

/-- Check 14 on a compute-sourced window to memory (R202). (DEDUCED, log entry 27) -/
def windowFits (j : Job) (e : MapEnt) : Bool :=
  let d := e.dsts.getD 0 0
  !(e.typ == tAssign && isCompute (srcSite e.bus) && isMemSite d) ||
    (gDev e.gaddr == j.device && gSpace e.gaddr == 1 && bits (gOff e.gaddr) 36 5 == d - 16 && e.gaddr % 64 == 0 &&
      j.regions.any (fun r => r.covers e.gaddr (64 * e.lines) && r.kind != rgReadOnly && !r.hostWrite))

/-- Check 14. (DEDUCED, log entry 26) -/
def writeSetFail (m : NMap Byte) (j : Job) : Option Refused :=
  firstOf (
    (List.range j.regions.length).map (fun i => need (regionFits j i) 14 (imgSectNo m scRegions 0xFFFF) i) ++
    [need (((j.regions.filter (fun r => r.kind == rgAppend)).map Region.slots).sum ≤ j.appendSlots) 14
      (imgSectNo m scRegions 0xFFFF)] ++
    ((imgSects m).filter (fun x => x.typ == scData)).map (fun x =>
      let k := (j.regions.getD x.index {}).kind
      need (k == rgReadOnly || k == rgBanked) 14 (imgSectNo m scData x.index) x.index) ++
    (List.range j.phases).map (fun p => need ((j.maps.getD p []).all (windowFits j)) 14 (imgSectNo m scMaps 0xFFFF) p))

/-- A check that names what it found. -/
def found (x : Option Nat) (reason : Nat) (sect : Nat := 0xFFF) : Option Refused :=
  x.map (fun d => { reason := reason, sect := sect, detail := d })

/-- The checks of R157, in order. BUSY cannot arise: the device is LOADING. (DEDUCED, log entry 28) -/
def Device.admission (s : Device) (m : NMap Byte) : Option Refused :=
  let j := readJob m
  firstOf [s.formatFail m, need (!s.signatureFail m) 2,
    need (Nat.land j.capReq (s.fget F.glbCapCap) == j.capReq) 4, found (s.stacksFail j.stackSet) 5,
    found (s.memoryFail j.iBytes j.dBytes j.pUnits j.regions) 6,
    found (s.opticsFail j.maps j.phaseTable j.phases) 7 (imgSectNo m scMaps 0xFFFF), found (s.lanesFail j.lanes) 8,
    found (periodFail m) 9 (imgSectNo m scPhases 0xFFFF), need (!s.slackFail m) 10, need (decide (20000 ≤ j.firstOutNs)) 11,
    found (s.clockFail j.stackSet j.clkMhz) 12, need (decide (1 ≤ imgU m 0x34 4 ∧ imgU m 0x34 4 ≤ 16777216)) 13, writeSetFail m j,
    need (decide (j.ccUsed ≤ 16384)) 15, need (decide (j.holdLimit ≤ 8 ∧ j.holdLimit ≤ s.fget F.frmLimitsHoldBudget)) 16]

/-! ## Writing an image out (R86, R87, R132, R133, R258, R474) -/

/-- The state of a tile that an image loads: resident region, the carry-in bank with its written bits, route memory, anchors.
(DEDUCED, log entry 29) -/
def loadedTile (m : NMap Byte) (c i : Nat) : Tile :=
  let cs := carryBytes m c i
  let cb0 := 0x180000 - 2 * cs
  let sram := NMap.copy 0 m [] (resOff m c i) 0 (resBytes m c i)
  { sram := NMap.copy 0 m sram (carryOff m c i) cb0 cs
    written := (List.range (cs / 64)).map (fun k => cb0 / 64 + k)
    route := (List.range 4096).foldl (fun r k => r.set 0 k (imgU m (imgOff m scRoutes c + 16384 * i + 4 * k) 4)) []
    anchors := (List.range 256).foldl (fun r k =>
      r.set 0 k (signed 9 (imgU m (imgOff m scAnchors c + 512 * i + 2 * k) 2))) [] }

/-- Write logical tile i of stack c, and its resident copy (R85); its faults are counted anew (R134). -/
def Device.writeTile (s : Device) (m : NMap Byte) (c i : Nat) : Device :=
  let t := s.physicalOf c (i % 16) (i / 16)
  let b := 272 * c + t
  let g := tileCfg m c i
  let ucnt := bit (imgU m 0x3A 1) 2 && bit s.boot.cat.policy 0
  let s := (s.setTile c t (loadedTile m c i)).keepCopy c i (loadedTile m c i) (65536 * g 0)
  (s.wr .tileSramMap b 0 (g 0 + g 1 * 2 ^ 8)).wr .tileCtl b 0
    (g 2 + g 3 * 2 ^ 8 + g 4 * 2 ^ 16 + imgU m 0x40 2 * 2 ^ 32 + b2n ucnt * 2 ^ 48)

/-- Copy bytes of the image to memory, granule by granule, where `place` says. -/
def Device.copyOut (s : Device) (m : NMap Byte) (off len : Nat) (place : Nat → Option (Nat × Nat)) : Device :=
  (List.range (ceilDiv len 256)).foldl (fun s i =>
    match place (256 * i) with
    | some (_, key) =>
      s.modMem (fun x => { x with
        bytes := NMap.copy 0 m x.bytes (off + 256 * i) key 256
        bad := x.bad.filter (fun l => !decide (key / 64 ≤ l ∧ l < key / 64 + 4)) })
    | none => s) s

/-- DATA goes to its region, and of a READ_ONLY one in HBM4 to its canonical copy too. (DEDUCED, log entry 35) -/
def Device.writeData (s : Device) (m : NMap Byte) (x : Sect) : Device :=
  let r := s.job.regions.getD x.index {}
  let top := s.dimmSpace - s.dimmReserved s.job.regions
  let s := s.copyOut m x.off x.len (fun o => s.locate (r.base + o))
  match (canonicalAt s.job.regions 0).find? (fun e => e.1 == r) with
  | some e => s.copyOut m x.off x.len (fun o => s.locateD (top + e.2 + o))
  | none => s

/-- Registers of the frame machinery that count from admission (R181–R183, R444, R445). (DEDUCED, log entry 32) -/
def Device.frameRegs (s : Device) (j : Job) : Device :=
  let s := s.wr .frmConfig 0 0 (j.periodUs + j.phases * 2 ^ 11 + j.programs * 2 ^ 16 + j.device * 2 ^ 32 + j.devices * 2 ^ 42)
  let limit := if j.holdLimit = 0 then s.fget F.frmLimitsHoldBudget else min j.holdLimit (s.fget F.frmLimitsHoldBudget)
  let s := ((s.wr .frmHold 0 0 (limit * 2 ^ 4)).wr .frmTiming 0 0 (0xFFFF * 2 ^ 16)).wr .frmMirror 0 0 (j.mirrorPartner % 2 ^ 10)
  let s := ((s.wr .frmFrame 0 0 0).wr .frmCommitted 0 0 0).wr .frmResync 0 0 0
  let s := (s.wr .frmDigest 0 0 0).wr .frmPdigest 0 0 0
  (s.wr .pwrEnJob 0 0 0).modPwr (fun p => { p with measured := 0, modelled := 0 })

/-- FRM_ADMIT (R184). -/
def Device.admitReg (s : Device) (r : Refused) : Device :=
  s.wr .frmAdmit 0 0 (r.reason + r.sect * 2 ^ 8 + r.detail % 2 ^ 32 * 2 ^ 32)

/-- The load area is zeroed and released. -/
def Device.releaseArea (s : Device) : Device := s.modCtl (fun c => { c with loadArea := [], loadLen := 0 })

/-- The frame machinery without a job's leftovers: job time, the tick count and accessions under way go on.
(DEDUCED, log entry 32) -/
def Frames.fresh (f : Frames) : Frames :=
  { jobTime := f.jobTime, tick := f.tick, tickAt := f.tickAt, work := f.work, lossPending := f.lossPending }

/-- A device that becomes READY compares its image with its partner's; what the partner sends is a free value.
(DESIGN CHOICE, log entry 31) -/
def Device.comparePartner (s : Device) : Device :=
  if s.job.mirrorPartner = 0xFFFF then s
  else
    let n := s.free
    let s : Device := { s with free := s.free + 1 }
    if Config.partnerDigest n = s.job.mirrorDigest then s else s.fset F.frmMirrorSync 0 0 syMismatch

/-- Counts that begin anew when a job is loaded (R134, R345, R349). -/
def Device.clearJobCounts (s : Device) : Device :=
  let s := (List.range 4352).foldl (fun s t => (s.fset F.tileFaultCount t 0 0).fset F.tileRemoteRetries t 0 0) s
  (List.range 4).foldl (fun s p => s.fset F.prtRmOwnCount p 0 0) s

/-- An accepted image is written out; the device is READY. -/
def Device.accepted (s : Device) (m : NMap Byte) : Device :=
  let j := readJob m
  let s := (s.modFr (fun f => { f.fresh with job := some j })).frameRegs j |>.clearJobCounts
  let s := (List.range 16).foldl (fun s c =>
    if bit j.stackSet c then (List.range 256).foldl (fun s i => s.writeTile m c i) s else s) s
  let s := ((imgSects m).filter (fun x => x.typ == scData)).foldl (fun s x => s.writeData m x) s
  ((s.admitReg { reason := 0 }).fset F.frmStateJob 0 0 jReady).releaseArea.comparePartner

/-- A refused one leaves nothing. (DEDUCED, log entry 33) -/
def Device.refused (s : Device) (r : Refused) : Device :=
  (((s.admitReg r).fset F.frmStateJob 0 0 jNone).releaseArea).note
    { kind := kCur, prio := 2, cls := 5, cause := 6 * 256 + r.reason, unit := r.sect, detail := r.detail }

/-- LOAD_END: the reason, and what follows (R472). -/
def Device.endLoad (s : Device) : Nat × Device :=
  match s.admission s.ctl.loadArea with
  | none => (0, s.accepted s.ctl.loadArea)
  | some r => (r.reason, s.refused r)

/-- Bytes free for a load: the DIMM space less the reservations present (R472). (DEDUCED, log entry 24) -/
def Device.loadRoom (s : Device) : Nat := if s.mem.ddrLost then 0 else s.dimmSpace - s.dimmReserved []

/-- LOAD: the load area opens. -/
def Device.beginLoad (s : Device) (n : Nat) : Device :=
  (s.modCtl (fun c => { c with loadArea := [], loadLen := n })).fset F.frmStateJob 0 0 jLoading

/-- A load is abandoned, or ended by UNLOAD (R473). -/
def Device.dropLoad (s : Device) : Device := (s.fset F.frmStateJob 0 0 jNone).releaseArea

/-- LOAD_TIMEOUT: 10 s without a write or an end of load. -/
def execLoadTimeout (s : State) : Host.Outcome State Fault Refusal :=
  onDevice (fun s =>
    if s.jobState = jLoading then
      s.dropLoad.note { kind := kCur, prio := 2, cls := 5, cause := 37 }
    else s) s

/-! ## Unloading (R178) -/

/-- Zero `n` bytes of a region where they lie. -/
def Device.zeroRegion (s : Device) (r : Region) : Device :=
  (List.range (r.span / 256)).foldl (fun s i =>
    match s.locate (r.base + 256 * i) with
    | some (_, key) =>
      s.modMem (fun x => { x with
        bytes := x.bytes.clear key (key + 256)
        bad := x.bad.filter (fun l => !decide (key / 64 ≤ l ∧ l < key / 64 + 4)) })
    | none => s) s

/-- UNLOAD of an admitted job. -/
def Device.unloadJob (s : Device) : Device :=
  let s := s.modFr (fun f => { f with swapped := false })
  let s := s.job.regions.foldl (fun s r => s.zeroRegion r) s
  let s : Device := { s with tiles := s.tiles.map (fun e =>
    (e.1, { e.2 with
      sram := [], bad := [], written := [], route := [], anchors := [], mregs := [], ve := [], threads := [], slots := []
      queue := [], released := false })) }
  let s := (List.range 4352).foldl (fun s b =>
    if (s.rd .tileSramMap b) = 0 then s else (s.wr .tileSramMap b 0 0).wr .tileCtl b 0 (RegKind.tileCtl.resetAt b 0)) s
  let s := (s.resetRegs (RegKind.frmLenPend.addr 0 0) (RegKind.frmLenPend.addr 0 2048)).resetRegs (RegKind.frmLenCommit.addr 0 0)
    (RegKind.frmLenCommit.addr 0 2048)
  let s : Device := { s with reqs := s.reqs.filter (fun r => r.kind == .reg || r.kind == .hostReq), gone := [] }
  let s := s.wr .frmMirror 0 0 (RegKind.frmMirror.resetAt 0 0)
  ((s.modFr Frames.fresh).modMem (fun x => { x with heldPages := [], cc := [] })).fset F.frmStateJob 0 0 jNone

end Sys2Proof.Machine
end

