-- ==== Sys2Proof/Machine/Logs.lean ====
section
/-! DEFINITION. The Ledger's records, tokens and ALARM log (R499, R500), bandwidth windows (R494), and the I3C port with its
part in writing the flash (R454, R517). -/

namespace Sys2Proof.Machine

/-! ## The Ledger -/

/-- RECORD_POST: a block posts a record (R496, R497, R499). -/
def execRecordPost (kind index prio cls cause unit : Nat) (detail : Nat) (s : State) : Host.Outcome State Fault Refusal :=
  onUnits (decide (kind ≤ kTile ∧ prio ≤ 3 ∧ cls ≤ 6)) (fun s =>
    s.note { kind := kind, index := index, prio := prio, cls := cls, cause := cause, unit := unit, detail := detail }) s

/-- The time between two tokens of a priority, in ns (R501), rounded down. (DEDUCED, log entry 129) -/
def Device.tokenGap (s : Device) (prio : Nat) : Nat := 1000000000 / s.led.rate.getD (prio - 1) 0

/-- LEDGER_TOKEN: a bucket gains a token, no sooner than its rate gives one; an entry of its source and priority that is open takes it, is
written and closes (R499, R501). (DEDUCED, log entry 129) -/
def Device.addToken (s : Device) (kind index prio : Nat) : Device :=
  let key := srcKey kind index
  let bk := bucketKey kind index prio
  if s.now < s.led.tokenAt.get 0 bk then s else
  let s : Device := { s with led := { s.led with
    spent := s.led.spent.upd 0 bk (· - 1), tokenAt := s.led.tokenAt.set 0 bk (s.now + s.tokenGap prio) } }
  let o := s.led.open_.get {} key
  if s.led.open_.any (fun e => e.1 == key) && o.prio == prio then
    ({ s with led := { s.led with open_ := s.led.open_.del key, spent := s.led.spent.upd 0 bk (· + 1) } } : Device).writeRecord o
  else s

def execLedgerToken (kind index prio : Nat) (s : State) : Host.Outcome State Fault Refusal :=
  onUnits (decide (kind ≤ kTile ∧ 1 ≤ prio ∧ prio ≤ 3)) (fun s => s.addToken kind index prio) s

/-- The companion of an ALARM that others joined when the table was full (R500). (DEDUCED, log entry 39) -/
def Device.writeCompanion (s : Device) (a : AlarmRec) : Device :=
  s.writeRecord (s.recordOf { kind := kLed, prio := 0, cls := 0, cause := 32, unit := a.unit, detail := a.seq })

/-- ALARMs that are acknowledged and in flash leave the table; once it has room the companions are written (R500).
(DEDUCED, log entry 39) -/
def Device.settleAlarms (s : Device) : Device :=
  let keep := s.led.alarms.filter (fun a => !(a.acked && a.inFlash))
  let s1 : Device := if 4096 ≤ keep.length then s
    else (s.led.alarms.filter AlarmRec.overflow).foldl Device.writeCompanion s
  ({ s1 with led := { s1.led with
      alarms := if 4096 ≤ keep.length then keep else keep.map (fun a => { a with overflow := false }) } } : Device).showAlarms

/-- The flash log with an ALARM added: of 32,768 records the oldest acknowledged one gives way; `none` where every one waits
for its acknowledgement. -/
def logAlarm (l : List AlarmRec) (a : AlarmRec) : Option (List AlarmRec) :=
  if l.length < 32768 then some (l ++ [a])
  else (l.findIdx? AlarmRec.acked).map (fun i => dropAt l i ++ [a])

/-- ALARM_FLASH_WRITE (R500). (DEDUCED, log entry 74) -/
def Device.flashAlarm (s : Device) (seq : Nat) : Device :=
  match s.led.alarms.find? (fun a => a.seq == seq && !a.inFlash) with
  | none => s
  | some a =>
    match logAlarm s.led.flashLog { a with inFlash := true } with
    | none => s
    | some l =>
      ({ s with led := { s.led with
          flashLog := l
          alarms := s.led.alarms.map (fun x => if x.seq = seq then { x with inFlash := true } else x) } } : Device).settleAlarms

def execAlarmFlashWrite (seq : Nat) (s : State) : Host.Outcome State Fault Refusal := onDevice (fun s => s.flashAlarm seq) s

/-- ACK_ALARM: one ALARM by its SEQ, or all with 0 (R485). (DEDUCED, log entry 41) -/
def Device.ackAlarms (s : Device) (seq : Nat) : Device :=
  let ack (a : AlarmRec) : AlarmRec := if seq = 0 ∨ a.seq = seq then { a with acked := true } else a
  ({ s with led := { s.led with alarms := s.led.alarms.map ack, flashLog := s.led.flashLog.map ack } } : Device).settleAlarms

/-! ## Bandwidth windows (R494) -/

/-- The bandwidth registers. -/
def isBandwidth (off : Nat) : Bool :=
  match regAt off with
  | some (k, _, _) => k == .plnBw || k == .memBw || k == .prtDdrBw || k == .prtLaneBw
  | none => false

/-- BANDWIDTH_WINDOW: every register latches the bytes of the window that ends. -/
def Device.latchBandwidth (s : Device) : Device :=
  let regs := s.ctl.bwBytes.foldl (fun (m : NMap Word) e =>
    m.upd 0 (e.1 / 2) (fun v => v + BitVec.ofNat 64 (min (2 ^ 32 - 1) e.2 * 2 ^ (32 * (e.1 % 2)))))
    (s.regs.filter (fun e => !isBandwidth e.1))
  let s1 : Device := { s with regs := regs }
  (s1.modCtl (fun c => { c with bwBytes := [] })).finc F.glbBwCtlWindows 0 0 1

def execBandwidthWindow (s : State) : Host.Outcome State Fault Refusal := onDevice Device.latchBandwidth s

/-! ## Writing the flash (R454) -/

/-- The step of CUR_BOOT that reports Ready, and the one that reports failure (R475). -/
def stReady : Nat := 6
def stFailed : Nat := 7

/-- Slots whose image area may be written: the inactive one once a slot is chosen, either after a failure of step 0 or 1,
none before. (DEDUCED, log entry 38) -/
def Device.slotFree (s : Device) (slot : Nat) : Bool :=
  let step := s.fget F.curBootStep
  if step = stFailed ∧ s.fget F.curBootFailStep ≤ 1 then decide (slot < 2)
  else if step ≤ 1 then false
  else slot == 1 - s.fget F.curCatSlot

/-- An operation on `n` bytes of flash at an address, by the Curator or I3C, is allowed. (DEDUCED, log entry 38) -/
def Device.flashAllows (s : Device) (curator : Bool) (addr n : Nat) : Bool :=
  s.slotFree (addr / 0x4000000) && decide (addr % 0x4000000 + n ≤ imageArea) &&
    (s.boot.holder.isNone || s.boot.holder == some curator)

/-- An agent takes the flash. (DEDUCED, log entry 37) -/
def Device.holdFlash (s : Device) (curator : Bool) : Device := s.modBoot (fun b => { b with holder := some curator })

/-- FLASH_HOLD_RELEASE: the holder has been idle for 10 s. (DEDUCED, log entry 37) -/
def execFlashHoldRelease (s : State) : Host.Outcome State Fault Refusal :=
  onDevice (fun s => s.modBoot (fun b => { b with holder := none })) s

/-! ## The I3C port (R517) -/

/-- The outcome of an I3C operation on the flash. -/
def Device.i3cDone (s : Device) (refused : Bool) : Device := s.modBoot (fun b => { b with i3cRefused := refused })

/-- OP 0x02. -/
def Device.i3cProgram (s : Device) (addr : Nat) (data : List Byte) : Device :=
  if addr % 256 = 0 ∧ data.length = 256 ∧ s.flashAllows false addr 256 then
    ((s.holdFlash false).flashProgram addr data).i3cDone false
  else s.i3cDone true

def execI3cPageProgram (addr : Nat) (data : List Byte) (s : State) : Host.Outcome State Fault Refusal :=
  onDevice (fun s => s.i3cProgram addr data) s

/-- OP 0x03. -/
def Device.i3cErase (s : Device) (addr : Nat) : Device :=
  if addr % 65536 = 0 ∧ s.flashAllows false addr 65536 then ((s.holdFlash false).flashErase addr 65536).i3cDone false
  else s.i3cDone true

def execI3cSectorErase (addr : Nat) (s : State) : Host.Outcome State Fault Refusal := onDevice (fun s => s.i3cErase addr) s

/-- What OP 0x01 reads: no side effect, and with no core running only three registers. (DESIGN CHOICE, log entry 40) -/
def Device.i3cRead (s : Device) (off : Nat) : Nat :=
  if off % 8 ≠ 0 ∨ (inTst off ∧ !s.flag F.tstCtlPresent) then 0
  else
    match regAt off with
    | none => 0
    | some (k, b, i) =>
      if s.ctl.coreRuns || k == .glbId || k == .glbStatus || k == .glbReset then s.peek k b i else 0

def execI3cRegisterRead (off : Nat) (s : State) : Host.Outcome State Fault Refusal :=
  onDevice (fun s => s.emit (.i3c (leBytes 8 (s.i3cRead off)))) s

/-- OP 0x04: operations complete at once, so BUSY reads 0. (DEDUCED, log entry 37) -/
def execI3cStatusRead (s : State) : Host.Outcome State Fault Refusal :=
  onDevice (fun s => s.emit (.i3c [BitVec.ofNat 8 (2 * b2n s.boot.i3cRefused + 4 * b2n s.ctl.coreRuns)])) s

end Sys2Proof.Machine
end

