-- ==== Sys2Proof/Machine/Control.lean ====
section
/-! DEFINITION. Curator commands (R434, R470, R472, R473, R483–R488): taking a command and checking it, what each does, the
start of a job, the two cores. -/

namespace Sys2Proof.Machine

/-! ## Codes and opcodes (R485, R486) -/

def ccOk : Nat := 0
def ccUnknown : Nat := 1
def ccPolicy : Nat := 2
def ccState : Nat := 3
def ccArg : Nat := 4
def ccBusy : Nat := 5
def ccNotReady : Nat := 6
def ccFailed : Nat := 7

def opAckAlarm : Nat := 0x01
def opHold : Nat := 0x02
def opStop : Nat := 0x03
def opLoad : Nat := 0x04
def opLoadEnd : Nat := 0x05
def opUnload : Nat := 0x06
def opStart : Nat := 0x07
def opStartAt : Nat := 0x08
def opAbortStart : Nat := 0x09
def opRejoin : Nat := 0x0A
def opXferClaim : Nat := 0x0B
def opXferRelease : Nat := 0x0C
def opAttest : Nat := 0x10
def opCatErase : Nat := 0x11
def opCatWrite : Nat := 0x12
def opSummary : Nat := 0x13
def opPmcSet : Nat := 0x20
def opRingRead : Nat := 0x21
def opMapRead : Nat := 0x22

def opcodes : List Nat :=
  [opAckAlarm, opHold, opStop, opLoad, opLoadEnd, opUnload, opStart, opStartAt, opAbortStart, opRejoin, opXferClaim,
   opXferRelease, opAttest, opCatErase, opCatWrite, opSummary, opPmcSet, opRingRead, opMapRead]

/-! ## The parts of a command -/

def Cmd.op (c : Cmd) : Nat := bits c.word.toNat 0 8
def Cmd.tag (c : Cmd) : Nat := bits c.word.toNat 8 8
def Cmd.arg (c : Cmd) : Nat := bits c.word.toNat 16 48
def Cmd.param (c : Cmd) (k : Nat) : Nat := (c.params.getD k 0).toNat

def Device.cmd (s : Device) (m : Nat) : Cmd := s.ctl.cmds.get {} m
def Device.setCmd (s : Device) (m : Nat) (c : Cmd) : Device := s.modCtl (fun x => { x with cmds := x.cmds.ins m c })

/-- The command of mailbox m is at work and has this opcode: taken, passed by every check, not finished. -/
def Device.at (s : Device) (m op : Nat) : Bool :=
  s.ctl.cmds.any (fun e => e.1 == m) && (s.cmd m).checked && !(s.cmd m).finished && (s.cmd m).op == op

/-- The command ends: its code and result wait for its completion. -/
def Device.finish (s : Device) (m code : Nat) (result : Nat := 0) : Device :=
  s.setCmd m { s.cmd m with code := code, result := result, finished := true }

/-- What the command of mailbox m does, if it is this one and at work. (DESIGN CHOICE, log entry 1) -/
def doCommand (m op : Nat) (f : Device → Device) (s : State) : Host.Outcome State Fault Refusal :=
  onUnits (decide (m < 16)) (fun s => if s.at m op then f s else s) s

/-! ## The checks (R484) -/

/-- Issuers: a host, or a Curator of the job. -/
def Device.byHost (s : Device) (m : Nat) : Bool := s.fget F.mbxStatWseng 0 m == 133
def Device.byCurator (s : Device) (m : Nat) : Bool :=
  s.fget F.mbxStatWseng 0 m == 132 && s.fr.job.isSome && decide (s.fget F.mbxStatWriter 0 m < s.job.devices)

/-- The issuer is one the table allows; MBX15 takes commands from SENG 132 only (R483). -/
def Device.issuerOk (s : Device) (m op : Nat) : Bool :=
  let d := s.byCurator m
  let h := s.byHost m && m != 15
  if op = opStartAt ∨ op = opAbortStart then d else if op = opXferClaim ∨ op = opXferRelease then h || d else h

/-- Job states that allow a command. (DEDUCED, log entry 36) -/
def stateOk (op j : Nat) : Bool :=
  if op = opHold ∨ op = opStop then j == jRunning
  else if op = opLoad then j == jNone
  else if op = opLoadEnd then j == jLoading
  else if op = opUnload then j == jLoading || j == jReady || j == jStopped || j == jWithdrawn
  else if opStart ≤ op ∧ op ≤ opRejoin then j == jReady
  else true

/-- The counter set that PMC_SET names: its select register and its control register. -/
def pmcPlace (kind index n : Nat) : Option ((RegKind × Nat × Nat) × (RegKind × Nat × Nat)) :=
  if kind = 0 then (if index < 4352 then some ((.tilePmsel, index, n), (.tilePmctl, index, 0)) else none)
  else if kind = 1 then
    (if index < 40 then
      some ((.plnPmsel, siteQuad index, 8 * siteLocal index + n), (.plnPmctl, siteQuad index, siteLocal index)) else none)
  else if kind = 2 then (if index < 20 then some ((.memPmsel, index, n), (.memPmctl, index, 0)) else none)
  else if kind = 3 then (if index < 4 then some ((.prtPmsel, index, n), (.prtPmctl, index, 0)) else none)
  else none

def Cmd.pmcPlace (c : Cmd) : Option ((RegKind × Nat × Nat) × (RegKind × Nat × Nat)) :=
  Sys2Proof.Machine.pmcPlace (bits (c.param 0) 0 4) (bits (c.param 0) 4 16) (bits (c.param 0) 20 3)

/-- The control value: HANDLER belongs to tiles only. -/
def Cmd.pmctl (c : Cmd) : Nat := if bits (c.param 0) 0 4 = 0 then c.param 2 else c.param 2 % 2

/-- ARG and parameters lie in range. (DEDUCED, log entries 36 and 41) -/
def Device.argsOk (s : Device) (c : Cmd) : Bool :=
  if c.op = opAckAlarm then
    c.arg == 0 || s.led.alarms.any (fun a => a.seq == c.arg) || s.led.flashLog.any (fun a => a.seq == c.arg)
  else if c.op = opLoad then decide (16640 ≤ c.arg) && c.arg % 64 == 0
  else if c.op = opCatWrite then c.arg % 32768 == 0 && decide (c.arg < imageArea)
  else if c.op = opSummary then c.arg % 32768 == 0 && decide (c.arg < 0x400000)
  else if c.op = opPmcSet then
    match c.pmcPlace with
    | some (sel, ctl) => s.legal sel.1 sel.2.1 sel.2.2 (c.param 1) && s.legal ctl.1 ctl.2.1 ctl.2.2 c.pmctl
    | none => false
  else if c.op = opRingRead then
    decide (bits c.arg 0 6 < 40 ∧ bits c.arg 6 8 < 224) && srcSite (bits c.arg 6 8) != bits c.arg 0 6
  else if c.op = opMapRead then decide (bits c.arg 2 6 < 56 ∧ bits c.arg 8 6 < 60)
  else true

/-- The first failing check, as its code. (DEDUCED, log entry 41) -/
def Device.checkCmd (s : Device) (m : Nat) (c : Cmd) : Nat :=
  if !opcodes.contains c.op then ccUnknown
  else if !s.issuerOk m c.op then ccPolicy
  else if !stateOk c.op s.jobState then (if c.op = opLoad then ccBusy else ccState)
  else if !s.argsOk c then ccArg
  else ccOk

/-- COMMAND_TAKE: word and parameters are read in one cycle, FULL stays. -/
def Device.takeCmd (s : Device) (m : Nat) : Device :=
  if !s.mbxFull m || s.fget F.curCmdState 0 m == 1 then s
  else
    let c : Cmd := { word := (s.mbox m).word, params := (List.range 8).map (fun k => BitVec.ofNat 64 (s.rd .curParam 0 (8 * m + k))) }
    let s1 := ((s.fset F.curCmdState 0 m 1).fset F.curCmdOp 0 m c.op).fset F.curCmdTag 0 m c.tag
    let code := s.checkCmd m c
    if code = ccOk then s1.setCmd m { c with checked := true } else s1.setCmd m { c with code := code, finished := true }

def execCommandTake (m : Nat) (s : State) : Host.Outcome State Fault Refusal :=
  onUnits (decide (m < 16)) (fun s => s.takeCmd m) s

/-- With the command's end its flash operation has ended too (R450). -/
def Device.flashEnd (s : Device) (op : Nat) : Device :=
  if op = opCatErase ∨ op = opCatWrite then s.modBoot (fun b => { b with writing := none }) else s

/-- COMMAND_COMPLETE: STATE becomes DONE, FULL clears and the doorbell rings. -/
def Device.completeCmd (s : Device) (m : Nat) : Device :=
  if s.fget F.curCmdState 0 m = 1 ∧ (s.cmd m).finished then
    let c := s.cmd m
    let s1 := ((s.fset F.curCmdState 0 m 2).fset F.curCmdCode 0 m c.code).fset F.curCmdResult 0 m c.result
    ((s1.modCtl (fun x => { x with cmds := x.cmds.del m })).flashEnd c.op).mbxClear m
  else s

def execCommandComplete (m : Nat) (s : State) : Host.Outcome State Fault Refusal :=
  onUnits (decide (m < 16)) (fun s => s.completeCmd m) s

/-! ## Alarms, holds, stops (R485) -/

def execAckAlarm (m : Nat) := doCommand m opAckAlarm (fun s => (s.ackAlarms (s.cmd m).arg).finish m ccOk)
def execHostHold (m : Nat) := doCommand m opHold (fun s => (s.raiseHold hHost).finish m ccOk)
def execStop (m : Nat) := doCommand m opStop (fun s => (s.jobStop jcHostStop).finish m ccOk)

/-! ## Loading (R472, R473) -/

/-- LOAD: a device that is not ready takes none (R449, R451); a length above the room is refused with the reason MEMORY; FRM_ADMIT stays as it was. (DEDUCED, log entries 28 and 36;
DESIGN CHOICE, log entry 140) -/
def execLoad (m : Nat) := doCommand m opLoad (fun s =>
  if s.fget F.curBootStep ≠ stReady then s.finish m ccNotReady
  else if s.jobState ≠ jNone then s.finish m ccBusy
  else if s.loadRoom < (s.cmd m).arg then s.finish m ccFailed 6
  else (s.beginLoad (s.cmd m).arg).finish m ccOk)

/-- LOAD_END: RESULT holds the reason of admission. -/
def execLoadEnd (m : Nat) := doCommand m opLoadEnd (fun s =>
  if s.jobState ≠ jLoading then s.finish m ccState
  else
    let r := s.endLoad
    r.2.finish m (if r.1 = 0 then ccOk else ccFailed) r.1)

def execUnload (m : Nat) := doCommand m opUnload (fun s =>
  (if s.jobState = jLoading then s.dropLoad else if stateOk opUnload s.jobState then s.unloadJob else s).finish m ccOk)

/-! ## The transfer window (R487) -/

/-- Mailbox m holds the window. -/
def Device.holdsWindow (s : Device) (m : Nat) : Bool := s.flag F.curXferCtlHeld && s.fget F.curXferCtlOwner == m

def execXferClaim (m : Nat) := doCommand m opXferClaim (fun s =>
  if s.flag F.curXferCtlHeld && !s.holdsWindow m then s.finish m ccBusy
  else ((s.setFlag F.curXferCtlHeld 0 0 true).fset F.curXferCtlOwner 0 0 m).finish m ccOk)

def execXferRelease (m : Nat) := doCommand m opXferRelease (fun s =>
  if s.holdsWindow m then (s.setFlag F.curXferCtlHeld 0 0 false).finish m ccOk else s.finish m ccBusy)

/-- XFER_CLAIM_LAPSE: 1 s without an access. -/
def execXferClaimLapse (s : State) : Host.Outcome State Fault Refusal :=
  onDevice (fun s => s.setFlag F.curXferCtlHeld 0 0 false) s

/-- Output into the window: its bytes and LENGTH. -/
def Device.toWindow (s : Device) (bs : List Byte) : Device :=
  (s.modCtl (fun c => { c with window := writeBytes c.window 0 bs })).fset F.curXferCtlLength 0 0 bs.length

/-! ## Attestation (R470) -/

/-- The body of a report. -/
def Device.attestBody (s : Device) (nonce : List Byte) : List Byte :=
  let slot := s.fget F.curCatSlot
  let fw := ((s.catSect slot 5).map (fun x => s.catBytes slot x.off x.len)).getD []
  let up := ((List.range 16).filter (fun c => s.fget F.glbSiteStatus 0 c == siInService)).foldl (fun v c => v + 2 ^ c) 0
  ascii "UBXATT01" ++ leBytes 8 (s.fget F.curIdentDeviceId) ++ nonce ++ leBytes 8 (s.rd .glbId) ++
    leBytes 2 (s.fget F.glbCapCap) ++ leBytes 2 up ++ leBytes 4 0 ++
    (List.range 40).flatMap (fun t => leBytes 1 (s.fget F.glbSiteStepping 0 t)) ++
    (List.range 4).flatMap (fun q => leBytes 1 (s.fget F.glbQuadStepping 0 q)) ++ leBytes 4 0 ++
    leBytes 2 (s.fget F.curCatVersion) ++ leBytes 2 (s.fget F.curCatFloor) ++ leBytes 2 (s.fget F.curCatFloorSeen) ++
    leBytes 1 slot ++ leBytes 1 (if s.fr.job.isSome then s.job.keyId else 0) ++ leBytes 1 s.boot.cat.policy ++
    leBytes 1 s.jobState ++ leBytes 6 0 ++ s.catDigest slot ++ digestBytes (Config.sha384 fw) ++ digestBytes Config.romDigest ++
    digestBytes (if s.fr.job.isSome then s.job.digest else 0) ++ leBytes 8 (if s.fr.job.isSome then s.job.jobId else 0) ++
    leBytes 8 (s.fget F.frmCommittedCount) ++ leBytes 8 s.boot.bootCount ++ List.replicate 168 0

/-- The report into the window. (DEDUCED, log entry 41) -/
def Device.attest (s : Device) (m : Nat) : Device :=
  let c := s.cmd m
  let body := s.attestBody ((List.range 4).flatMap (fun k => leBytes 8 (c.param k)))
  (s.toWindow (body ++ signBlock body)).finish m ccOk

/-- ATTEST: it waits while the identity keys are being generated, and is refused without an identity (R469). -/
def execAttest (m : Nat) := doCommand m opAttest (fun s =>
  if !s.holdsWindow m then s.finish m ccBusy
  else if s.fget F.curCatIdent = 0 then s.modBoot (fun b => { b with attestWaiting := addNew b.attestWaiting m })
  else if s.fget F.curCatIdent = 2 then s.finish m ccFailed
  else s.attest m)

/-! ## Flash (R454, R485) -/

/-- The inactive slot. -/
def Device.inactiveSlot (s : Device) : Nat := 1 - s.fget F.curCatSlot

def execCatErase (m : Nat) := doCommand m opCatErase (fun s =>
  if s.flashAllows true (slotBase s.inactiveSlot) imageArea then
    let a := slotBase s.inactiveSlot
    (((s.holdFlash true).flashErase a imageArea).flashBegin a imageArea 65536 s.boot.flash).finish m ccOk
  else s.finish m ccBusy)

/-- CAT_WRITE: the bytes programmed are read back. -/
def execCatWrite (m : Nat) := doCommand m opCatWrite (fun s =>
  let a := slotBase s.inactiveSlot + (s.cmd m).arg
  let bs := readBytes s.ctl.window 0 32768
  if !s.holdsWindow m || !s.flashAllows true a 32768 then s.finish m ccBusy
  else
    let s := ((s.holdFlash true).flashProgram a bs).flashBegin a 32768 256 s.boot.flash
    s.finish m (if s.flashBytes a 32768 = bs then ccOk else ccFailed))

/-- SUMMARY: the layout of the flash summary is not given, so the 4,096 words are free. (DESIGN CHOICE, log entry 42) -/
def execSummary (m : Nat) := doCommand m opSummary (fun s =>
  if !s.holdsWindow m then s.finish m ccBusy
  else
    let bs := (List.range 4096).flatMap (fun i => leBytes 8 (Config.freeWord (s.free + i)).toNat)
    (({ s with free := s.free + 4096 } : Device).toWindow bs).finish m ccOk)

/-! ## Registers by command (R485, R489) -/

def execPmcSet (m : Nat) := doCommand m opPmcSet (fun s =>
  let c := s.cmd m
  match c.pmcPlace with
  | none => s.finish m ccArg
  | some (sel, ctl) =>
    if sel.1 = .tilePmsel ∧ bit (c.param 1) 12 ∧ !s.flag F.tileCtlUcnt sel.2.1 then s.finish m ccPolicy
    else
      let s := s.wr sel.1 sel.2.1 sel.2.2 (Right.all.apply sel.1 (s.rd sel.1 sel.2.1 sel.2.2) (c.param 1))
      (s.wr ctl.1 ctl.2.1 ctl.2.2 (Right.all.apply ctl.1 (s.rd ctl.1 ctl.2.1 ctl.2.2) c.pmctl)).finish m ccOk)

def execRingRead (m : Nat) := doCommand m opRingRead (fun s =>
  (s.wr .curRes 0 m (s.ringData (bits (s.cmd m).arg 0 6) (bits (s.cmd m).arg 6 8))).finish m ccOk)

def execMapRead (m : Nat) := doCommand m opMapRead (fun s =>
  let a := (s.cmd m).arg
  (s.wr .curRes 0 m (s.mapData (busOf (bits a 0 2) (bits a 2 6)) (bits a 8 6))).finish m ccOk)

/-! ## Starting a job (R488) -/

/-- What the starting device's requests serve, by stage of a device: parameters 0 and 1, the command, reading its result, its
ABORT_START. -/
def opParam0 : Nat := 0
def opParam1 : Nat := 1
def opStartMbx : Nat := 2
def opPoll : Nat := 3
def opAbortMbx : Nat := 10

/-- Stages of a device: those of the requests, then accepted and refused. -/
def sgAccepted : Nat := 4
def sgRefused : Nat := 5

/-- An MBX_WRITE of a command into MBX15 of a device. -/
def mbxCmdPkt (d op : Nat) : Pkt :=
  { blankPkt with dst := d, typ := tMbxWrite, len := 1, addr := mbxAddr d 15, payload := leBytes 16 op }

/-- A READ of one register of a device. -/
def regReadPkt (d off : Nat) : Pkt := { blankPkt with dst := d, typ := tRead, arg := 1, addr := gAddr d 3 off }

/-- Set the stage of a device. -/
def Device.setStage (s : Device) (d g : Nat) : Device :=
  s.modFr (fun f => { f with startDevices := f.startDevices.map (fun e => if e.1 = d then (d, g) else e) })

/-- Enter a stage: send its request. (DEDUCED, log entry 43) -/
def Device.enterStage (s : Device) (d g : Nat) : Device :=
  let s := s.setStage d g
  if g = opParam0 then s.curSend (regWritePkt d (RegKind.curParam.addr 0 120) s.job.jobId) d opParam0
  else if g = opParam1 then s.curSend (regWritePkt d (RegKind.curParam.addr 0 121) s.fr.startS) d opParam1
  else if g = opStartMbx then s.curSend (mbxCmdPkt d opStartAt) d opStartMbx
  else if g = opPoll then s.curSend (regReadPkt d (RegKind.curCmd.addr 0 15)) d opPoll
  else s

/-- START: S, and the parameters of every device. One START is at work at a time. (DEDUCED, log entry 43) -/
def Device.start (s : Device) (m : Nat) : Device :=
  if s.fr.startMbx.isSome then s.finish m ccBusy
  else
    let ds := List.range s.job.devices
    let s := s.modFr (fun f => { f with
      startMbx := some m, startS := ceilDiv (f.jobTime + 200000000) 1000, startDevices := ds.map (fun d => (d, 0)), abortLeft := [] })
    ds.foldl (fun s d => s.enterStage d opParam0) s

def execStart (m : Nat) := doCommand m opStart (fun s => s.start m)

/-- START fails: every device that accepted, or may have, is sent ABORT_START. (DEDUCED, log entry 43) -/
def Device.failStart (s : Device) (m : Nat) : Device :=
  let ds := s.fr.startDevices
  let bad := ((ds.find? (fun e => e.2 == sgRefused)).orElse (fun _ => ds.find? (fun e => e.2 != sgAccepted))).map Prod.fst
  let gone := (ds.filter (fun e => opStartMbx ≤ e.2 && decide (e.2 ≤ sgAccepted))).map Prod.fst
  let s := s.modFr (fun f => { f with startMbx := none, startDevices := [], abortLeft := gone })
  (gone.foldl (fun s d => s.curSend (mbxCmdPkt d opAbortStart) d opAbortMbx) s).finish m ccNotReady (bad.getD 0)

/-- Once every device has answered, START completes. (DEDUCED, log entry 43) -/
def Device.judgeStart (s : Device) : Device :=
  match s.fr.startMbx with
  | none => s
  | some m =>
    if s.fr.startDevices.all (fun e => e.2 == sgAccepted) then
      (s.modFr (fun f => { f with startMbx := none, startDevices := [] })).finish m ccOk
    else if s.fr.startDevices.all (fun e => decide (sgAccepted ≤ e.2)) then s.failStart m
    else s

/-- START_TIMEOUT: 100 ms have passed. -/
def execStartTimeout (m : Nat) := doCommand m opStart (fun s => if s.fr.startMbx = some m then s.failStart m else s)

/-- ABORT_DEADLINE: S − 50 ms has come with an ABORT_START undelivered: a job stop that targets tick 0.
(DEDUCED, log entry 43) -/
def Device.abortDeadline (s : Device) : Device :=
  if s.fr.abortLeft.isEmpty then s
  else
    let h : HoldRec := { target := 0, reason := jcHostStop, stop := true, raiser := s.self }
    (((s.modFr (fun f => { f with abortLeft := [] })).addHold h).sendTree (s.holdPacket h) none).note
      { kind := kFrm, prio := 1, cls := 5, cause := 8 * 256 + jcHostStop, unit := s.self }

def execAbortDeadline (m : Nat) (s : State) : Host.Outcome State Fault Refusal :=
  onUnits (decide (m < 16)) Device.abortDeadline s

/-- A device's answer to a request of START. (DEDUCED, log entry 43) -/
def Device.startAnswer (s : Device) (d op status : Nat) (data : List Byte) : Device :=
  if op = opAbortMbx then s.modFr (fun f => { f with abortLeft := f.abortLeft.filter (· != d) })
  else if !s.fr.startDevices.contains (d, op) then s
  else if status ≠ stOk then s.enterStage d op
  else if op < opPoll then s.enterStage d (op + 1)
  else
    let v := leNat data
    if bits v 0 2 = 2 ∧ bits v 8 8 = opStartAt then
      (s.setStage d (if bits v 24 4 = ccOk then sgAccepted else sgRefused)).judgeStart
    else s.enterStage d opPoll

/-- The doorbell of MBX15 of a device: what it rejected is sent again. (DEDUCED, log entry 43) -/
def Device.startBell (s : Device) (d : Nat) : Device :=
  let out (op : Nat) : Bool := s.reqs.any (fun r => r.kind == .reg && r.d == d && r.op == op)
  if s.fr.startDevices.contains (d, opStartMbx) && !out opStartMbx then s.enterStage d opStartMbx
  else if s.fr.abortLeft.contains d && !out opAbortMbx then s.curSend (mbxCmdPkt d opAbortStart) d opAbortMbx
  else s

/-- START_AT. -/
def execStartAt (m : Nat) := doCommand m opStartAt (fun s =>
  let c := s.cmd m
  if s.jobState = jReady ∧ c.param 0 = s.job.jobId ∧ s.fget F.prtTickState = tkLocked ∧ s.fget F.frmMirrorSync ≠ syMismatch then
    (s.modFr (fun f => { f with startAt := some (c.param 1) })).finish m ccOk
  else s.finish m ccNotReady)

/-- ABORT_START. -/
def execAbortStart (m : Nat) := doCommand m opAbortStart (fun s =>
  if (s.cmd m).param 0 = s.job.jobId then (s.modFr (fun f => { f with startAt := none })).finish m ccOk
  else s.finish m ccArg)

/-- REJOIN: with a partner that runs as holder, the device enters the job at the next tick. -/
def execRejoin (m : Nat) := doCommand m opRejoin (fun s =>
  if s.jobState = jReady ∧ s.job.mirrorPartner ≠ 0xFFFF ∧ s.ctl.roles.get 0 s.job.mirrorPartner = 1 then
    (s.modFr (fun f => { f with rejoin := true })).finish m ccOk
  else s.finish m ccNotReady)

/-! ## The two cores (R434) -/

/-- CURATOR_HEARTBEAT of the active core; the first of a core that has taken over completes the takeover. (DEDUCED, log entry 131) -/
def execCuratorHeartbeat (s : State) : Host.Outcome State Fault Refusal :=
  onDevice (fun s =>
    if s.ctl.coreRuns then (s.modCtl (fun c => { c with heartbeatAt := s.now, takingOver := false })).coreBack else s) s

/-- CURATOR_TAKEOVER: the active core is lost, a FAULT, and the standby core takes over, an EVENT (R415); with none left the frame hardware
withdraws the device. -/
def Device.takeover (s : Device) : Device :=
  if !s.ctl.coreRuns then s
  else
    let a := s.fget F.curStatusActive
    let s := s.modCtl (fun c => { c with coresLost := addNew c.coresLost a })
    if s.flag F.curStatusStandbyOk then
      let s := ((s.fset F.curStatusActive 0 0 (1 - a)).setFlag F.curStatusStandbyOk 0 0 false).fsat F.curStatusTakeovers 0 0 1
      let s := (s.modBoot (fun b => { b with takeovers := min 255 (b.takeovers + 1) })).modCtl (fun c => { c with heartbeatAt := s.now, takingOver := true })
      let s := s.note { kind := kCur, prio := 1, cls := 3, cause := 5, unit := a }
      (s.useSpare 7).note { kind := kCur, prio := 2, cls := 3, cause := 28, unit := a }
    else (s.modCtl (fun c => { c with coreRuns := false, takingOver := false })).withdraw wCuratorLost

def execCuratorTakeover (s : State) : Host.Outcome State Fault Refusal := onDevice Device.takeover s

end Sys2Proof.Machine
end

