-- ==== Sys2Proof/Machine/Router.lean ====
section
/-! DEFINITION. What packets do on arrival (R287–R305, R307): header checks, delivery, forwarding, responses and retries
(R323, R324), routing-table changes, scheduled transfers (R300), and the control domain (R343, R344). -/

namespace Sys2Proof.Machine

/-! ## Header checks (R291) -/

/-- R297: an old-epoch packet after the 200 µs of grace. (DEDUCED, log entry 45) -/
def Device.epochLate (s : Device) (p : Pkt) : Bool :=
  s.fab.lastFlip.isSome && p.epoch != s.epoch && !s.flag F.prtRouteGrace

/-- Devices a packet names: DST, SRC on device lanes, MASK bits. -/
def Device.namesAbsent (s : Device) (host : Bool) (p : Pkt) : Bool :=
  s.fr.job.isSome && (decide (s.job.devices ≤ p.dst) || (!host && decide (s.job.devices ≤ p.src)) ||
    (p.typ == tMcast && (List.range 32).any (fun i => bit p.mask i && decide (s.job.devices ≤ 32 * p.mgrp + i))))

/-- Check 12: a host node not permitted, a type not permitted from a host, MGMT orders from another than the fabric manager
(whose requests the gateways' agents issue). (DEDUCED, log entry 47) -/
def Device.nodeFails (s : Device) (host : Bool) (p : Pkt) : Bool :=
  if host then
    !bit s.boot.cat.hosts p.src ||
      !(p.typ == tRead || p.typ == tWrite || p.typ == tMbxWrite || (p.typ == tMgmt && p.src == s.boot.cat.fmNode))
  else p.typ == tMgmt && decide (p.arg ≤ 2) && p.seng != 133

/-- Check 13: TICK and HOLD travel the tick tree, and a host's packets the agent. (DEDUCED, log entry 46) -/
def Device.unrouted (s : Device) (host : Bool) (p : Pkt) : Bool :=
  if host || p.typ == tTick || p.typ == tHold then false
  else if p.typ = tMcast then (List.range 32).any (fun i => bit p.mask i && !(s.routeEntry p.epoch (32 * p.mgrp + i)).valid)
  else !(s.routeEntry p.epoch p.dst).valid

/-- The code of the first check that fails, 0 when none does. (DEDUCED, log entries 44, 46 and 100) -/
def Device.headerFault (s : Device) (host : Bool) (p : Pkt) : Nat :=
  if p.hcrc ≠ headerCrc p then 1
  else if p.len ≠ 0 ∧ p.pcrc ≠ crc32c p.payload then 2
  else if p.typ = 0 ∨ p.typ = 15 then 3
  else if !lenOk p then 4
  else if !argOk p then 5
  else if p.count = 0 then 6
  else if s.namesAbsent host p ∨ (p.typ = tMcast ∧ p.dst ≠ 32 * p.mgrp) then 7
  else if p.ccEn ∧ (if 2 ≤ s.jobState then s.job.ccUsed else 0) ≤ p.cc then 8
  else if !zerosOk p ∨ (!host ∧ 134 ≤ p.seng) then 9
  else if s.epochLate p then 10
  else if p.hops = 63 then 11
  else if s.nodeFails host p then 12
  else if s.unrouted host p then 13
  else 0

/-- The counter of a code. -/
def zfField (code : Nat) : Fld :=
  if code ≤ 2 then F.prtZfErrCrc else if code = 10 then F.prtZfErrEpochLate else if code = 11 then F.prtZfErrHops else F.prtZfErrHdr

/-- A failure: counted and recorded at the port die of arrival; FIELD and NODE answer a request. (DEDUCED, log entry 100) -/
def Device.failPacket (s : Device) (z code : Nat) (p : Pkt) : Device :=
  let b := z / 16
  let s := (s.fsat (zfField code) b 0 1).pmc pmcPrt b 0 0x06 (z % 16) 1
  let s := ((s.fset F.prtZfBadCode b 0 code).fset F.prtZfBadType b 0 p.typ).setFlag F.prtZfBadValid b 0 true
  let s := (s.fset F.prtZfBadSrc b 0 (if code = 1 then 0 else p.src)).fset F.prtZfBadLane b 0 z
  let s := if code = 10 then s.note { kind := kPrt, index := b, prio := 2, cls := 1, cause := 7 * 256 + 10, unit := z } else s
  if isRequest p && (decide (4 ≤ code ∧ code ≤ 9) || code == 12) then
    let r := respond p s.self (if code = 12 then stNode else stField) [] s.epoch
    if s.laneRole z = rHost then s.sendOn z r else s.transmit r
  else s

/-! ## Delivery and forwarding -/

/-- R441: a packet addressed to the absent partner. (DEDUCED, log entry 51) -/
def Device.forPartner (s : Device) (d : Nat) : Bool := s.flag F.frmMirrorAlias && d == s.fget F.frmMirrorPartner

/-- A response in the partner's name. (DEDUCED, log entry 51) -/
def Device.aliasReply (s : Device) (p : Pkt) (r : Pkt) : Device :=
  s.transmit (sealPkt { r with src := s.fget F.frmMirrorPartner, dst := p.src })

/-- A request under an absent partner's number meets the stamp test too, and is counted at the port die that would answer it (R321). -/
def Device.countStale (s : Device) (p : Pkt) : Device := s.fsat F.prtRmSeqStale (s.homePort .own p) 0 1

/-- R441: a READ is served from this device's memory, an MBX_WRITE answered with MBX_REJECT; the responses carry the partner's
number. (DEDUCED, log entry 51) -/
def Device.aliasServe (s : Device) (p : Pkt) : Device :=
  if s.staleStamp p then s.countStale p
  else if p.typ = tRead then
    let a := gAddr s.self (gSpace p.addr) (gOff p.addr)
    if gSpace p.addr = 3 then
      let r := s.cRead (.device p.src p.seng) (gOff p.addr) (8 * p.arg)
      r.2.aliasReply p (respond p s.self (if r.1.1 then stOk else stAddress) (leBytes 8 r.1.2.toNat) s.epoch)
    else
      let st := s.memStatus { p with addr := a }
      match s.locate a with
      | some (_, key) =>
        if st ≠ stOk then s.aliasReply p (respond p s.self st [] s.epoch)
        else
          match s.memRead a key (reqLen p) with
          | (some bs, s) => s.aliasReply p (respond p s.self stOk bs s.epoch)
          | (none, s) => s
      | none => s.aliasReply p (respond p s.self (if st = stOk then stAddress else st) [] s.epoch)
  else if p.typ = tMbxWrite then
    s.aliasReply p { blankPkt with
      typ := tMbxReject, epoch := s.epoch, seng := p.seng, seq := p.seq, xfer := p.xfer, addr := p.addr }
  else s

/-- R431: what a withdrawn device still answers: C-space reads, Curator commands with their parameters, host reads.
(DEDUCED, log entry 50) -/
def withdrawnAnswers (p : Pkt) : Bool :=
  (p.typ == tRead && (gSpace p.addr == 3 || p.seng == 133)) ||
    (p.typ == tMbxWrite && (mailboxAt (gOff p.addr)).any (fun n => decide (n < 16))) ||
    (p.typ == tWrite && gSpace p.addr == 3 && decide (0x10800 ≤ gOff p.addr ∧ gOff p.addr < 0x18000)) || isResponse p

/-- A packet for this device. -/
def Device.deliver (s : Device) (p : Pkt) (f : Device → Device) : Device :=
  if s.jobState = jWithdrawn ∧ !withdrawnAnswers p then s else f s

/-- One more router passed (R295). -/
def hopped (p : Pkt) : Pkt := sealPkt { p with hops := p.hops + 1 }

/-- The bits of an MCAST_WRITE that this device stands for: its own, and an absent partner's. -/
def Device.ownBits (s : Device) (p : Pkt) : List Nat :=
  (List.range 32).filter (fun i => bit p.mask i && (s.routeEntry p.epoch (32 * p.mgrp + i)).isLocal)
def Device.partnerBits (s : Device) (p : Pkt) : List Nat :=
  (List.range 32).filter (fun i => bit p.mask i && s.forPartner (32 * p.mgrp + i))

/-- R298: deliver, acknowledge for an absent partner, forward the rest. -/
def Device.routeMcast (s : Device) (p : Pkt) (f : Device → Device) : Device :=
  let rest := (List.range 32).filter (fun i => bit p.mask i && !(s.ownBits p).contains i && !(s.partnerBits p).contains i)
  let s1 := if (s.ownBits p).isEmpty then s else s.deliver p f
  let s1 := if (s.partnerBits p).isEmpty then s1 else if s1.staleStamp p then s1.countStale p
    else s1.aliasReply p (respond p s1.self stOk [] s1.epoch)
  if rest.isEmpty then s1 else s1.transmitMcast (hopped (maskedPkt p rest))

/-- A packet that passed its checks (R293, R294, R298). -/
def Device.route (s : Device) (host : Bool) (p : Pkt) (f : Device → Device) : Device :=
  if host then s.deliver p f
  else if p.typ = tTick ∨ p.typ = tHold then s.deliver p f
  else if p.typ = tMcast then s.routeMcast p f
  else if (s.routeEntry p.epoch p.dst).isLocal then s.deliver p f
  else if s.forPartner p.dst then s.aliasServe p
  else s.transmit (hopped p)

/-- A packet arrives on lane z. (DEDUCED, log entry 100) -/
def Device.arrive (s : Device) (z : Nat) (p : Pkt) (f : Device → Device) : Device :=
  let s := (s.pmc pmcPrt (z / 16) 0 0x02 (z % 16) 1).bw .prtLaneBw (z / 16) (z % 16) 1 (pktBytes p)
  let s := s.modFab (fun x => { x with counted := x.counted.upd 0 (2 * z + 1) (· + 1) })
  let host := s.laneRole z == rHost
  let code := s.headerFault host p
  if code ≠ 0 then s.failPacket z code p else s.route host p f

/-- A packet of a type comes over a lane, or from this device's own requesters, and is handed to `f`. A packet of type 0 or 15
is of no type, and fails its check whichever command brings it. (DESIGN CHOICE, log entry 2; DEDUCED, log entry 44) -/
def packetCommand (t : Nat) (v : Via) (p : Pkt) (f : Device → Device) (s : State) : Host.Outcome State Fault Refusal :=
  onUnits (v.ok && p.ok) (fun s =>
    match v with
    | .lane z => if p.typ = t ∨ p.typ = 0 ∨ p.typ = 15 then s.arrive z p f else s
    | .own => if p.typ = t then f s else s) s

/-- Requests: served at their home. -/
def execWrite (v : Via) (p : Pkt) := packetCommand tWrite v p (fun s => s.serve v p)
def execRead (v : Via) (p : Pkt) := packetCommand tRead v p (fun s => s.serve v p)
def execAtomic (v : Via) (p : Pkt) := packetCommand tAtomic v p (fun s => s.serve v p)
def execMcastWrite (v : Via) (p : Pkt) := packetCommand tMcast v p (fun s => s.serve v p)
def execReduce (v : Via) (p : Pkt) := packetCommand tReduce v p (fun s => s.serve v p)
def execMbxWrite (v : Via) (p : Pkt) := packetCommand tMbxWrite v p (fun s => s.serve v p)

/-- WRITEs of PWR_RPT and PWR_ASSIGN (R387, R408). -/
def isReportWrite (p : Pkt) : Bool :=
  gSpace p.addr == 3 && decide (0x40100 ≤ gOff p.addr ∧ gOff p.addr < 0x40200)
def isAssignWrite (p : Pkt) : Bool := gSpace p.addr == 3 && gOff p.addr == 0x40030

def execPwrRptWrite (v : Via) (p : Pkt) :=
  packetCommand tWrite v p (fun s => if isReportWrite p then s.serve v p else s)
def execPwrAssignWrite (v : Via) (p : Pkt) :=
  packetCommand tWrite v p (fun s => if isAssignWrite p then s.serve v p else s)

/-! ## Responses (R290, R323, R324) -/

/-- R305: the response to a host, under its SEQ and SENG; what was done is remembered against its retries.
(DEDUCED, log entry 99) -/
def Device.answerHost (s : Device) (r : Req) (p : Pkt) : Device :=
  let h := r.slot / 16
  let box := boxRead (hostPkt r)
  let s := s.dropReq r
  let s := if p.typ = tMbxReject then
      s.modCtl (fun c => { c with proxied := addNew c.proxied (r.d, r.pkt.dst, (mailboxAt (gOff r.gaddr)).getD 0) })
    else if p.arg = stOk then
      let s := s.accept h (hostKey (hostPkt r))
      if box then s.modPort h (fun x => x.record (hostKey (hostPkt r)) (p.payload.take 8)) else s
    else s
  (s.toHost r.d (sealPkt { p with dst := r.d, src := r.t, seq := r.loc, seng := r.op, epoch := s.epoch, hops := 0, vc := 0 })).retryAll

/-- A response to a transfer scheduler: one whose status is not OK is never retried, so the transfer is not acknowledged.
(DEDUCED, log entry 49) -/
def Device.answerSched (s : Device) (r : Req) (status : Nat) : Device :=
  let s := s.dropReq r
  (if status = stOk then s else s.raiseHold hFabric).noteEow

/-- The first matching response completes its request. (DEDUCED, log entry 48) -/
def Device.completeReq (s : Device) (r : Req) (p : Pkt) : Device :=
  let status := if p.typ = tMbxReject then stBusy else p.arg
  match r.kind with
  | .reg => (if p.typ = tMbxReject then s.dropReq r else (s.dropReq r).startAnswer r.d r.op status p.payload).curNext
  | .hostReq => s.answerHost r p
  | .sched => s.answerSched r status
  | _ => s.answerReq r status p.payload

/-- A doorbell answers no request (R481). -/
def isDoorbell (p : Pkt) : Bool := p.typ == tMbxReject && p.xfer == 0xFFFFFF && p.seq == 0

def Device.hearBell (s : Device) (p : Pkt) : Device :=
  if p.seng = 133 then (s.emit (.doorbell .gateway ((mailboxAt (gOff p.addr)).getD 0))).bellHosts p.addr
  else if 240 ≤ p.seng then s.emit (.doorbell (.mgmt (p.seng - 240)) ((mailboxAt (gOff p.addr)).getD 0))
  else (s.emit (.doorbell .curator ((mailboxAt (gOff p.addr)).getD 0))).startBell (gDev p.addr)

/-- A response at its requester. One whose LEN does not fit is discarded and counted; one that matches nothing outstanding is
late. -/
def Device.takeResponse (s : Device) (v : Via) (p : Pkt) : Device :=
  if isDoorbell p then s.hearBell p
  else
    match s.reqs.find? (fun r => r.stage == .sent && matchesReq p r) with
    | some r =>
      if respLenOk p r then s.completeReq r p
      else s.fsat F.prtZfErrHdr (match v with | .lane z => z / 16 | .own => 0) 0 1
    | none =>
      match (s.gone ++ s.reqs.filter (fun r => r.stage == .abandoned || r.stage == .answered || r.stage == .returning)).find?
          (matchesReq p) with
      | some r => s.countLate r
      | none => s

/-- A response that came over a lane crosses the Plinth to its stream engine (R208); any other requester has it at once. -/
def Device.hearResponse (s : Device) (v : Via) (p : Pkt) : Device :=
  match v with
  | .lane z =>
    if isDoorbell p || decide (128 ≤ p.seng) then s.takeResponse v p
    else s.cross (36 + z / 16) (engineUnit p.seng) (.response p) (fun s => s.takeResponse v p)
  | .own => s.takeResponse v p

def execReadResp (v : Via) (p : Pkt) := packetCommand tReadResp v p (fun s => s.hearResponse v p)
def execAtomicResp (v : Via) (p : Pkt) := packetCommand tAtomicResp v p (fun s => s.hearResponse v p)
def execAck (v : Via) (p : Pkt) := packetCommand tAck v p (fun s => s.hearResponse v p)
def execMbxReject (v : Via) (p : Pkt) := packetCommand tMbxReject v p (fun s => s.hearResponse v p)

/-- REMOTE_RESPONSE: a response that has come to its requester. -/
def execRemoteResponse (p : Pkt) (s : State) : Host.Outcome State Fault Refusal :=
  onUnits p.ok (fun s => if isResponse p then s.takeResponse .own p else s) s

/-- A request is abandoned (R324). (DEDUCED, log entry 54) -/
def Device.abandon (s : Device) (r : Req) : Device :=
  match r.kind with
  | .reg => ((s.dropReq r).note { kind := kCur, prio := 2, cls := 1, cause := 36, unit := r.pkt.dst }).curNext
  | .hostReq => ((s.dropReq r).note { kind := kCur, prio := 2, cls := 1, cause := 36, unit := r.pkt.dst }).retryAll
  | .sched => ((s.dropReq r).raiseHold hFabric).noteEow
  | _ =>
    (((s.modReq r.id (fun q => { q with stage := .abandoned })).fsat F.tileRemoteAbandoned (272 * r.c + r.t) 0 1).note
      { kind := kTile, index := r.t, prio := 1, cls := 2, cause := 36, unit := r.c }).modFr (fun f => { f with fault := true })

/-- A request still waits for a channel: its timeout does not run (R210, R323). -/
def Device.waitsGrant (s : Device) (id : Nat) : Bool :=
  s.pln.waiting.any (fun e => e.2.any (fun d => match d with
    | .request i _ => i == id
    | _ => false))

/-- A request is sent again: a tile's crosses the Plinth anew. -/
def Device.resend (s : Device) (r : Req) (p : Pkt) : Device :=
  if r.c = 16 then s.launch p else s.cross r.c (s.reqUnit r) (.request r.id p) (fun s => s.landRequest r.id p)

/-- REQUEST_TIMEOUT: a request that has had no response for 20 µs is sent again, four times at most. (DEDUCED, log entry 54) -/
def Device.requestTimeout (s : Device) (id : Nat) : Device :=
  match s.reqs.find? (fun r => r.id == id && r.stage == .sent) with
  | none => s
  | some r =>
    if s.waitsGrant id then s
    else if 4 ≤ r.retries then s.abandon r
    else
      let p := sealPkt { r.pkt with epoch := s.epoch, hops := 0 }
      let s := s.modReq id (fun q => { q with retries := q.retries + 1, pkt := p })
      let s := if r.c = 16 then s
        else s.fsat F.tileRemoteRetries (272 * r.c + r.t) 0 1
      s.resend r p

def execRequestTimeout (id : Nat) (s : State) : Host.Outcome State Fault Refusal :=
  onDevice (fun s => s.requestTimeout id) s

/-! ## Routing-table changes (R297, R307) -/

def execEpochGraceEnd (s : State) : Host.Outcome State Fault Refusal := onDevice (fun s => s.setPorts F.prtRouteGrace 0) s

/-- RT_WRITE; telemetry of other devices that reaches a gateway goes on to the fabric manager. -/
def execRtWrite (v : Via) (p : Pkt) :=
  packetCommand tMgmt v p (fun s =>
    if p.arg = 1 then s.serve v p
    else if p.arg = 3 ∨ p.arg = 4 then s.toManager p
    else s)

def execRtFlip (v : Via) (p : Pkt) :=
  packetCommand tMgmt v p (fun s => if p.arg = 2 then s.serve v p else s)

/-! ## Scheduled transfers (R300) -/

/-- Line n of the ASSIGN that feeds a transfer, once it has come to the port die. -/
def Device.schedLine (s : Device) (x : Sched) (n : Nat) : Option Line :=
  ((s.pln.toPort.get [] (4096 * x.phase + x.mapEntry)).find? (fun e => e.1 == n)).map Prod.snd

/-- Packet i of a transfer, without its SEQ. -/
def schedPkt (self : Nat) (x : Sched) (i : Nat) (ls : List Line) : Pkt :=
  { blankPkt with
    dst := x.dst, src := self, typ := x.typ, len := 32, xfer := x.xfer, count := x.lines / 8, seng := 128 + x.port
    last := decide (8 * (i + 1) = x.lines), cc := x.cc, ccEn := x.ccEn, addr := x.daddr + 512 * i
    mask := if x.typ = tMcast then x.mask else 0, mgrp := if x.typ = tMcast then x.mgrp else 0
    payload := ls.flatMap bytesOfLine }

/-- SCHEDULED_TRANSFER_PACKET: the next eight lines, once they have come; an outward action, withheld to the confirm point
(R164); a partner without the lease completes it itself (R440). (DEDUCED, log entry 49) -/
def Device.schedSend (s : Device) (n : Nat) : Device :=
  match s.job.sched[n]? with
  | none => s
  | some x =>
    let i := s.fab.schedSent.get 0 n
    let ls := (List.range 8).filterMap (fun k => s.schedLine x (8 * i + k))
    if !s.running || s.fr.idle || s.settling || decide (s.phase < x.phase ∨ x.lines ≤ 8 * i) || ls.length != 8 ||
        !s.seqRoom (128 + x.port) x.dst then s
    else
      let r := s.stamp (schedPkt s.self x i ls)
      let s := r.2.modFab (fun f => { f with schedSent := f.schedSent.set 0 n (i + 1) })
      let s := if x.dst = s.self then s else s.noteItems x.daddr r.1.payload
      if s.mute then s.noteEow
      else (s.addReq { kind := .sched, stage := .sent, c := 16, slot := n, gaddr := x.daddr, len := 512, pkt := r.1 }).launch r.1

def execScheduledTransferPacket (entry : Nat) (s : State) : Host.Outcome State Fault Refusal :=
  onDevice (fun s => s.schedSend entry) s

/-! ## The control domain (R343, R344) -/

/-- MESI states of a line's copies. -/
def meInvalid : Nat := 0
def meShared : Nat := 1
def meExclusive : Nat := 2
def meModified : Nat := 3

def ControlStore.copyOf (x : ControlStore) (l a : Nat) : Nat := x.mesi.get 0 (19 * l + a)

/-- Another agent has a copy of a line. -/
def ControlStore.othersHave (x : ControlStore) (l a : Nat) : Bool := (List.range 19).any (fun b => b != a && x.copyOf l b != meInvalid)

/-- A load brings the line: exclusive if nobody else has it, else everyone's copy is shared. (DEDUCED, log entry 53) -/
def ControlStore.share (x : ControlStore) (l a : Nat) : ControlStore :=
  if x.copyOf l a ≠ meInvalid then x
  else if x.othersHave l a then
    { x with mesi := (List.range 19).foldl (fun m b =>
        if b = a ∨ x.copyOf l b ≠ meInvalid then m.set 0 (19 * l + b) meShared else m) x.mesi }
  else { x with mesi := x.mesi.set 0 (19 * l + a) meExclusive }

/-- A store takes the line: every other copy is invalidated, and reservations on it end. (DEDUCED, log entry 53) -/
def ControlStore.own (x : ControlStore) (l a : Nat) : ControlStore :=
  { x with
    mesi := ((List.range 19).foldl (fun m b => m.set 0 (19 * l + b) meInvalid) x.mesi).set 0 (19 * l + a) meModified
    reserved := x.reserved.filter (fun e => e.2 != l) }

/-- What an access stores, of `n` bytes, given the old value; `none` for one that stores nothing. (DEDUCED, log entry 53) -/
def cdStores (op : CdOp) (n old : Nat) : Option Nat :=
  let w := 8 * n
  match op with
  | .load => none
  | .lr => none
  | .store v => some v
  | .sc v => some v
  | .swap v => some v
  | .add v => some (old + v)
  | .xor v => some (Nat.xor old v)
  | .and v => some (Nat.land old v)
  | .or v => some (Nat.lor old v)
  | .min v => some (if signed w v < signed w old then v else old)
  | .max v => some (if signed w old < signed w v then v else old)
  | .minu v => some (min (v % 2 ^ w) old)
  | .maxu v => some (max (v % 2 ^ w) old)

/-- Operations of the A extension: 4 or 8 bytes, aligned. Loads and stores: 1, 2, 4 or 8 bytes, aligned.
(DEDUCED, log entry 53) -/
def cdLegal (op : CdOp) (off n : Nat) : Bool :=
  let plain := match op with
    | .load => true
    | .store _ => true
    | _ => false
  (n == 4 || n == 8 || (plain && (n == 1 || n == 2))) && off % n == 0

/-- An access by agent a (0, 1 Curator cores, 2–17 stack management agents, 18 gateway agent): the value it gets, and its
effect. (DESIGN CHOICE, log entry 9; DEDUCED, log entry 53) -/
def ControlStore.access (x : ControlStore) (a off n : Nat) (op : CdOp) : Nat × ControlStore :=
  let l := off / 64
  let old := leNat (readBytes x.bytes off n)
  match op with
  | .lr => (old, { x.share l a with reserved := (x.share l a).reserved.ins a l })
  | .sc v =>
    if x.reserved.any (fun e => e.1 == a && e.2 == l) then
      let y := x.own l a
      (0, { y with bytes := writeBytes y.bytes off (leBytes n v), reserved := y.reserved.del a })
    else (1, { x with reserved := x.reserved.del a })
  | _ =>
    match cdStores op n old with
    | none => (old, x.share l a)
    | some v =>
      let y := x.own l a
      (match op with | .store _ => 0 | _ => old, { y with bytes := writeBytes y.bytes off (leBytes n v) })

/-- CONTROL_DOMAIN_ACCESS: from anyone but the 19 agents it completes with ADDRESS. (DEDUCED, log entry 53) -/
def Device.cdAccess (s : Device) (agent : Option Nat) (off n : Nat) (op : CdOp) : Device :=
  let off := off - 0x1000000
  match agent with
  | none => s.emit (.cdValue none false stAddress)
  | some a =>
    if 19 ≤ a then s.emit (.cdValue none false stAddress)
    else if !cdLegal op off n then s.emit (.cdValue (some a) false 0)
    else
      let r := s.cds.access a off n op
      ({ s with cds := r.2 } : Device).emit (.cdValue (some a) true r.1)

def execControlDomainAccess (agent : Option Nat) (off bytes : Nat) (op : CdOp) (s : State) :
    Host.Outcome State Fault Refusal :=
  onUnits (decide (0x1000000 ≤ off ∧ off + bytes ≤ 0x2000000)) (fun s => s.cdAccess agent off bytes op) s

end Sys2Proof.Machine
end

