-- ==== Sys2Proof/Machine/Mirror.lean ====
section
/-! DEFINITION. Resynchronisation of a mirror partner (R443, R445): the lease holder's frame journal, and the steps of the partner
that catches up. No packet of R288 carries the copies and the records: what goes out is reported as such, and what they bring to the partner, and
how far they have come at a tick, are free values. -/

namespace Sys2Proof.Machine

/-! ## The frame journal (R443) -/

/-- The kind of the region in which a line of this device lies, by its digest key. -/
def Device.itemKind (s : Device) (k : Nat) : Option Nat :=
  if gDev (64 * k) = 0x3FF then (s.regionAt (64 * k) 64).map Region.kind else none

/-- The lines of a tile's carry bank that the frame wrote. -/
def Device.carryLines (s : Device) (k : Nat) (x : Tile) : List (Nat × Line) :=
  let m := s.sramMap (k / 272) (k % 272)
  let lo := m.cb0 + m.bank * m.cs
  ((List.range (m.cs / 64)).filter (fun i => x.written.contains (lo / 64 + i))).map (fun i =>
    (4096 * k + i, lineOfBytes (readBytes x.sram (lo + 64 * i) 64)))

/-- The record of the frame whose commit has become final. A line that hosts write is none of its program's. -/
def Device.journalRec (s : Device) : JRec :=
  { frame := s.frame + 2 ^ 64 - 1, lens := s.regs.range (RegKind.frmLenCommit.addr 0 0) (RegKind.frmLenCommit.addr 0 0 + 16384)
    lines := s.fr.sealedItems.filter (fun e => (s.itemKind e.1 == some rgAppend || s.itemKind e.1 == some rgBanked) &&
      !(s.regionAt (64 * e.1) 64).any Region.hostWrite)
    carry := s.tiles.flatMap (fun e => s.carryLines e.1 e.2) }

/-- BANKED and carry-out lines of a record are dropped once the next frame commits. -/
def Device.dropBanked (s : Device) (r : JRec) : JRec :=
  { r with lines := r.lines.filter (fun e => s.itemKind e.1 != some rgBanked), carry := [] }

/-- The bytes of a record: its lines, and eight for each of the 2,048 lengths. (DESIGN CHOICE, log entry 66) -/
def JRec.size (r : JRec) : Nat := 64 * (r.lines.length + r.carry.length) + 16384

/-- A lease holder journals a final commit while its partner resynchronises; a journal that fills restarts it.
(DESIGN CHOICE, log entry 66) -/
def Device.keepJournal (s : Device) : Device :=
  if s.fget F.frmMirrorRole = 1 ∧ s.copying then
    let j := s.fr.journal.map s.dropBanked ++ [s.journalRec]
    if s.boot.cat.journalGib * 2 ^ 30 < (j.map JRec.size).sum then s.restartCopy
    else (s.modFr (fun f => { f with journal := j })).fset F.frmResyncBacklog 0 0 (min 0xFFFF j.length)
  else s

/-! ## What arrives at the partner -/

/-- A byte of memory that a copy or a record may bring: of an APPEND region, or with `banked` of a BANKED one. -/
def Device.copiesTo (s : Device) (banked : Bool) (key : Nat) : Bool :=
  let a := if key < 2 ^ 42 then s.globalOf (key / 2 ^ 36) (key / 2 ^ 31 % 32) (key % 2 ^ 31)
    else some (s.globalOfDimm ((key - 2 ^ 42) / 2 ^ 38) ((key - 2 ^ 42) % 2 ^ 38))
  (a.bind (fun a => s.regionAt a 1)).any (fun r => r.kind == rgAppend || (banked && r.kind == rgBanked))

/-- Bytes that arrive. -/
def Device.landBytes (s : Device) (n : Nat) (banked : Bool) : Device :=
  s.modMem (fun m => { m with bytes := m.bytes.setAll 0 ((Config.copiedBytes n).filter (fun e => s.copiesTo banked e.1)) })

/-- Committed lengths that arrive, of declared slots (R187). -/
def Device.landLens (s : Device) (n : Nat) : Device :=
  (List.range 2048).foldl (fun s i =>
    if (s.slotRegion i).isSome then s.fset F.frmLenCommitLength 0 i (Config.copiedLen n i).toNat else s) s

/-- Carry lines that arrive, in the bank that the next frame reads. -/
def Device.landCarry (s : Device) (n : Nat) : Device :=
  ((Config.copiedCarry n).filter (fun e => decide (e.1 < 4352))).foldl (fun s e =>
    let m := s.sramMap (e.1 / 272) (e.1 % 272)
    if 64 * e.2.1 < m.cs then
      s.modTile (e.1 / 272) (e.1 % 272) (fun x => x.store m (0x800000 + 64 * e.2.1) (bytesOfLine e.2.2))
    else s) s

/-- Journal records that arrive. (DESIGN CHOICE, log entry 66) -/
def Device.landRecords (s : Device) (n : Nat) : Device := ((s.landBytes n true).landLens n).landCarry n

/-! ## The steps, at a tick -/

/-- MiB copied since the last tick: up to 200 GB/s. -/
def Device.moreCopied (s : Device) (w : Nat) : Device :=
  s.fset F.frmResyncCopied 0 0 (s.fget F.frmResyncCopied + w % (200000 * s.fget F.frmConfigPeriodUs / 2 ^ 20 + 1))

/-- The APPEND slots with a committed length, which the holder copies (R443). -/
def Device.appendSlots (s : Device) : List (Nat × Nat) :=
  ((List.range 2048).filter (fun n => (s.slotRegion n).isSome && s.fget F.frmLenCommitLength 0 n != 0)).map (fun n =>
    (n, s.fget F.frmLenCommitLength 0 n))

/-- The lease holder's side: what it has copied since the last tick goes out, and the records that the partner has applied, which leave the
journal. (DESIGN CHOICE, log entry 66) -/
def Device.resyncHolder (s : Device) : Device :=
  let (w, s) := s.drawWord
  let w := w.toNat
  if s.fget F.frmMirrorSync = syCopying then
    let from_ := s.fget F.frmResyncCopied
    let s := s.moreCopied w
    let s := s.emit (.appendCopy s.appendSlots from_ (s.fget F.frmResyncCopied))
    if bit w 63 then s.fset F.frmMirrorSync 0 0 syCatchingUp else s
  else
    let n := w % (s.fr.journal.length + 1)
    let j := s.fr.journal.drop n
    let s := (s.fr.journal.take n).foldl (fun s r => s.emit (.journal r)) s
    let s := (s.modFr (fun f => { f with journal := j })).fset F.frmResyncBacklog 0 0 (min 0xFFFF j.length)
    if s.fget F.frmMirrorSync = syCatchingUp ∧ j.length ≤ 1 then s.fset F.frmMirrorSync 0 0 syJoining else s

/-- The partner starts its frame in lockstep. -/
def Device.joinPair (s : Device) : Device :=
  let s := (s.fset F.frmMirrorSync 0 0 sySynced).fset F.frmMirrorMissed 0 0 0
  (s.fset F.frmResyncBacklog 0 0 0).modFr (fun f => { f with joined := true })

/-- The partner's side. It may have to restart (bit 63 of the draw); a step that may end does so by bit 62. It joins at a tick
that commits, and leaves again if that commit is rescinded. (DESIGN CHOICE, log entry 66) -/
def Device.resyncPartner (s : Device) : Device :=
  if s.fget F.frmMirrorSync = syUnsynced then
    (if s.fget F.frmResyncRestarts < 3 then s.fset F.frmMirrorSync 0 0 syCopying else s)
  else
    let n := s.free
    let (w, s) := s.drawWord
    let w := w.toNat
    if bit w 63 then s.restartCopy
    else if s.fget F.frmMirrorSync = syCopying then
      let s := (s.moreCopied w).landBytes n false
      if bit w 62 then s.fset F.frmMirrorSync 0 0 syCatchingUp else s
    else
      let s := (s.landRecords n).fset F.frmResyncBacklog 0 0 (w % 2 ^ 16)
      if s.fget F.frmMirrorSync = syCatchingUp then
        (if w % 2 ^ 16 ≤ 1 then s.fset F.frmMirrorSync 0 0 syJoining else s)
      else if s.fr.provisional ∧ bit w 62 then s.joinPair
      else s

/-- Resynchronisation at a tick of a running job. (DESIGN CHOICE, log entry 66) -/
def Device.resync (s : Device) : Device :=
  if s.resyncing then s.resyncPartner
  else if s.fget F.frmMirrorRole = 1 ∧ s.copying then s.resyncHolder
  else s

/-- A rescinded commit takes back a partner that joined at its tick. -/
def Device.unjoin (s : Device) : Device :=
  if s.fr.joined then (s.fset F.frmMirrorSync 0 0 syJoining).modFr (fun f => { f with joined := false }) else s

end Sys2Proof.Machine
end

