-- ==== Sys2Proof/Machine/Frames.lean ====
section
/-! DEFINITION. The frame machinery at its points in time (R142–R145, R161–R178, R442): the tick and what it commits, holds,
stops or withdraws, the deadline, the confirm point, the start of a job; TICK and HOLD packets (R302, R303); the output lease of
a mirror pair (R437–R442). -/

namespace Sys2Proof.Machine

/-! ## Tile resets (R87, R88, R106) -/

/-- The physical line numbers of the carry-out bank; those of both banks. -/
def SramMap.inOut (m : SramMap) (l : Nat) : Bool :=
  let lo := m.cb0 + (1 - m.bank) * m.cs
  decide (lo ≤ 64 * l ∧ 64 * l < lo + m.cs)

/-- The bits of the carry-out bank are cleared. -/
def Tile.clearOut (x : Tile) (m : SramMap) : Tile := { x with written := x.written.filter (fun l => !m.inOut l) }

/-- R88: threads, registers, buffers, queues and flits are gone; scratch becomes unwritten. The places of the round robins, which R88 does
not list, return to their start (R91, R115, R121). A matrix engine that executes is idle from now (R176). (DEDUCED, log entries 61
and 104) -/
def Tile.reset (x : Tile) (m : SramMap) (now : Nat) : Tile :=
  { x with
    engineIdleAt := if x.queue.any MatOp.begun then now else x.engineIdleAt, stored := none
    threads := [], mregs := [], ve := [], act := [], actSc := [], actFmt := none, queue := [], slots := [], tc := [], fifo := []
    served := [], injected := none, rcache := [], released := false, faulted := false, lastIssued := 7, serial := 0
    written := x.written.filter (fun l => decide (m.cb0 ≤ 64 * l)) }

/-- A tile's end of an attempt: without a commit the carry-out bank is unwritten too. -/
def Device.resetTile (s : Device) (commit : Bool) (k : Nat) (x : Tile) : Tile :=
  let m := s.sramMap (k / 272) (k % 272)
  if commit then x.reset m s.now else (x.reset m s.now).clearOut m

/-- Requests that a tick or a rescission discards: those of tiles and of transfer schedulers. -/
def Req.ofFrame (r : Req) : Bool := !(r.kind == .reg || r.kind == .hostReq)

/-- R88: every tile is reset, and what its stream engines hold is discarded; responses that come later are late.
(DEDUCED, log entry 61) -/
def Device.resetTiles (s : Device) (commit : Bool) : Device :=
  { s with
    tiles := (s.tiles.map (fun e => (e.1, s.resetTile commit e.1 e.2))).filter (fun e => e.2 != {})
    dies := (s.dies.map (fun e => (e.1, { e.2 with
      lb := [], lbParity := [], lbWritten := [], engineIn := [], sendQ := [], sent := [] }))).filter (fun e => e.2 != {})
    pln := { s.pln with
      waiting := (s.pln.waiting.map (fun e => (e.1, e.2.filter (fun d => !d.isRequest)))).filter (fun e => !e.2.isEmpty) }
    reqs := s.reqs.filter (fun r => !r.ofFrame)
    gone := s.gone ++ s.reqs.filter (fun r => r.ofFrame &&
      (r.stage == .sent || r.stage == .answered || r.stage == .returning || r.stage == .abandoned)) }

/-- What an access queued at a controller stands for is still there. -/
def Device.markLives (s : Device) (ch : Nat) (q : CtlReq) : Bool :=
  let l := chanLine (ch / 32) (ch % 32) q.line
  match q.mark with
  | none => true
  | some (.drain p) => (s.port p).combs.any (fun e => e.line == l && e.draining && e.atCtl)
  | some (.atomic p) => (s.port p).combs.any (fun e => e.line == l && e.asked)
  | some (.window t) => s.pln.heldLines.any (fun c => c.dst == t)
  | some (.read src seng dst seq) => s.ports.any (fun e => e.2.input.any (fun x => readMark x.pkt == .read src seng dst seq))

/-- Accesses whose sender is gone leave the controllers' queues (R88). -/
def Device.pruneMarks (s : Device) : Device :=
  s.modMem (fun x => { x with
    waiting := (x.waiting.map (fun e => (e.1, e.2.filter (s.markLives e.1)))).filter (fun e => !e.2.isEmpty) })

/-- A combiner entry at a tick: what frame requesters still await of it neither counts nor executes in the next attempt; their stores'
bytes land (R331, R339). (DEDUCED, log entry 135) -/
def Comb.atTick (e : Comb) : Option Comb :=
  let frame (p : Pkt) : Bool := decide (p.seng ≤ 131)
  let c := (({ e with
    ops := [], cc := none, waiters := e.waiters.filter (fun w => !frame w.pkt) } : Comb)).settleOps (e.ops.filter (fun o => !frame o.1))
  let c := if c.ops.isEmpty then { c with asked := false, come := false } else c
  if c.enable = 0 ∧ c.draining = false ∧ c.waiters.isEmpty ∧ c.ops.isEmpty then none else some c

/-- What starts empty at every tick: counters (R331), SEQ counters and windows, replay records of frame requesters (R320, R327,
R338), what combiner entries owe them, scheduled transfers, window lines on their way to memory. (DEDUCED, log entry 61) -/
def Device.clearTick (s : Device) : Device :=
  let s : Device := { s with
    ports := s.ports.map (fun e => (e.1, { e.2 with
      windows := e.2.windows.filter (fun w => decide (131 < w.seng))
      replays := e.2.replays.filter (fun r => decide (131 < r.seng))
      combs := e.2.combs.filterMap Comb.atTick })) }
  let s := (s.modMem (fun m => { m with cc := [] })).modFab (fun f => { f with
    schedSent := [], seqs := f.seqs.filter (fun e => decide (132 ≤ e.1 / 1024)) })
  (s.modPln (fun p => { p with
    toPort := [], heldLines := [], unstored := false
    flight := (p.flight.map (fun e => (e.1, e.2.filter (fun c => !isMemSite c.dst || c.dyn.isSome)))).filter (fun e => !e.2.isEmpty) })).pruneMarks

/-- TILE_ARITH: LAST takes CUR at every tick (R70). -/
def Device.copyArith (s : Device) : Device :=
  (List.range 4352).foldl (fun s b =>
    if s.rd .tileArith b = 0 then s else s.wr .tileArith b 0 (s.rd .tileArith b % 2 ^ 32 * 2 ^ 32)) s

/-- R86, R163: BANK toggles in every tile. -/
def Device.toggleBanks (s : Device) : Device := s.modFr (fun f => { f with swapped := !f.swapped })

/-- The Curator rewrites granule g of a tile's resident region from the resident copy (R106). -/
def Device.rewriteGranule (s : Device) (c t g : Nat) : Device :=
  match s.logicalOf c t with
  | none => s
  | some (x, y) =>
    let copy := (s.residentCopy c (16 * y + x)).range (65536 * g) (65536 * (g + 1))
    s.modTile c t (fun z => { z with
      sram := NMap.setAll 0 (z.sram.clear (65536 * g) (65536 * (g + 1))) copy, bad := z.bad.filter (fun l => l / 1024 != g) })

/-- R106: before the replay a bad resident line is rewritten from the resident copy; a line that failed again in it loses the
tile. A period in which no frame program `ran` is no replay. (DEDUCED, log entry 104) -/
def Device.repairTile (s : Device) (ran : Bool) (c t : Nat) : Device :=
  let x := s.tile c t
  let m := s.sramMap c t
  let s := (x.badLines.filter (fun a => decide (a < m.resTop))).foldl (fun s a => s.rewriteGranule c t (a / 65536)) s
  let s := s.modTile c t (fun x => { x with badLines := [], lastBadLines := if ran then x.badLines else x.lastBadLines })
  if x.badLines.any x.lastBadLines.contains then s.failTile c t else s

def Device.repairTiles (s : Device) (ran : Bool) : Device :=
  (s.tiles.filter (fun e => !e.2.badLines.isEmpty || !e.2.lastBadLines.isEmpty)).foldl (fun s e =>
    s.repairTile ran (e.1 / 272) (e.1 % 272)) s

/-- R88, R151: the threads of the program's start table become READY. -/
def Device.startThread (s : Device) (e : Nat × Nat) : Device :=
  let n := e.1 % 8
  let i := e.1 / 8 % 256
  let c := e.1 / 2048 % 16
  if e.1 / 32768 = s.program ∧ bit e.2 24 then
    s.modThread c (s.physicalOf c (i % 16) (i / 16)) n (fun _ =>
      { st := .ready, m2 := bit e.2 25, pc := bits e.2 0 24, started := true })
  else s

def Device.startThreads (s : Device) : Device := s.job.start.foldl (fun s e => s.startThread e) s

/-! ## Append lengths (R163, R167, R264) -/

/-- Where the pending and the committed lengths lie in C-space. -/
def pendLo : Nat := RegKind.frmLenPend.addr 0 0
def commitLo : Nat := RegKind.frmLenCommit.addr 0 0

/-- Every slot's committed length becomes its pending one, or the reverse. -/
def Device.commitLens (s : Device) : Device := { s with regs := NMap.copy 0 s.regs s.regs pendLo commitLo 16384 }
def Device.restorePend (s : Device) : Device := { s with regs := NMap.copy 0 s.regs s.regs commitLo pendLo 16384 }

/-- Slots that are poisoned and whose committed length is 0. -/
def Device.emptyPoisoned (s : Device) : List Nat :=
  (List.range 2048).filter (fun n => s.poisoned n && s.fget F.frmLenCommitLength 0 n == 0)

/-! ## The frame digest (R442) -/

/-- A line of a region that hosts write: programs cannot write there, and a replay does not disturb it (R166). -/
def Device.hostItem (s : Device) (k : Nat) : Bool :=
  gDev (64 * k) == 0x3FF && (s.regionAt (64 * k) 64).any Region.hostWrite

def Device.keepItems (s : Device) (m : NMap Item) : NMap Item := m.filter (fun e => s.hostItem e.1)

/-- The CRC of a line's record. -/
def itemCrc (e : Nat × Item) : Nat := crc64 (leBytes 8 (64 * e.1) ++ bytesOfLine e.2.data ++ leBytes 8 e.2.mask.toNat)

/-- Slots whose committed length the frame changed, against the lengths before it. -/
def Device.changedSlots (s : Device) (old : NMap Word) : List Nat :=
  (List.range 2048).filter (fun n => old.get 0 (commitLo + 8 * n) != s.regs.get 0 (commitLo + 8 * n))

/-- The sum of the items' CRCs. (DESIGN CHOICE, log entry 16) -/
def Device.digestOf (s : Device) : Nat :=
  ((s.fr.sealedItems.map itemCrc).sum +
    ((s.changedSlots s.fr.saved.lens).map (fun n =>
      (Config.lengthItem n (s.fget F.frmLenCommitLength 0 n)).toNat)).sum) % 2 ^ 64

/-! ## What a tick does with the frame that ends (R163, R170, R171, R173) -/

/-- FRM_HOLD shows the last hold (R183). -/
def Device.showHold (s : Device) : Option HoldRec → Device
  | none => s
  | some h =>
    ((s.fset F.frmHoldLastReason 0 0 h.reason).setFlag F.frmHoldLastLate 0 0 h.late).fset F.frmHoldLastRaiser 0 0 h.raiser

/-- FRM_HOLD records a held tick. (DEDUCED, log entry 58) -/
def Device.countHeld (s : Device) (h : Option HoldRec) : Device :=
  ((s.fsat F.frmHoldConsec 0 0 1).fsat F.frmHoldTotal 0 0 1).showHold h

/-- The last hold registered for a tick. (DEDUCED, log entry 58) -/
def Device.lastHold (s : Device) (k : Nat) : Option HoldRec := s.fr.holds.reverse.find? (fun h => h.target == k && !h.stop)

/-- A provisional commit (R163). -/
def Device.commit (s : Device) : Device :=
  let lens := s.regs.range commitLo (commitLo + 16384)
  let s := (s.resetTiles true).toggleBanks.commitLens
  let gone := s.emptyPoisoned
  let s := gone.foldl (fun s n => s.setPoison n false) s
  let s := s.fset F.frmFrameFrame 0 0 (s.frame + 1)
  s.modFr (fun f => { f with
    provisional := true, held := false, idle := false, saved := { lens := lens, poison := gone }
    sealedItems := f.items, items := [] })

/-- A held tick: frame F starts again (R170). With `wait` the device idles through the coming period first, and treats the
tick that follows as held (R171). (DEDUCED, log entry 58) -/
def Device.hold (s : Device) (h : Option HoldRec) (wait : Bool) : Device :=
  let s := (s.resetTiles false).countHeld h
  let s := s.modFr (fun f => { f with
    provisional := false, held := true, idle := wait, items := s.keepItems f.items, sealedItems := [], saved := {} })
  s.modFr (fun f => { f with replay := wait })

/-- The frame machinery of a device on which no frame runs any more. -/
def Frames.ended (f : Frames) : Frames :=
  { f with holds := [], settle := false, provisional := false, idle := false, held := false, past := false, missed := false, lateEow := false
           eowMet := false, withdraw := 0, items := [], sealedItems := [], saved := {}, startAt := none, journal := [], joined := false, replay := false
           withdrawDue := 0, beaconDigest := none }

/-- FRM_FAULT records a job stop (R173, R185). -/
def Device.recordStop (s : Device) (cause dev : Nat) : Device :=
  ((s.fset F.frmFaultCause 0 0 cause).fset F.frmFaultDevice 0 0 dev).setFlag F.frmFaultValid 0 0 true

/-- The job is STOPPED. -/
def Device.stopJob (s : Device) (h : HoldRec) : Device :=
  let s := ((s.resetTiles false).clearTick.restorePend.recordStop h.reason h.raiser).modFr Frames.ended
  ((s.fset F.frmStateStep 0 0 0).fset F.frmStateJob 0 0 jStopped).leavePhases.freeTraffic.leaveCoordination

/-- A line of a stack in CRITICAL, and a READ of one. -/
def Device.criticalLine (s : Device) (l : Nat) : Bool := (lineStack l).any s.critical
def Device.criticalRead (s : Device) (p : Pkt) : Bool :=
  p.typ == tRead && gSpace p.addr != 3 && ((s.locate (s.target p)).map (fun x => s.criticalLine (x.2 / 64))).getD false

/-- R249: what waits at a controller in CRITICAL is discarded at the withdrawal: queued accesses, READs, drains and atomics' reads. -/
def Device.dropCritical (s : Device) : Device :=
  { s with
    mem := { s.mem with waiting := s.mem.waiting.filter (fun e => !s.critical (e.1 / 32)) }
    ports := s.ports.map (fun e => (e.1, { e.2 with
      input := e.2.input.filter (fun x => !s.criticalRead x.pkt)
      combs := e.2.combs.filter (fun c => !(s.criticalLine c.line && (c.atCtl || c.asked))) })) }

/-- R306: the HOST lanes of a gateway go dark. -/
def Device.darkenHosts (s : Device) : Device :=
  if s.flag F.prtStatusGateway || s.flag F.prtStatusAltGateway then
    (List.range 64).foldl (fun s z => if s.laneRole z = rHost ∧ s.laneState z ≠ lFailed then (s.setLaneState z lDown).setLevel z false else s) s
  else s

/-- R431: the device leaves the job; a stop it raised is recorded. -/
def Device.leaveJob (s : Device) (k : Nat) : Device :=
  let cause := s.fr.withdraw
  let s := match s.fr.holds.find? (fun h => h.stop && h.target == k) with
    | some h => s.recordStop h.reason h.raiser
    | none => s
  let s := ((s.resetTiles false).clearTick.restorePend.modFr Frames.ended).dropCritical.closeBypass.darkenHosts
  let s := ((s.fset F.frmStateStep 0 0 0).fset F.frmStateJob 0 0 jWithdrawn).leavePhases.freeTraffic.leaveCoordination
  let s := ((s.fset F.frmWithdrawCause 0 0 cause).setFlag F.frmWithdrawValid 0 0 true).fset F.frmWithdrawTick 0 0 k
  s.note { kind := kFrm, prio := 0, cls := 4, cause := 3 * 256 + cause, unit := s.self }

/-- A hold or stop that governs this device at tick k: a timely one, or one it raised itself. -/
def Device.governs (s : Device) (k : Nat) (h : HoldRec) : Bool := h.target == k && (!h.late || h.raiser == s.self)

/-- A stop that ends the job at tick k (R173, R420). The stop that a withdrawal raises (R431) stands on the same rung as the
withdrawal, and does not outrank it. (DEDUCED, log entry 62) -/
def Device.stops (s : Device) (k : Nat) (h : HoldRec) : Bool :=
  s.governs k h && h.stop && (s.fr.withdraw == 0 || (h.reason != jcHoldBudget && h.reason != jcWithdrawal))

/-- The end of a frame attempt at tick k. Of several job stops the first registered is recorded (R185), and a tick at which a timely job stop
takes effect is not counted as held (R183). (DESIGN CHOICE, log entry 58; DEDUCED, log entries 55, 56, 57 and 62) -/
def Device.endAttempt (s : Device) (k : Nat) : Device :=
  let s := s.cutPhase.copyArith
  match s.fr.holds.find? (s.stops k) with
  | some h => s.stopJob h
  | none =>
    if s.fr.withdraw ≠ 0 then s.leaveJob k
    else
      if s.fr.replay || s.fr.holds.any (fun h => h.target == k && !h.late && !h.stop) then (s.hold (s.lastHold k) false).clearTick
      else if !s.fr.holds.any (s.governs k) && (s.fr.eowMet || s.resyncing) then s.commit.clearTick
      else (s.hold (s.lastHold k) true).clearTick

/-! ## What a tick does on every device -/

/-- R504: staged test writes take effect, those of a tick's own cycle at the next tick. -/
def Device.applyStaged (s : Device) : Device :=
  let l := s.ctl.staged
  let s := s.modCtl (fun c => { c with staged := c.stagedLate, stagedLate := [] })
  l.foldl (fun s e =>
    match regAt e.1 with
    | some (k, b, i) => s.wr k b i (Right.all.apply k (s.rd k b i) e.2.toNat)
    | none => s) s

/-- The timing master's TICK (R302). -/
def Device.tickPkt (s : Device) (k : Nat) : Pkt :=
  sealPkt { blankPkt with
    dst := s.self, src := s.self, epoch := s.epoch, typ := tTick, len := 1, seng := 132, addr := k, payload := List.replicate 16 0 }

/-- Losses, flips, migrations, lanes, clocks, transceivers and power at a tick (R47, R252, R280, R297, R362, R374, R423, R430). At a tick at which the
device stops or withdraws, no accession takes effect (R420). -/
def Device.atTick (s : Device) (k : Nat) (ended back : Bool) : Device :=
  let s := s.modFr (fun f => { f with tick := k, tickAt := s.now, past := false, holds := f.holds.filter (fun h => decide (k ≤ h.target)) })
  let s := if s.fab.flipAt.any (fun f => f.1 == k) then s.flip else s
  let lost := s.fr.lossPending
  let s := lost.foldl (fun s c => s.retireStack c) (s.modFr (fun f => { f with lossPending := [] }))
  let s := if lost.isEmpty then s else s.recheck
  let s := s.applyStaged
  let s := if ended && !s.running then s
    else (List.range 4).foldl (fun s p => s.switchSpare p) s.endMigrations.switchHalves.tickLanes
  let s := ((List.range 16).foldl (fun s c => s.startChange c) s).powerTick ended back
  if s.flag F.prtStatusMaster then s.sendTree (s.tickPkt k) none else s

/-! ## The deadline (R143, R162) -/

/-- The first stack that has not finished; 31 where the tiles have. (DEDUCED, log entries 57 and 69) -/
def Device.unfinished (s : Device) : Nat :=
  ((List.range 16).find? (fun c => bit s.job.stackSet c &&
    (s.tiles.any (fun e => e.1 / 272 == c && !s.tileEnd c (e.1 % 272)) || s.reqs.any (fun r => r.ofFrame && r.c == c)))).getD 31

/-- A missed deadline. Where this device has raised a stop for the coming tick, as a job fault does, it raises no hold (R68, R104).
(DEDUCED, log entries 57 and 69) -/
def Device.miss (s : Device) : Device :=
  let s := (s.modFr (fun f => { f with missed := true })).note
    { kind := kFrm, prio := 1, cls := 2, cause := 2, unit := s.unfinished, detail := s.frame }
  let s := ((s.fsat F.frmTimingMisses 0 0 1).fset F.frmTimingEowLast 0 0 0xFFFF).modPwr (fun p => { p with slackMin := 0 })
  if s.fr.holds.any (fun h => h.stop && h.target == s.fr.tick + 1 && h.raiser == s.self) then s else s.raiseHold hDeadline

/-- DEADLINE: end of work registered in its own cycle meets it. FRM_STATE.STEP shows WORK until the deadline, WINDOW from it on: the
table of R174 gives no state between the end-of-work point and the deadline. (DESIGN CHOICE, log entry 118) -/
def Device.deadlineNow (s : Device) : Device :=
  if !s.running || s.fr.past then s
  else
    let s := s.noteEow.modFr (fun f => { f with past := true })
    let s := if s.fget F.frmStateStep = 3 then s else s.fset F.frmStateStep 0 0 1
    if s.fr.idle || s.fr.eowMet then s else s.miss

def execDeadline (s : State) : Host.Outcome State Fault Refusal := onDevice Device.deadlineNow s

/-! ## The output lease (R438, R440) -/

/-- The standby takes the lease: with no SYNCED partner left, it answers for it (R441). A holder in lockstep whose lease has run out is
still one. -/
def Device.takeLease (s : Device) (partnerSynced : Bool) : Device :=
  let s := ((s.fset F.frmMirrorRole 0 0 1).fset F.frmMirrorCount 0 0 3).fsat F.frmMirrorSwitches 0 0 1
  if partnerSynced then s else (s.fset F.frmMirrorSync 0 0 0).setFlag F.frmMirrorAlias 0 0 true

/-- R440 at a tick. -/
def Device.lease (s : Device) : Device :=
  let f := s.fr
  let s := s.modFr (fun f => { f with beaconHolder := false, beaconEcho := false, beaconRelease := false, beaconSynced := false })
  if !s.synced then s
  else if s.fget F.frmMirrorRole = 1 then
    let n := if f.beaconEcho then 3 else s.fget F.frmMirrorCount - 1
    let s := s.fset F.frmMirrorCount 0 0 n
    if n = 0 then s.raiseHold hFabric else s
  else if s.fget F.frmMirrorRole = 2 then
    let m := if f.beaconHolder then 0 else min 7 (s.fget F.frmMirrorMissed + 1)
    let s := s.fset F.frmMirrorMissed 0 0 m
    if m = 3 ∨ f.beaconRelease then s.takeLease f.beaconSynced else s
  else s

/-! ## The frame that begins -/

/-- Work under way raises the hold of its reason, and loses a rejoining stack where the budget is reached (R359, R430); so does a cause of
withdrawal that waits for a Curator core (R434). -/
def Device.holdForWork (s : Device) : Device :=
  let s := if s.fr.withdrawDue ≠ 0 then s.raiseHold (withdrawReason s.fr.withdrawDue) else s
  match s.fr.work with
  | [] => s
  | k :: _ =>
    let s := s.raiseHold (workReason k)
    if s.fr.withdraw = wHoldBudget then s.loseRejoining else s

/-- A frame attempt begins at phase 0 (R144, R145, R163, R170, R174). A device that resynchronises, or that is still completing an
accession, starts no program. (DEDUCED, log entry 56) -/
def Device.startAttempt (s : Device) : Device :=
  let s := s.modFr (fun f => { f with
    idle := f.idle || s.resyncing || !f.work.isEmpty, settle := true, eowMet := false, missed := false, lateEow := false, fault := false
    firstPend := [] })
  let s := s.fset F.frmStateProgram 0 0 (s.frame % max 1 s.job.programs)
  let s := s.fset F.frmStateStep 0 0 (if s.fr.provisional then 2 else if s.fr.idle then 3 else 0)
  let s := (s.restorePend.enterPhase 0).holdForWork
  let s := if s.fr.held then s.moveSelectors else s
  let s := if s.fr.idle then s.freeTraffic else s.startThreads
  s.retryAll.noteEow

/-- A device ordered to rejoin enters the job (R443), with the job's bank parity: which frame is in force there, no packet tells it.
(DESIGN CHOICE, log entry 66) -/
def Device.enterJob (s : Device) : Device :=
  let (w, s) := s.drawWord
  let s := (s.fset F.frmFrameFrame 0 0 w.toNat).fset F.frmCommittedCount 0 0 w.toNat
  let s := if w.toNat % 2 = 1 then s.toggleBanks else s
  let s := ((s.fset F.frmMirrorRole 0 0 2).fset F.frmMirrorSync 0 0 syCopying).fset F.frmStateJob 0 0 jRunning
  s.modFr (fun f => { f with rejoin := false })

/-- The number of the coming tick: a device that enters a running job counts from the TICKs it has heard. -/
def Device.nextTick (s : Device) : Nat :=
  (if s.fr.rejoin then s.fab.lastTick.getD s.fr.tick else s.fr.tick) + 1

/-- TICK (R142). -/
def Device.tickNow (s : Device) : Device :=
  let k := s.nextTick
  let ran := !s.fr.idle
  let ended := s.running
  let back := s.pwr.toSustained
  let s := if s.running then s.deadlineNow.endAttempt k else s.copyArith
  let s := s.atTick k ended back
  if s.running then (s.repairTiles ran).lease.resync.startAttempt
  else if s.fr.rejoin then s.enterJob.startAttempt
  else s

def execTick (s : State) : Host.Outcome State Fault Refusal := onDevice Device.tickNow s

/-! ## The confirm point (R164, R165, R171) -/

/-- The frame's Ledger record (R70, R497). (DEDUCED, log entry 60) -/
def Device.summary (s : Device) : Device :=
  let sum (f : Fld) : Nat := ((List.range 4352).map (fun b => s.fget f b)).sum
  s.note { kind := kFrm, prio := 3, cls := 2, cause := 1,
           detail := sum F.tileArithRangeLast % 2 ^ 32 + sum F.tileArithInvalidLast % 2 ^ 32 * 2 ^ 32 +
             s.fget F.frmTimingEowLast * 2 ^ 64 + s.fget F.frmHoldConsec * 2 ^ 80 }

/-- The commit becomes final. (DEDUCED, log entry 60) -/
def Device.finalise (s : Device) : Device :=
  let s := (s.fset F.frmDigestDigest 0 0 s.digestOf).summary.keepJournal
  let s := (s.fset F.frmCommittedCount 0 0 s.frame).fset F.frmHoldConsec 0 0 0
  let s : Device := { s with tiles :=
    (s.tiles.map (fun e => (e.1, e.2.clearOut (s.sramMap (e.1 / 272) (e.1 % 272))))).filter (fun e => e.2 != {}) }
  let s := s.modFr (fun f => { f with provisional := false, sealedItems := [], saved := {}, heldBeacon := false, joined := false })
  s.endMigrations.fset F.frmStateStep 0 0 0

/-- The commit is rescinded: everything returns to its value before the tick, and the device idles until the next, which is
held. The rescinded tick counts as one held tick, also where the late hold is a job stop (R183). (DEDUCED, log entry 55; DESIGN CHOICE,
log entry 58) -/
def Device.rescind (s : Device) (h : HoldRec) : Device :=
  let s : Device := s.unjoin.toggleBanks.resetTiles false
  let s : Device := { s with
    regs := (s.regs.clear commitLo (commitLo + 16384)).setAll 0 s.fr.saved.lens
    ports := s.ports.map (fun e => (e.1, { e.2 with held := e.2.held.filter (fun x => x.pkt.typ == tRead) })) }
  let s := (s.fr.saved.poison.foldl (fun s n => s.setPoison n true) s).restorePend
  let s := (s.fset F.frmFrameFrame 0 0 (s.frame + 2 ^ 64 - 1)).countHeld (if h.stop then none else some h)
  let s := s.fset F.frmStateProgram 0 0 (s.frame % max 1 s.job.programs)
  let s := (s.modPln (fun p => { p with heldLines := [] })).pruneMarks.modFr (fun f => { f with
    provisional := false, held := true, idle := true, items := s.keepItems f.sealedItems, sealedItems := [], saved := {}
    eowMet := false, firstPend := [] })
  let s := (s.fset F.frmStateStep 0 0 3).note { kind := kFrm, prio := 2, cls := 2, cause := 3, unit := h.raiser, detail := s.frame }
  (s.modFr (fun f => { f with replay := true })).leavePhases

/-- Outward requests leave their engines, and what the port dies held is served (R164). -/
def Device.releaseOutward (s : Device) : Device :=
  let l := s.reqs.filter (fun r => r.stage == .withheld)
  let s := l.foldl (fun s r => s.modReq r.id (fun q => { q with stage := .engine })) s
  let s := s.pln.heldLines.foldl (fun s c => s.windowCame c) s
  (l.foldl (fun s r => s.addDemand r.c (s.reqUnit r) r.cells) s).serveHeld

/-- This device recorded a FAULT in the attempt whose commit the last confirm point made final. -/
def Device.faultedAttempt (s : Device) : Bool :=
  s.led.recs.any (fun r => r.prio == 1 && r.tick + 1 == s.fr.tick)

/-- This partner leaves lockstep and resynchronises. (DEDUCED, log entry 68) -/
def Device.leaveLockstep (s : Device) : Device :=
  let s := ((s.fset F.frmMirrorSync 0 0 syUnsynced).wr .frmResync 0 0 0).note
    { kind := kFrm, prio := 1, cls := 2, cause := 29, unit := s.self }
  if s.fget F.frmMirrorRole = 1 then s.sendRelease.fset F.frmMirrorRole 0 0 2 else s

/-- R442: the digests of one tick differ. Whether the partner recorded a FAULT is not told here.
(DESIGN CHOICE, log entry 67) -/
def Device.mismatch (s : Device) : Device :=
  let s := s.fsat F.frmMirrorMismatches 0 0 1
  let (w, s) := s.drawWord
  let own := s.faultedAttempt
  let other := bit w.toNat 0
  if own == other then (if s.fget F.frmMirrorRole = 2 then s.leaveLockstep else s)
  else if own then s.leaveLockstep else s

/-- A digest of the partner against this device's own of the same tick, zero where that was held (R442). -/
def Device.compareDigest (s : Device) (d : Nat) : Device :=
  if d ≠ (if s.fr.heldBeacon then 0 else s.fget F.frmDigestDigest) then s.mismatch else s

/-- A beacon that came before this confirm point is compared (R442), and the beacon of the tick is sent (R438): the holder's, and that of a partner without a role; for a holder its count is the tick's. -/
def Device.confirmBeacon (s : Device) : Device :=
  let s := match s.fr.beaconDigest with
    | some d => (s.modFr (fun f => { f with beaconDigest := none })).compareDigest d
    | none => s
  if s.job.mirrorPartner ≠ 0xFFFF ∧ s.fget F.frmMirrorRole ≠ 2 then s.sendBeacon s.fr.tick s.fr.heldBeacon false else s

/-- CONFIRM_POINT. A hold that arrives in its own cycle counts as arrived. (DEDUCED, log entry 55) -/
def Device.confirm (s : Device) : Device :=
  if !s.settling then s
  else
    let s := s.modFr (fun f => { f with settle := false, heldBeacon := true })
    if s.fr.provisional then
      match s.fr.holds.find? (fun h => h.target == s.fr.tick && h.stop) with
      | some h => (s.rescind h).stopJob h
      | none =>
        match s.lastHold s.fr.tick with
        | some h => (s.rescind h).confirmBeacon
        | none => s.finalise.releaseOutward.confirmBeacon
    else
      match s.fr.holds.find? (fun h => h.target == s.fr.tick && h.stop) with
      | some h => s.stopJob h
      | none => (if s.fr.held then s.showHold (s.lastHold s.fr.tick) else s).releaseOutward.confirmBeacon

def execConfirmPoint (s : State) : Host.Outcome State Fault Refusal := onDevice Device.confirm s

/-! ## The start of a job (R142, R435, R488) -/

/-- R386: a device that the image names as coordinator without being eligible records an EVENT at the start tick, for which R498 has no
code. (DESIGN CHOICE, log entry 76) -/
def Device.noteCoordinator (s : Device) : Device :=
  if s.job.powerCoord = s.self ∧ !s.boot.cat.coordEligible then
    let (w, s) := s.drawWord
    s.note { kind := kPwr, prio := 2, cls := 1, cause := w.toNat % 2 ^ 16 }
  else s

/-- Tick 0 begins frame 0. -/
def Device.beginJob (s : Device) : Device :=
  let s := (s.modFr (fun f => { f with
    startAt := none, jobTime := 0, tick := 0, tickAt := s.now, past := false, forwarded := f.forwarded.filter (fun h => h.target == 0) })).modFab
    (fun f => { f with lastTick := none, offset := 0 })
  let s := (s.copyArith.frameEnergy false).fset F.frmStateJob 0 0 jRunning
  match s.fr.holds.find? (fun h => h.target == 0 && h.stop) with
  | some h => s.stopJob h
  | none =>
    let s := (s.resetTiles true).clearTick
    let s := if s.job.mirrorPartner = 0xFFFF then s
      else
        let s := (s.fset F.frmMirrorSync 0 0 sySynced).fset F.frmMirrorRole 0 0 (if s.self < s.job.mirrorPartner then 1 else 2)
        if s.self < s.job.mirrorPartner then s.fset F.frmMirrorCount 0 0 3 else s
    let s := s.noteCoordinator.startAttempt
    if s.flag F.prtStatusMaster then s.sendTree (s.tickPkt 0) none else s

/-- JOB_START: on a device that holds an accepted START_AT and whose PRT_TICK.STATE is LOCKED (R451). (DESIGN CHOICE, log entry 140) -/
def execJobStart (s : State) : Host.Outcome State Fault Refusal :=
  onDevice (fun s => if s.jobState = jReady ∧ s.fr.startAt.isSome ∧ s.fget F.prtTickState = tkLocked then s.beginJob else s) s

/-! ## HOLD packets (R303) -/

/-- The hold a packet carries. -/
def holdOf (p : Pkt) : HoldRec :=
  { target := p.addr, reason := p.arg % 16, stop := bit p.arg 6, late := bit p.arg 7, raiser := p.src }

/-- Identical in SRC, target tick, STOP and LATE. -/
def HoldRec.same (a b : HoldRec) : Bool := a.raiser == b.raiser && a.target == b.target && a.stop == b.stop && a.late == b.late

/-- A HOLD is forwarded once, and registered for its tick. (DEDUCED, log entry 64) -/
def Device.hearHold (s : Device) (came : Option Nat) (p : Pkt) : Device :=
  let h := holdOf p
  if s.fr.forwarded.any h.same || s.fr.holds.any (fun g => g.same h && g.raiser == s.self) then s
  else
    let s := (s.modFr (fun f => { f with forwarded := f.forwarded ++ [h] })).sendTree (hopped p) came
    if s.jobState = jReady ∨ s.running then s.addHold h else s

/-- The lane a packet came on. -/
def laneOf (v : Via) : Option Nat :=
  match v with
  | .lane z => some z
  | .own => none

def execHold (v : Via) (p : Pkt) := packetCommand tHold v p (fun s => s.hearHold (laneOf v) p)

/-! ## TICK packets (R302, R366) -/

/-- A number as a field of 16 bits, two's complement, saturating. -/
def satOffset (x : Int) : Nat := unsigned 16 (max (-32768) (min 32767 x))

/-- Job time follows an offset: slewed in a running job, and outside one stepped when it lies above 1 µs.
(DESIGN CHOICE, log entry 65; DEDUCED, log entry 70) -/
def Device.discipline (s : Device) (o : Int) : Device :=
  let (w, s) := s.drawWord
  let s := (s.setPorts F.prtTickOffset (satOffset o)).setPorts F.prtTickRate (w.toNat % 2 ^ 32)
  let away := decide (1000 < o.natAbs)
  let ho := s.flag F.clkStatusTickHo
  if s.running && away then
    let s := s.note { kind := kClk, prio := 1, cls := 2, cause := 19, detail := unsigned 64 o }
    if ho then s.tickLost else s.modFab (fun f => { f with offset := o })
  else
    let s := (s.setPorts F.prtTickState tkLocked).endHoldover
    if away then (s.modFr (fun f => { f with jobTime := (f.jobTime + o).toNat })).modFab (fun f => { f with offset := 0 })
    else s.modFab (fun f => { f with offset := o })

/-- The period that ticks recur at. (DESIGN CHOICE, log entry 15) -/
def Device.tickPeriod (s : Device) : Nat := if 2 ≤ s.jobState then s.periodNs else Config.idlePeriod.toNat

/-- A TICK is heard once, and forwarded with the delay of its link and the time it stays here, which nothing fixes.
(DEDUCED, log entry 64; DESIGN CHOICE, log entry 65) -/
def Device.hearTick (s : Device) (came : Option Nat) (p : Pkt) : Device :=
  if s.flag F.prtStatusMaster || s.fab.lastTick.any (fun k => decide (p.addr ≤ k)) then s
  else
    let link := match came with
      | some z => 500 * s.fab.roundTrip.get 0 z
      | none => 0
    let acc := leNat (p.payload.take 8) + link
    let (w, s) := (s.modFab (fun f => { f with lastTick := some p.addr })).drawWord
    let q := hopped { p with payload := leBytes 8 ((acc + w.toNat) % 2 ^ 64) ++ p.payload.drop 8 }
    let s := s.sendTree q came
    s.discipline ((p.addr * s.tickPeriod + acc / 1000 : Nat) - (s.fr.jobTime : Int))

def execTickPacket (v : Via) (p : Pkt) := packetCommand tTick v p (fun s => s.hearTick (laneOf v) p)

/-! ## LEASE packets (R438–R442) -/

/-- The fields of a beacon (R438). -/
def bcTick (p : Pkt) : Nat := leNat ((p.payload.drop 8).take 4)
def bcFlags (p : Pkt) : Nat := leNat ((p.payload.drop 12).take 1)
def bcCount (p : Pkt) : Nat := leNat ((p.payload.drop 13).take 1) % 4
def bcEcho (p : Pkt) : Nat := leNat ((p.payload.drop 14).take 2)

/-- A holder without a SYNCED partner keeps COUNT at 3 (R440). -/
def Device.holdsAlone (s : Device) : Device := s.fset F.frmMirrorCount 0 0 3

/-- What a partner's beacon shows its lease holder: a standby that is not in lockstep resynchronises, and the holder starts
journaling (R443), again after three restarts only when the partner had been silent; one in lockstep ends that, and aliasing (R441);
one without a role has left the pair (R431). (DESIGN CHOICE, log entry 66; DEDUCED, log entry 68) -/
def Device.seeSynced (s : Device) (role : Nat) (synced silent : Bool) : Device :=
  let y := s.fget F.frmMirrorSync
  if s.fget F.frmMirrorRole ≠ 1 then s
  else if synced then
    (if y = 0 || s.copying then
      ((s.fset F.frmMirrorSync 0 0 sySynced).setFlag F.frmMirrorAlias 0 0 false).modFr (fun f => { f with journal := [] })
    else s)
  else if role ≠ 2 then
    (if s.synced || s.copying then
      let s := if role = 1 then s else s.holdsAlone
      (s.fset F.frmMirrorSync 0 0 0).modFr (fun f => { f with journal := [] })
    else s)
  else if s.synced || (y == 0 && (silent || decide (s.fget F.frmResyncRestarts < 3))) then
    ((s.holdsAlone.fset F.frmMirrorSync 0 0 syCopying).wr .frmResync 0 0 0).modFr (fun f => { f with journal := [] })
  else s

/-- The beacon of the standby echoes the holder's (R438). -/
def Device.echoBeacon (s : Device) : Device :=
  if s.fget F.frmMirrorRole = 2 then s.sendBeacon s.fr.tick s.fr.heldBeacon false else s

/-- A beacon from the partner. A holder whose count has run out and that hears a holder is the standby. Digests of one tick are compared, at
the own confirm point where that is still to come (R442). (DEDUCED, log entry 68) -/
def Device.hearBeacon (s : Device) (p : Pkt) : Device :=
  let role := bits (bcFlags p) 0 2
  let now := bcTick p == s.fr.tick % 2 ^ 32
  let first := !s.fr.beaconHolder
  let silent := (s.fr.beaconTick + 1) % 2 ^ 16 != bcTick p % 2 ^ 16
  let s := s.fset F.frmPdigestDigest 0 0 (leNat (p.payload.take 8))
  let s := s.modFr (fun f => { f with
    beaconTick := bcTick p % 2 ^ 16
    beaconHolder := f.beaconHolder || (role == 1 && now)
    beaconEcho := f.beaconEcho || (role == 2 && now && bcEcho p == s.fr.tick % 2 ^ 16)
    beaconRelease := f.beaconRelease || (role == 1 && (bit (bcFlags p) 2 || bcCount p == 0))
    beaconSynced := if role == 1 then bit (bcFlags p) 3 && !bit (bcFlags p) 2 else f.beaconSynced })
  let s := if role = 1 ∧ s.fget F.frmMirrorRole = 1 ∧ s.fget F.frmMirrorCount = 0 then s.fset F.frmMirrorRole 0 0 2 else s
  let s := if role = 1 ∧ now ∧ first then s.echoBeacon else s
  let s :=
    if !(now && s.synced && bit (bcFlags p) 3) then s
    else if s.settling then s.modFr (fun f => { f with beaconDigest := some (leNat (p.payload.take 8)) })
    else s.compareDigest (leNat (p.payload.take 8))
  s.seeSynced role (bit (bcFlags p) 3) silent

/-- A LEASE: a gateway, and a device loaded to rejoin its partner (R485), learn its sender's role; from the partner it is a poison notice
(R439) or a beacon. -/
def Device.hearLease (s : Device) (p : Pkt) : Device :=
  let poison := bit (bcFlags p) 5
  let partner := s.fr.job.isSome && s.job.mirrorPartner == p.src
  let s := if (s.flag F.prtStatusGateway || s.flag F.prtStatusAltGateway || partner) && !poison then
      s.modCtl (fun c => { c with roles := c.roles.set 0 p.src (bits (bcFlags p) 0 2) }) else s
  if !s.running || s.job.mirrorPartner != p.src then s
  else if poison then s.setPoison (leNat (p.payload.take 2)) true
  else s.hearBeacon p

def execLease (v : Via) (p : Pkt) := packetCommand tLease v p (fun s => s.hearLease p)

/-- BEACON_DUE: the holder's beacon has not come by its due time: the standby sends its own, in lockstep or not, and raises a hold unless it
resynchronises (R438, R440, R443). -/
def execBeaconDue (s : State) : Host.Outcome State Fault Refusal :=
  onDevice (fun s =>
    if s.running && s.fget F.frmMirrorRole == 2 && !s.fr.beaconHolder then
      (s.sendBeacon s.fr.tick s.fr.heldBeacon false).raiseHold hFabric
    else s) s

end Sys2Proof.Machine
end

