-- ==== Sys2Proof/Machine/Matrix.lean ====
section
/-! DEFINITION. The matrix instructions and the operations of the matrix queue (R107–R111, R175, R176). -/

namespace Sys2Proof.Machine

/-! Fields of the matrix descriptor (R108). -/

def mdPair (w0 : Word) : Nat := fld w0 0 3
def mdW (w0 : Word) : Elem := (Elem.ofCode (fld w0 3 4)).getD .bxint4
def mdA (w0 : Word) : Elem := (Elem.ofCode (fld w0 7 4)).getD .bxint4
def mdM (w0 : Word) : Nat := fld w0 11 7
def mdN (w0 : Word) : Nat := fld w0 18 6
def mdKb (w0 : Word) : Nat := fld w0 24 5
def mdAnch (w0 : Word) : Nat := fld w0 29 8
def mdClear (w0 : Word) : Bool := fld w0 37 1 == 1
def mdKeep (w0 : Word) : Bool := fld w0 38 1 == 1
def mdTc (w3 : Word) : Nat := fld w3 24 4
def mdTcEn (w3 : Word) : Bool := fld w3 28 1 == 1

/-- The activation format, rows and blocks of an MMA, which KEEP_A must repeat (R110). -/
def mdShape (w0 : Word) : Nat × Nat × Nat := (fld w0 7 4, mdM w0, mdKb w0)

/-- Put an operation into the matrix queue (R107); `fmt` is what the activation buffer will hold. (DEDUCED, log entry 106) -/
def Device.enqueue (s : Device) (w : Who) (op : MatOp) (fmt : Option (Nat × Nat × Nat)) : Device :=
  s.modTile w.c w.t (fun x => { x with
    queue := x.queue ++ [{ op with thread := w.n, order := x.serial }]
    serial := x.serial + 1
    actFmt := fmt })

/-- The descriptor instructions MMA and MCVT (R95, R107): a full queue holds the thread; the address is
32-byte aligned; the descriptor is copied at issue. `body` takes the instruction's own address. -/
def queued (i : Instr) (w : Who) (d a : Nat) (imm : BitVec 16)
    (body : Device → Nat → Word × Word × Word × Word → Issued) (s : State) : Host.Outcome State Fault Refusal :=
  docent i w [d, a] (fun s =>
    legalIf (d == 0)
      (if s.unitFull w.c w.t w.n .queue then .waits .queue
       else
        let ad := (s.thread w.c w.t w.n).addrB a imm
        if ad % 32 ≠ 0 then .fault fAlign
        else s.loadSram w ad 32 (fun s' bs => body s' (s.pcNow w) (descWords bs)))) s

/-- MMA (R108, R110): KEEP_A needs the shape of the MMA before it in this frame. -/
def execMma (w : Who) (d a : Nat) (imm : BitVec 16) (s : State) : Host.Outcome State Fault Refusal :=
  queued (.mma w d a imm) w d a imm (fun s pc (w0, w1, w2, w3) =>
    if !mmaOk w0 w1 w2 w3 then .fault fDescriptor
    else if mdKeep w0 && (s.tile w.c w.t).actFmt != some (mdShape w0) then .fault fDescriptor
    else .done (s.enqueue w { kind := .mma, w0 := w0, w1 := w1, w2 := w2, w3 := w3, pc := pc } (some (mdShape w0)))) s

/-- MCVT (R111). -/
def execMcvt (w : Who) (d a : Nat) (imm : BitVec 16) (s : State) : Host.Outcome State Fault Refusal :=
  queued (.mcvt w d a imm) w d a imm (fun s pc (w0, w1, w2, w3) =>
    if !mcvtOk w0 w1 w2 w3 then .fault fDescriptor
    else
      .done (s.enqueue w { kind := .mcvt, w0 := w0, w1 := w1, w2 := w2, w3 := w3, pc := pc } (s.tile w.c w.t).actFmt)) s

/-- MCLR: D = A = IMM = 0 (R95). -/
def execMclr (w : Who) (d a : Nat) (imm : BitVec 16) (s : State) : Host.Outcome State Fault Refusal :=
  docent (.mclr w d a imm) w [d, a] (fun s =>
    legalIf (d == 0 && a == 0 && imm == 0)
      (if s.unitFull w.c w.t w.n .queue then .waits .queue
       else .done (s.enqueue w { kind := .mclr, pc := s.pcNow w } (s.tile w.c w.t).actFmt))) s

/-! ## The queue at work -/

/-- MCLR operations that have begun take effect when they reach the head (R111). -/
def Tile.settleHead (x : Tile) : List MatOp → Tile
  | [] => { x with queue := [] }
  | o :: q =>
    if o.kind == .mclr && o.begun then ({ x with mregs := [] } : Tile).settleHead q else { x with queue := o :: q }

/-- The engine stops with the operation at its head, or is reset while it executes one: it is idle from now (R176). -/
def Tile.engineStops (x : Tile) (now : Nat) : Tile := { x with engineIdleAt := now }

/-- Remove the finished operation at the head. -/
def Tile.popHead (x : Tile) (now : Nat) : Tile := (x.settleHead (x.queue.drop 1)).engineStops now

/-- An operation of the queue ends in a fault of the thread that issued it (R104). (DEDUCED, log entries 93 and 106) -/
def Device.matFault (s : Device) (c t : Nat) (o : MatOp) (code : Nat) (tst : Bool := false) : Device :=
  let s := s.modTile c t (fun x =>
    (((x.settleHead (x.queue.filter (· != o))).engineStops s.now).modThread o.thread
      (fun th => { th with st := .faulted, wait := .nothing })).wake)
  s.tileFault c t code o.thread o.pc tst

/-- The read of a matrix operand, by tile-local address. -/
structure MatRead where
  fault : Nat := 0
  line : Nat := 0
  data : List (List Byte) := []
  deriving DecidableEq, Repr

/-- Read many pieces of tile SRAM; the first fault ends the reads. -/
def Tile.readAll (x : Tile) (m : SramMap) (upset : Option Nat) : List (Nat × Nat) → MatRead
  | [] => {}
  | (a, n) :: l =>
    let r := x.read m upset a n
    if r.fault ≠ 0 then { fault := r.fault, line := r.line }
    else
      let rest := x.readAll m upset l
      { rest with data := r.data :: rest.data }

/-- The pieces an MMA reads of its activations: block b of row i, then the row's scales (R108, R110). -/
def actPieces (w0 w1 : Word) : List (Nat × Nat) :=
  ((List.range (mdM w0)).map (fun i =>
    (List.range (mdKb w0)).map (fun b =>
      (fld w1 0 24 + i * fld w1 24 16 + b * (mdA w0).blockBytes, (mdA w0).blockBytes)) ++
    [(fld w1 40 24 + 16 * i, mdKb w0)])).flatten

/-- The pieces an MMA reads of its weights: block b of channel j, then the channel's scales; then the BQ3
codebook word. -/
def weightPieces (w0 w2 w3 : Word) : List (Nat × Nat) :=
  ((List.range (mdN w0)).map (fun j =>
    (List.range (mdKb w0)).map (fun b =>
      (fld w2 0 24 + j * fld w2 24 16 + b * (mdW w0).blockBytes, (mdW w0).blockBytes)) ++
    [(fld w2 40 24 + 16 * j, mdKb w0)])).flatten ++
  (if mdW w0 = .bq3 then [(fld w3 0 24, 4)] else [])

/-- Lines that pieces touch. -/
def piecesLines (ps : List (Nat × Nat)) : Nat := (ps.map (fun p => (linesOf p.1 p.2).length)).foldl (· + ·) 0

/-- Fill the activation buffer: row i, block b at 512i + 32b, its scale at 16i + b (R83, R110). -/
def Tile.loadAct (x : Tile) (w0 : Word) (d : List (List Byte)) : Tile :=
  let kb := mdKb w0
  let row (i : Nat) (y : Tile) : Tile :=
    let y := (List.range kb).foldl (fun y b =>
      { y with act := writeBytes y.act (512 * i + 32 * b) (d.getD (i * (kb + 1) + b) []) }) y
    { y with actSc := writeBytes y.actSc (16 * i) (d.getD (i * (kb + 1) + kb) []) }
  (List.range (mdM w0)).foldl (fun y i => row i y) { x with act := [], actSc := [] }

/-- The products of activation row i with weight channel j (R60, R110), summed under R62. -/
def Tile.dot (x : Tile) (w0 : Word) (wd : List (List Byte)) (i j : Nat) : Ewa :=
  let kb := mdKb w0
  let fa := mdA w0
  let fw := mdW w0
  let cb := leNat (wd.getD (mdN w0 * (kb + 1)) [])
  let anchor := x.anchors.get 0 (mdAnch w0)
  (List.range kb).foldl (fun e b =>
    let ab := readBytes x.act (512 * i + 32 * b) fa.blockBytes
    let wb := wd.getD (j * (kb + 1) + b) []
    let xa := (x.actSc.get 0 (16 * i + b)).toNat
    let xw := ((wd.getD (j * (kb + 1) + kb) []).getD b 0).toNat
    (List.range 32).foldl (fun e k =>
      e.add (product fa fw cb (blockElem fa ab k) (blockElem fw wb k) xa xw anchor)) e) {}

/-- The sums an MMA adds, by register index 32i + j. -/
def Tile.sums (x : Tile) (w0 : Word) (wd : List (List Byte)) : NMap Ewa :=
  (List.range (mdM w0)).foldl (fun d i =>
    (List.range (mdN w0)).foldl (fun d j => d.set {} (32 * i + j) (x.dot w0 wd i j)) d) []

/-- The first operation that has not begun, with the number before it. -/
def nextOp : List MatOp → Nat → Option (Nat × MatOp)
  | [], _ => none
  | o :: q, i => if o.begun then nextOp q (i + 1) else some (i, o)

/-- R122: the operation waits for a matrix-register descriptor placed before it. -/
def Tile.opBlocked (x : Tile) (o : MatOp) : Bool :=
  x.slots.any (fun d => isEwaKind (sdKind d.w0) && !sdVe d.w0 && decide (d.order < o.order))

/-- Mark operation i as begun. -/
def Tile.beginOp (x : Tile) (i : Nat) (delta : NMap Ewa) : Tile :=
  { x with queue := modAt (fun o => { o with begun := true, delta := delta }) x.queue i }

/-- The first line of the pieces that is read as stored: the one an armed parity flip hits (R506). (DEDUCED, log entry 93) -/
def Tile.firstHeld (x : Tile) (m : SramMap) (ps : List (Nat × Nat)) : Option Nat :=
  (ps.flatMap (fun p => linesOf p.1 p.2)).find? (x.holds m)

/-- Begin the next operation of a tile's queue (R107, R110, R111): an MCVT only when every earlier effect is
complete; an MMA or MCLR as soon as the engine is free, which an MCVT holds until its last line is written. A read that fails faults the thread that
issued it. -/
def Device.beginMatOp (s : Device) (c t : Nat) (upset : Option Nat) : Device :=
  let x := s.tile c t
  match nextOp x.queue 0 with
  | none => s
  | some (i, o) =>
    if x.opBlocked o || x.queue.any (fun p => p.kind == .mcvt && p.begun) then s
    else
      match o.kind with
      | .mclr =>
        let y := x.beginOp i []
        (s.setTile c t ((y.settleHead y.queue).engineStops s.now)).noteEow
      | .mcvt => if i = 0 then s.setTile c t (x.beginOp i []) else s
      | .mma =>
        let m := s.sramMap c t
        let ps := (if mdKeep o.w0 then [] else actPieces o.w0 o.w1) ++ weightPieces o.w0 o.w2 o.w3
        let hit := if s.flipArmed ptSram c t then x.firstHeld m ps else none
        let upset := hit.orElse (fun _ => upset)
        let s := if hit.isSome then s.flipFires else s
        let ra := if mdKeep o.w0 then {} else x.readAll m upset (actPieces o.w0 o.w1)
        let rw := x.readAll m upset (weightPieces o.w0 o.w2 o.w3)
        if ra.fault = fParity then (s.markBadLine c t ra.line).matFault c t o fParity hit.isSome
        else if ra.fault ≠ 0 then s.matFault c t o ra.fault
        else if rw.fault = fParity then (s.markBadLine c t rw.line).matFault c t o fParity hit.isSome
        else if rw.fault ≠ 0 then s.matFault c t o rw.fault
        else
          let y := if mdKeep o.w0 then x else x.loadAct o.w0 ra.data
          (((s.setTile c t (y.beginOp i (y.sums o.w0 rw.data))).count c t evSramRd 0 (piecesLines ps))).count c t
            evUnwritten 0 ((ps.map (fun p => x.unwrittenLines m p.1 p.2)).foldl (· + ·) 0)

/-- The matrix engine has been idle for at least 1 µs (R176). -/
def Device.engineCold (s : Device) (c t : Nat) : Bool :=
  let x := s.tile c t
  x.queue.all (fun o => !o.begun) && decide (x.engineIdleAt + 1000 ≤ s.now)

/-- MATRIX_OP_BEGIN. A cold engine starts only at its tile's release slot (R176). -/
def execMatrixOpBegin (c t : Nat) (upset : Option Nat) (s : State) : Host.Outcome State Fault Refusal :=
  onUnits (tileOk c t) (fun s => if s.engineCold c t then s else s.beginMatOp c t upset) s

/-- RELEASE_SLOT (R175, R176): from here the tile's threads may issue, and a cold matrix engine starts the
operation it has received. -/
def execReleaseSlot (c t : Nat) (s : State) : Host.Outcome State Fault Refusal :=
  onUnits (tileOk c t) (fun s =>
    let s1 := s.modTile c t (fun x => { x with released := true })
    if s.engineCold c t then s1.beginMatOp c t none else s1) s

/-- The registers after an MMA: cleared where CLEAR is set, then the sums added (R62, R110). -/
def applyMma (regs : NMap Ewa) (o : MatOp) : NMap Ewa :=
  (List.range (mdM o.w0)).foldl (fun r i =>
    (List.range (mdN o.w0)).foldl (fun r j =>
      let k := 32 * i + j
      let old : Ewa := if mdClear o.w0 then {} else r.get {} k
      r.set {} k (old.add (o.delta.get {} k))) r) regs

/-- A tile counter is incremented where the descriptor asks (R108, R111). -/
def Tile.tcDone (x : Tile) (w3 : Word) : Tile := if mdTcEn w3 then x.incTc (mdTc w3) else x

/-- PRODUCTS_K counts one for each 1,024 matrix products (R139). -/
def Device.countProducts (s : Device) (c t n : Nat) : Device :=
  let k := (s.tile c t).products + n
  (s.modTile c t (fun x => { x with products := k % 1024 })).count c t evProductsK 0 (k / 1024)

/-- MMA_COMPLETE (R110): the operation at the head is an MMA that has begun; its registers hold the final sums
and its TC is incremented. -/
def Device.mmaComplete (s : Device) (c t : Nat) : Device :=
  let x := s.tile c t
  match x.queue with
  | o :: _ =>
    if o.kind == .mma && o.begun then
      let s := s.setTile c t ((({ x with mregs := applyMma x.mregs o } : Tile).popHead s.now).tcDone o.w3)
      let n := 32 * (mdM o.w0 * mdN o.w0 * mdKb o.w0)
      ((s.spendTile c t (if mdPair o.w0 = 3 then 1 else 0) n).countProducts c t n).noteEow
    else s
  | [] => s

def execMmaComplete (c t : Nat) (s : State) : Host.Outcome State Fault Refusal :=
  onUnits (tileOk c t) (fun s => s.mmaComplete c t) s

/-! ## Conversion (R111) -/

def cdFmt (w0 : Word) : Nat := fld w0 0 3
def cdM (w0 : Word) : Nat := fld w0 3 7
def cdN (w0 : Word) : Nat := fld w0 10 6
def cdAnch (w0 : Word) : Nat := fld w0 16 8
def cdClear (w0 : Word) : Bool := fld w0 24 1 == 1

/-- OFMT 0–2 as a binary format. -/
def cdFloat : Nat → Fmt
  | 0 => fp32 | 1 => bf16 | _ => fp16

/-- OFMT 3–5 as an element format. -/
def cdElem : Nat → Elem
  | 3 => .e4m3 | 4 => .e5m2 | _ => .mxint8

/-- One converted row: its bytes, its scale byte for OFMT 3–5, its events (R68, R111). -/
def convertRow (fmt : Nat) (anchor : Int) (xs : List Ewa) : List Byte × List Byte × Events :=
  if fmt ≤ 2 then
    let f := cdFloat fmt
    let rs := xs.map (fun x => x.toFloat f anchor)
    ((rs.map (fun r => leBytes (f.width / 8) r.1)).flatten, [], rs.foldl (fun e r => e.add r.2) {})
  else if fmt ≤ 5 then
    let (sc, es, ev) := mxOfEwa (cdElem fmt) anchor xs
    (es.map (BitVec.ofNat 8), [BitVec.ofNat 8 sc], ev)
  else ((xs.map (fun x => leBytes 16 x.toNat)).flatten, [], {})

/-- The rows an MCVT writes: address, bytes, scale address, scale, events. -/
def Tile.convRows (x : Tile) (o : MatOp) : List (Nat × List Byte × Nat × List Byte × Events) :=
  (List.range (cdM o.w0)).map (fun i =>
    let (bs, sc, ev) := convertRow (cdFmt o.w0) (x.anchors.get 0 (cdAnch o.w0))
      ((List.range (cdN o.w0)).map (fun j => x.mregs.get {} (32 * i + j)))
    (fld o.w1 0 24 + i * fld o.w1 24 16, bs, fld o.w1 40 24 + i, sc, ev))

/-- MCVT_COMPLETE (R111): the rows are written, the converted registers cleared if CLEAR_AFTER is set, the TC
incremented, the events counted. A row outside the writable regions is a RANGE fault. -/
def Device.mcvtComplete (s : Device) (c t : Nat) : Device :=
  let x := s.tile c t
  match x.queue with
  | o :: _ =>
    if o.kind == .mcvt && o.begun then
      let m := s.sramMap c t
      let rows := x.convRows o
      if rows.all (fun (a, bs, sa, sc, _) => m.writeOk a bs.length && m.writeOk sa sc.length) then
        let y := rows.foldl (fun y (a, bs, sa, sc, _) => (y.store m a bs).store m sa sc) x
        let y := if cdClear o.w0 then
            { y with mregs := y.mregs.filter (fun e =>
                !(decide (e.1 / 32 < cdM o.w0) && decide (e.1 % 32 < cdN o.w0))) }
          else y
        let lines := (rows.map (fun (a, bs, sa, sc, _) => (linesOf a bs.length).length + (linesOf sa sc.length).length)).foldl (· + ·) 0
        let s := (s.setTile c t ((y.popHead s.now).tcDone o.w3)).count c t evSramWr 0 lines
        (s.arith c t (rows.foldl (fun e r => e.add r.2.2.2.2) {})).noteEow
      else s.matFault c t o fRange
    else s
  | [] => s

def execMcvtComplete (c t : Nat) (s : State) : Host.Outcome State Fault Refusal :=
  onUnits (tileOk c t) (fun s => s.mcvtComplete c t) s

/-! ## Watchdog and counters -/

/-- WATCHDOG (R105): a thread that has waited too long faults; WDOG = 0 disables the watchdog. One whose resource is free now waits no
longer: the event wins. -/
def execWatchdog (c t n : Nat) (s : State) : Host.Outcome State Fault Refusal :=
  onUnits (threadOk c t n) (fun s =>
    let st := s.tstate c t n
    if (st == .waitMem || st == .waitCount || st == .waitSync || st == .waitUnit) &&
        s.fget F.tileCtlWdog (272 * c + t) != 0 then s.faultAt c t n (s.thread c t n).last fWatchdog
    else s) s

/-- COUNTER_WRAP (R140): an enabled counter passes from 2^48 − 1 to 0. -/
def execCounterWrap (c t n : Nat) (s : State) : Host.Outcome State Fault Refusal :=
  onUnits (threadOk c t n) (fun s =>
    if s.flag F.tilePmctlEnable (272 * c + t) then
      (s.fset F.tilePmcCount (272 * c + t) n 0).counterWrap c t n
    else s) s

end Sys2Proof.Machine
end

