-- ==== Sys2Proof/Machine/Mesh.lean ====
section
/-! DEFINITION. The neighbour mesh (R112–R118): what a stage does with its flits in a cycle, and what a stream
engine does with the flits that reach it (R102, R103). -/

namespace Sys2Proof.Machine

/-! Fields of a route entry (R114). -/

def reOut (e : Nat) : Nat := bits e 0 5
def reIn (e : Nat) : Nat := bits e 5 5
def reJoin (e : Nat) : Bool := bit e 10
def reValid (e : Nat) : Bool := bit e 11
def reTag (e : Nat) : Nat := bits e 12 8

/-- The entry a flit is routed by: its tag in the set in force when it entered (R113). -/
def Tile.entryOf (x : Tile) (f : Flit) : Nat := x.route.get 0 (256 * f.set + f.tag)

/-- Good byte parity (R112). A control flit's format is internal to the die (R103). -/
def Flit.good (f : Flit) : Bool := f.ctl.isSome || f.parity == parityOf f.data

/-- The oldest flit of each tag in a FIFO, with its position: flits of one tag keep their order (R115). -/
def oldestEach : List Flit → List Nat → Nat → List (Nat × Flit)
  | [], _, _ => []
  | f :: l, seen, i =>
    if seen.contains f.tag then oldestEach l seen (i + 1) else (i, f) :: oldestEach l (f.tag :: seen) (i + 1)

/-- The oldest flit of a tag in a FIFO. -/
def oldestOf (l : List Flit) (tag : Nat) : Option (Nat × Flit) :=
  (oldestEach l [] 0).find? (fun e => e.2.tag == tag)

/-- The flits leave their inputs (position by input). -/
def Device.takeFlits (s : Device) (c t : Nat) (srcs : List (Nat × Nat)) : Device :=
  s.modTile c t (fun x => { x with
    fifo := srcs.foldl (fun m e => m.upd [] e.1 (fun l => dropAt l e.2)) x.fifo })

/-- A fault of a stage (R116). No thread takes it: which THREAD and PC it records, the spec does not say.
(DESIGN CHOICE, log entry 105) -/
def Device.stageFault (s : Device) (c t code : Nat) (tst : Bool := false) : Device :=
  let (w, s) := s.drawWord
  let s := if code = fRouteMiss then s.count c t evRouteMiss 0 1 else s
  s.tileFault c t code (w.toNat % 8) (w.toNat / 8 % 2 ^ 24) tst

/-- The stream engine at an edge that a flit reaches (R102): the one of the tile's two that its requester
names. -/
def Device.engineAt (s : Device) (d : Nat) (f : Flit) : Nat :=
  match f.ctl.bind (fun id => s.reqs.find? (fun r => r.id == id)) with
  | some r => 2 * d + s.fget F.tileCtlEngine (272 * r.c + r.t) % 2
  | none => 2 * d

/-- Whether the next stage or engine on port d grants a credit (R112). An engine's input holds as many flits as a stage's: the spec gives
it no size. (DESIGN CHOICE, log entry 118) -/
def Device.portRoom (s : Device) (c x y d : Nat) (f : Flit) : Bool :=
  match neighbour x y d with
  | some (x', y') => decide (((s.tile c (s.physicalOf c x' y')).fifo.get [] ((d + 2) % 4)).length < 32)
  | none => decide (((s.die c).engineIn.get [] (s.engineAt d f)).length < 32)

/-- Send a flit out of port d: into the next stage (R117), or through an edge tile to its engine (R103). -/
def Device.sendPort (s : Device) (c t x y d : Nat) (f : Flit) : Device :=
  let s := s.count c t evLinkOut d 1
  match neighbour x y d with
  | some (x', y') =>
    s.flitEnters c (s.physicalOf c x' y') ((d + 2) % 4) f
  | none => s.modDie c (fun z => { z with engineIn := z.engineIn.upd [] (s.engineAt d f) (· ++ [(t, f)]) })

/-- Outputs of an edge tile that face outward. -/
def outward (x y out : Nat) : Bool :=
  (List.range 4).any (fun d => bit out d && (neighbour x y d).isNone)

/-- Deliver a flit to the tile (R115, R116): `none` where it must wait. A flit with bad parity is a PARITY fault
and goes no further. The remote tracker consumes its own tag: the response to a request of the tile completes it (R103). -/
def Device.deliverFlit (s : Device) (c t : Nat) (f : Flit) : Option Device :=
  if !f.good then some (s.stageFault c t fParity f.tst)
  else if f.tag = s.fget F.tileCtlRspTag (272 * c + t) then
    match f.ctl.bind (fun id => s.reqs.find? (fun r => r.id == id && r.c == c && r.t == t && r.stage == .returning)) with
    | some r => some (s.completeTileReq r r.status r.answer)
    | none => some s
  else
    match (s.tile c t).receiver f.tag with
    | some d => if s.canReceive c t d f then some (s.receive c t d f) else none
    | none => none

/-- One cycle of a stage under way: the device, and the flits that have acted, by input and tag: an input gives one flit in a cycle. -/
structure Cycle where
  s : Device
  acted : List (Nat × Nat) := []

/-- A flit of this tag at this input can still act in this cycle. -/
def Cycle.free (y : Cycle) (i tag : Nat) : Bool := y.acted.all (fun a => a.1 != i || a.2 == tag)

/-- The flit at input i joins others (R115). -/
def joins (re i : Nat) : Bool := reJoin re && bit (reIn re) i

/-- What a stage discards at input i, with which fault (R116): a flit without a VALID entry, a DATA flit and one of bad parity at a
join, one that its entry would carry out of an edge tile under a tag that is no control tag, at every port of its entry; the rule
says which fault each is. Code 0: its entry sends it nowhere. (DESIGN CHOICE, log entry 118) -/
def Device.discards (s : Device) (c t i : Nat) (f : Flit) : Option Nat :=
  let re := (s.tile c t).entryOf f
  if !reValid re then some fRouteMiss
  else if (s.logicalOf c t).any (fun p => outward p.1 p.2 (reOut re)) && decide (reTag re < 0xF0) then some fRouteMiss
  else if joins re i && !f.ewa then some fMesh
  else if joins re i && !f.good then some fParity
  else if reOut re = 0 then some 0
  else none

/-- Input i loses the first flit that is to be discarded. -/
def Cycle.discard (y : Cycle) (c t i : Nat) : Cycle :=
  match (oldestEach ((y.s.tile c t).fifo.get [] i) [] 0).find? (fun e => (y.s.discards c t i e.2).isSome) with
  | none => y
  | some (k, f) =>
    let code := (y.s.discards c t i f).getD 0
    let s := y.s.takeFlits c t [(i, k)]
    { s := if code = 0 then s else s.stageFault c t code (code == fParity && f.tst), acted := (i, 256) :: y.acted }

/-- The flits of a join: the oldest of the tag from each input of IN, when it holds one from each that can act and is good
(R115, R116). -/
def Cycle.joinOf (y : Cycle) (x : Tile) (ins tag : Nat) : Option (List (Nat × Nat × Flit)) :=
  let ks := (List.range 5).filter (fun k => bit ins k)
  let fs := ks.filterMap (fun k => (oldestOf (x.fifo.get [] k) tag).map (fun e => (k, e.1, e.2)))
  if fs.length = ks.length ∧ fs.all (fun e => y.free e.1 tag && e.2.2.ewa && e.2.2.good) then some fs else none

/-- Four EWA sums of the flits of a join, with parity regenerated (R62, R116). -/
def joinFlit (fs : List (Nat × Nat × Flit)) (tag : Nat) : Flit :=
  let regs := fs.foldl (fun r e => addEwaLine r 0 e.2.2.data) []
  let l := ewaLine regs 0
  { tag := tag, ewa := true, data := l, parity := parityOf l }

/-- What competes for an output: the input it competes at, the flits it takes (input, position), their tag, the flit it sends, and
whether it is a join's sum that has gone nowhere yet. -/
structure Bid where
  input : Nat
  takes : List (Nat × Nat)
  tag : Nat
  flit : Flit
  fresh : Bool := false

/-- What input i has for output o (R115): the oldest flit of each tag whose entry names o, and that has not left through it. A join's sum
competes at each input of its IN, and that at which an output takes it counts as served last: the rule does not say which input
it stands at. (DESIGN CHOICE, log entry 118) -/
def Cycle.bids (y : Cycle) (c t o i : Nat) : List Bid :=
  let x := y.s.tile c t
  (oldestEach (x.fifo.get [] i) [] 0).filterMap (fun e =>
    let re := x.entryOf e.2
    if !bit (reOut re) o || bit e.2.gone o || !y.free i e.2.tag || (y.s.discards c t i e.2).isSome then none
    else if joins re i then
      (y.joinOf x (reIn re) e.2.tag).map (fun fs =>
        { input := i, takes := fs.map (fun f => (f.1, f.2.1)), tag := e.2.tag, flit := joinFlit fs (reTag re), fresh := e.2.gone == 0 })
    else some { input := i, takes := [(i, e.1)], tag := e.2.tag, flit := { e.2 with tag := reTag re, gone := 0 } })

/-- A delivered flit waits for a bank of its landing buffer (R124, R139). -/
def Device.lbWaits (s : Device) (c t : Nat) (f : Flit) : Bool :=
  ((s.tile c t).receiver f.tag).any (fun d => sdKind d.w0 == kLbWrite &&
    s.lbBusy c (sdEdge d.w2) (sdPlace d.w0 d.w1 d.w2 d.moved).toNat)

/-- Send a flit through one output; `none` where that output cannot take it in this cycle. -/
def Device.sendOut (s : Device) (c t o : Nat) (f : Flit) : Option Device :=
  if o = 4 then s.deliverFlit c t f
  else
    match s.logicalOf c t with
    | none => none
    | some (x, y) => if s.portRoom c x y o f then some (s.sendPort c t x y o f) else none

/-- The flits of a bid have left through output o. -/
def Tile.markGone (x : Tile) (takes : List (Nat × Nat)) (o : Nat) : Tile :=
  { x with fifo := takes.foldl (fun m e => m.upd [] e.1 (modAt (fun f => { f with gone := f.gone + 2 ^ o }) · e.2)) x.fifo }

/-- Output o serves the first competing input that follows the one it served last (R115). A multicast leaves through each of its
outputs when that output serves it. A flit that finds no credit waits (R139). (DESIGN CHOICE, log entry 118) -/
def Cycle.serve (y : Cycle) (c t : Nat) (inputs : List Nat) (o : Nat) : Cycle :=
  let last := (y.s.tile c t).served.get 4 o
  let bs := ((List.range 5).map (fun r => (last + 1 + r) % 5)).flatMap (fun i => if inputs.contains i then y.bids c t o i else [])
  let conflict := o == 4 && bs.any (fun b => y.s.lbWaits c t b.flit)
  match bs.findSome? (fun b => (y.s.sendOut c t o b.flit).map (fun s => (b, s))) with
  | some (b, s) =>
    let s := s.modTile c t (fun z => { z.markGone b.takes o with served := z.served.set 4 o b.input })
    { s := if b.fresh then s.count c t evJoins 0 1 else s, acted := b.takes.map (fun e => (e.1, b.tag)) ++ y.acted }
  | none =>
    if conflict then { y with s := y.s.count c t evLbConflict 0 1 }
    else if bs.isEmpty || o == 4 then y
    else { y with s := y.s.count c t evLinkStall o 1 }

/-- A flit that has left through every output of its entry leaves its input. -/
def Device.retireFlit (s : Device) (c t i tag : Nat) : Device :=
  let x := s.tile c t
  match oldestOf (x.fifo.get [] i) tag with
  | some (k, f) => if reOut (x.entryOf f) = f.gone then s.takeFlits c t [(i, k)] else s
  | none => s

/-- FLIT_ARRIVE: one cycle of a stage with flits at the inputs named (R112–R117). -/
def Device.stageCycle (s : Device) (c t : Nat) (inputs : List Nat) : Device :=
  if (s.tile c t).outputsIdle then s
  else
    let ins := (List.range 5).filter (fun i => inputs.contains i)
    let y := ins.foldl (fun (y : Cycle) i => y.discard c t i) ({ s := s } : Cycle)
    let y := (List.range 5).foldl (fun (y : Cycle) o => y.serve c t ins o) y
    y.acted.foldl (fun s a => s.retireFlit c t a.1 a.2) y.s

def execFlitArrive (c t : Nat) (inputs : List Nat) (s : State) : Host.Outcome State Fault Refusal :=
  onUnits (tileOk c t) (fun s => s.stageCycle c t inputs) s

/-! ## Stream engines (R102, R103) -/

/-- Requests an engine holds. -/
def Device.engineBusy (s : Device) (c e : Nat) : Nat :=
  (s.reqs.filter (fun r => r.c == c && s.fget F.tileCtlEngine (272 * r.c + r.t) == e &&
    (r.kind == .sld || r.kind == .sst || r.kind == .m2ld || r.kind == .m2st || r.kind == .atomic ||
      r.kind == .get || r.kind == .put) &&
    (r.stage == .engine || r.stage == .withheld || r.stage == .sent || r.stage == .answered))).length

/-- An engine sends the responses it holds, and takes the flit at its input: an outward request of a settle interval is withheld until the confirm
point (R164); a flit that carries no request is discarded, with a MESH fault at its edge tile (R103): a response is none. -/
def Device.engineTake (s : Device) (c e : Nat) : Device :=
  let s := s.sendAnswers c e
  match (s.die c).engineIn.get [] e with
  | [] => s
  | (t, f) :: rest =>
    let pop (s : Device) : Device := s.modDie c (fun y => { y with engineIn := y.engineIn.set [] e rest })
    match s.reqs.find? (fun r => f.ctl == some r.id && r.stage == .mesh) with
    | none => (pop s).stageFault c t fMesh
    | some q =>
      if 512 ≤ s.engineBusy c e then s
      else
        (pop s).modReq q.id (fun r =>
          { r with stage := if s.settling && r.outward then .withheld else .engine, edge := t })

def execStreamEngineRequest (c e : Nat) (s : State) : Host.Outcome State Fault Refusal :=
  onUnits (stackOk c && decide (e < 8)) (fun s => s.engineTake c e) s

end Sys2Proof.Machine
end

