-- ==== Sys2Proof/Machine/Scalar.lean ====
section
/-! DEFINITION. The scalar and control instructions of the Docent (R95, R96). -/

namespace Sys2Proof.Machine

/-- ADD to SLTU: G[D] = f(G[A], G[B]) (R95). -/
def alu (i : Instr) (w : Who) (d a b : Nat) (f : Word → Word → Word) (s : State) : Host.Outcome State Fault Refusal :=
  docent i w [d, a, b] (fun s => .done (s.setReg w d (f (s.reg w a) (s.reg w b)))) s

def execAdd (w : Who) (d a b : Nat) := alu (.add w d a b) w d a b (· + ·)
def execSub (w : Who) (d a b : Nat) := alu (.sub w d a b) w d a b (· - ·)
def execAnd (w : Who) (d a b : Nat) := alu (.and w d a b) w d a b (· &&& ·)
def execOr (w : Who) (d a b : Nat) := alu (.or w d a b) w d a b (· ||| ·)
def execXor (w : Who) (d a b : Nat) := alu (.xor w d a b) w d a b (· ^^^ ·)

/-- Shifts take G[B][5:0] (R95). -/
def execShl (w : Who) (d a b : Nat) := alu (.shl w d a b) w d a b (fun x y => x <<< (y.toNat % 64))
def execShr (w : Who) (d a b : Nat) := alu (.shr w d a b) w d a b (fun x y => x >>> (y.toNat % 64))
def execSra (w : Who) (d a b : Nat) := alu (.sra w d a b) w d a b (fun x y => x.sshiftRight (y.toNat % 64))
def execMul (w : Who) (d a b : Nat) := alu (.mul w d a b) w d a b (· * ·)
def execSlt (w : Who) (d a b : Nat) := alu (.slt w d a b) w d a b (fun x y => if x.slt y then 1 else 0)
def execSltu (w : Who) (d a b : Nat) := alu (.sltu w d a b) w d a b (fun x y => if x.ult y then 1 else 0)

def execAddi (w : Who) (d a : Nat) (imm : BitVec 16) (s : State) : Host.Outcome State Fault Refusal :=
  docent (.addi w d a imm) w [d, a] (fun s => .done (s.setReg w d (s.reg w a + imm.signExtend 64))) s

/-- LUI: G[D] = sext(IMM) × 2^16; A = 0 (R95). -/
def execLui (w : Who) (d a : Nat) (imm : BitVec 16) (s : State) : Host.Outcome State Fault Refusal :=
  docent (.lui w d a imm) w [d, a] (fun s => legalIf (a == 0) (.done (s.setReg w d (imm.signExtend 64 <<< 16)))) s

/-- LD: 8 bytes at G[A] + sext(IMM), a multiple of 8 (R95). -/
def execLd (w : Who) (d a : Nat) (imm : BitVec 16) (s : State) : Host.Outcome State Fault Refusal :=
  docent (.ld w d a imm) w [d, a] (fun s =>
    let ad := (s.thread w.c w.t w.n).addrB a imm
    if ad % 8 ≠ 0 then .fault fAlign
    else s.loadSram w ad 8 (fun s bs => .done (s.setReg w d (BitVec.ofNat 64 (leNat bs))))) s

/-- ST: 8 bytes at G[A] + sext(IMM) = G[D] (R95). -/
def execSt (w : Who) (d a : Nat) (imm : BitVec 16) (s : State) : Host.Outcome State Fault Refusal :=
  docent (.st w d a imm) w [d, a] (fun s =>
    let ad := (s.thread w.c w.t w.n).addrB a imm
    if ad % 8 ≠ 0 then .fault fAlign else s.storeSram w ad (leBytes 8 (s.reg w d).toNat)) s

/-- R96: the special registers; any other index is ILLEGAL. -/
def Device.special (s : Device) (w : Who) (i : Nat) : Option Nat :=
  let b := 272 * w.c + w.t
  let ucnt := s.flag F.tileCtlUcnt b
  if i = 0 then some w.n
  else if i = 1 then some (s.fget F.tileIdLx b)
  else if i = 2 then some (s.fget F.tileIdLy b)
  else if i = 3 then some w.c
  else if i = 4 then some s.self
  else if i = 5 then some s.frame
  else if i = 6 then some s.phase
  else if i = 7 then some (if ucnt then s.cycles w.c else 0)
  else if i = 8 then some (s.thread w.c w.t w.n).epc
  else if 16 ≤ i ∧ i < 24 then some (if ucnt then s.fget F.tilePmcCount b (i - 16) else 0)
  else none

/-- SPR: G[D] = special register IMM[7:0]; A and IMM[15:8] are zero (R94, R96). -/
def execSpr (w : Who) (d a : Nat) (imm : BitVec 16) (s : State) : Host.Outcome State Fault Refusal :=
  docent (.spr w d a imm) w [d, a] (fun s =>
    legalIf (a == 0 && decide (imm.toNat < 256))
      (match s.special w imm.toNat with
       | some v => .done (s.setReg w d (BitVec.ofNat 64 v))
       | none => .fault fIllegal)) s

/-- BEQ, BNE, BLT, BGE: to PC + 4 × sext(OFF) when the condition holds (R95). -/
def branch (i : Instr) (w : Who) (a b : Nat) (off : BitVec 16) (cond : Word → Word → Bool) (s : State) :
    Host.Outcome State Fault Refusal :=
  docent i w [a, b] (fun s =>
    .done (if cond (s.reg w a) (s.reg w b) then
        s.jump w (unsigned 64 ((s.pcNow w : Int) + 4 * off.toInt)) else s)) s

def execBeq (w : Who) (a b : Nat) (off : BitVec 16) := branch (.beq w a b off) w a b off (fun x y => x == y)
def execBne (w : Who) (a b : Nat) (off : BitVec 16) := branch (.bne w a b off) w a b off (fun x y => x != y)
def execBlt (w : Who) (a b : Nat) (off : BitVec 16) := branch (.blt w a b off) w a b off (fun x y => x.slt y)
def execBge (w : Who) (a b : Nat) (off : BitVec 16) := branch (.bge w a b off) w a b off (fun x y => !x.slt y)

/-- JAL: G31 = PC + 4; PC = PC + 4 × sext(OFF26) (R95). -/
def execJal (w : Who) (off : BitVec 26) (s : State) : Host.Outcome State Fault Refusal :=
  docent (.jal w off) w [] (fun s =>
    .done ((s.setReg w 31 (BitVec.ofNat 64 (s.pcNow w + 4))).jump w
      (unsigned 64 ((s.pcNow w : Int) + 4 * off.toInt)))) s

/-- JR: G[D] = PC + 4; PC = G[A] + sext(IMM), a multiple of 4. A target equal to EPC ends the sampling handler
(R95, R140). -/
def execJr (w : Who) (d a : Nat) (imm : BitVec 16) (s : State) : Host.Outcome State Fault Refusal :=
  docent (.jr w d a imm) w [d, a] (fun s =>
    let target := (s.thread w.c w.t w.n).addrB a imm
    if target % 4 ≠ 0 then .fault fAlign
    else
      .done (((s.setReg w d (BitVec.ofNat 64 (s.pcNow w + 4))).jump w target).modThread w.c w.t w.n
        (fun th => { th with inHandler := th.inHandler && th.epc != target }))) s

end Sys2Proof.Machine
end

