-- ==== Sys2Proof/Machine/Startup.lean ====
section
/-! DEFINITION. Power, reset and start-up (R31–R42, R225, R240, R255, R427, R448–R451, R465–R469, R509–R516), and laser cartridges
that are opened or inserted (R23, R24). Start-up runs its steps one after another over what the environment decides
(`BootIn`); each step acts only when the one before it has ended. -/

namespace Sys2Proof.Machine

/-! ## Power down and reset -/

/-- What the Ledger's flash summary keeps (R500): the ALARM log, the totals of each start-up that recorded something, the wear since
manufacture. (DEDUCED, log entry 129) -/
def Ledger.kept (l : Ledger) : Ledger :=
  { flashLog := l.flashLog, wearEver := l.wearEver, pastTotals := if l.totals.isEmpty then l.pastTotals else l.pastTotals ++ [l.totals] }

/-- The device with every rail off or every domain held in reset (R397, R450, R509): registers and memories return to their reset
values; the flash, the rows that wait for hard repair, a rail's lost phases (R424), and what the standby controller and the annex keep, stay.
(DESIGN CHOICE, log entries 10 and 139; DEDUCED, log entries 73 and 74) -/
def Device.powerDown (s : Device) : Device :=
  let s := s.flashStop
  let b := s.boot
  { free := s.free, out := s.out, led := s.led.kept, mem := { softRows := s.mem.softRows }
    pwr := { derate := s.pwr.derate, phaseLoss := s.pwr.phaseLoss }
    boot := { flash := b.flash, i3cRefused := b.i3cRefused, pwrgd := b.pwrgd, resetLow := b.resetLow, cause := b.cause, lastCause := b.lastCause,
              shutdown := b.shutdown, tripped := b.tripped, floorSeen := b.floorSeen, starts := b.starts,
              bootCount := b.bootCount, takeovers := b.takeovers } }

/-- Reset causes (R490). -/
def rcPowerOn : Nat := 0
def rcModRst : Nat := 1
def rcThermal : Nat := 2
def rcInputLoss : Nat := 3

/-- The standby controller registers a reset cause; the first one stands (R515). (DEDUCED, log entry 88) -/
def Device.registerCause (s : Device) (c : Nat) : Device := s.modBoot (fun b => { b with cause := some (b.cause.getD c) })

/-! ## Failure and progress (R449, R475) -/

def Device.bootStep (s : Device) : Nat := s.fget F.curBootStep

/-- Failure codes (R475). -/
def fcNoCatalogue : Nat := 1
def fcCores : Nat := 2
def fcStrap : Nat := 3
def fcDieTraining : Nat := 4
def fcMemory : Nat := 5
def fcComb : Nat := 6
def fcSelfTest : Nat := 7
def fcFabric : Nat := 8
def fcTickTree : Nat := 9
def fcStepTimeout : Nat := 10

/-- R449: start-up fails: the step and the code, an ALARM, the code on the UART; the cartridges stay dark and the bypass
elements closed. A cartridge that served shows STANDBY. (DESIGN CHOICE, log entry 133) -/
def Device.bootFail (s : Device) (code : Nat) : Device :=
  let step := s.bootStep
  let s := ((s.fset F.curBootFailStep 0 0 step).fset F.curBootFailCode 0 0 code).fset F.curBootStep 0 0 stFailed
  let s := ((s.modBoot (fun b => { b with lasersOn := false })).closeBypass).emit (.uart code)
  let s := (List.range 4).foldl (fun s q =>
    (List.range 2).foldl (fun s k => if s.fget F.plnLaserState q k = lsActive then s.fset F.plnLaserState q k lsStandby else s)
      (s.fset F.plnStatusSource q 0 0)) s
  s.note { kind := kCur, prio := 0, cls := 6, cause := 4 * 256 + code, unit := step }

/-- Step k ends: the next one begins. -/
def Device.nextStep (s : Device) : Device := s.fset F.curBootStep 0 0 (s.bootStep + 1)

/-- Run step k if start-up has come to it and it ends within its limit. (DESIGN CHOICE, log entry 1) -/
def Device.atStep (s : Device) (b : BootIn) (k : Nat) (f : Device → Device) : Device :=
  if s.bootStep = k ∧ b.overrun ≠ some k then f s else s

/-- A step ends well, or start-up fails with a code. -/
def Device.endStep (s : Device) (bad : Option Nat) : Device :=
  match bad with
  | some code => s.bootFail code
  | none => s.nextStep

/-! ## Step 0: straps and cores (R31, R36, R449, R468) -/

/-- The sampled value of a strap, if the 16 samples agree. (DEDUCED, log entry 78) -/
def sampled (l : List Nat) : Option Nat :=
  match l with
  | [] => none
  | x :: xs => if xs.all (· == x) && l.length == 16 then some x else none

/-- EDGE_MAP of a strap code (R33). -/
def edgeMapOf (code : Nat) : Nat := if code = 0 then 0xE4 else if code = 1 then 0x6C else if code = 2 then 0x4E else 0xC6

/-- The code that arrives at tile q from tile r: what r sampled, as the link between them delivers it (R36). A tile whose own samples
disagree sends 0. (DESIGN CHOICE, log entry 78) -/
def codeFrom (b : BootIn) (r mask : Nat) : Nat := (sampled (b.straps.getD r [])).getD 0 ^^^ mask

/-- STATUS of a quadrant tile (R36, R45). (DEDUCED, log entry 78) -/
def quadStatus (b : BootIn) (q : Nat) : Nat :=
  match sampled (b.straps.getD q []) with
  | none => 2
  | some v =>
    if (List.range 4).any (fun r => r != q && sampled (b.straps.getD r []) == some v) then 3
    else
      let m := b.linkCodes.getD q (0, 0)
      if codeFrom b (q ^^^ 1) m.1 ≠ v ^^^ 1 ∨ codeFrom b (q ^^^ 3) m.2 ≠ v ^^^ 3 then 4 else 1

/-- GLB_QUAD of a tile: placement and remap where the check passes (R29, R33, R45). A strap whose samples disagree shows
a free value. (DEDUCED, log entry 78) -/
def Device.bootQuad (s : Device) (b : BootIn) (q : Nat) : Device :=
  let st := quadStatus b q
  let s := ((s.fset F.glbQuadStatus 0 q st).fset F.glbQuadStepping 0 q (b.quadStep.getD q 0))
  match sampled (b.straps.getD q []) with
  | none =>
    let (w, s) := s.drawWord
    s.fset F.glbQuadStrap 0 q (w.toNat % 4)
  | some v =>
    let s := s.fset F.glbQuadStrap 0 q v
    if st = 1 then
      let s := (s.fset F.glbQuadPlace 0 q v).fset F.glbQuadEdgeMap 0 q (edgeMapOf v)
      (s.setFlag F.glbQuadRevNs 0 q (v == 1 || v == 2)).setFlag F.glbQuadRevEw 0 q (v == 2 || v == 3)
    else s

/-- The Curator cores (R449, R491): core 0 is active if it passes its self-test, otherwise core 1; the other stands by. -/
def Device.bootCores (s : Device) (b : BootIn) : Device :=
  let s := s.modCtl (fun c => { c with
    coreRuns := b.core0 || b.core1
    coresLost := (if b.core0 then [] else [0]) ++ (if b.core1 then [] else [1]) })
  (s.setFlag F.curStatusActive 0 0 (!b.core0 && b.core1)).setFlag F.curStatusStandbyOk 0 0 (b.core0 && b.core1)

/-- The identity (R468, R469): without it IDENT reads UNAVAILABLE and an EVENT is recorded. The tables of R498 give that EVENT no
code: its cause is a free value. (DESIGN CHOICE, log entry 76) -/
def Device.bootIdent (s : Device) (ok : Bool) : Device :=
  let s := (s.modBoot (fun x => { x with identOk := ok })).fset F.curCatIdent 0 0 (if ok then 0 else 2)
  if ok then s
  else
    let (w, s) := s.drawWord
    s.note { kind := kCur, prio := 2, cls := 1, cause := w.toNat % 2 ^ 16 }

/-- GLB_RESET (R490), and the report of a thermal shutdown (R397, R432): an ALARM that names the sensor, and the withdrawal
that the job saw, whose tick the spec does not give. (DEDUCED, log entry 89) -/
def Device.bootCause (s : Device) : Device :=
  let c := s.boot.cause.getD (if s.boot.tripped.isSome then rcThermal else rcPowerOn)
  let s := (s.fset F.glbResetCause 0 0 c).fset F.glbResetPrev 0 0 s.boot.lastCause
  let t := s.boot.tripped
  let s := s.modBoot (fun b => { b with cause := none, lastCause := c, tripped := none })
  match t with
  | none => s
  | some (n, r) =>
    let s := (s.fset F.glbResetSensor 0 0 n).fset F.glbResetReading 0 0 (unsigned 8 (r / 4))
    let (w, s) := s.drawWord
    let s := (((s.fset F.frmWithdrawCause 0 0 wThermal).setFlag F.frmWithdrawValid 0 0 true).fset F.frmWithdrawTick 0 0 w.toNat)
    s.note { kind := kThm, prio := 0, cls := 6, cause := 3 * 256 + wThermal, unit := n }

/-- Step 0 begins: the start-up is counted, its cause reported, a core runs. -/
def Device.bootBegin (s : Device) (b : BootIn) : Device :=
  let s := s.modBoot (fun x => { x with starts := min 0xFFFF (x.starts + 1), input := some b })
  let s := (s.fset F.curBootStarts 0 0 s.boot.starts).fset F.curStatusTakeovers 0 0 s.boot.takeovers
  ((s.showAlarms.bootCores b).bootCause.setFlag F.clkStatusRefOk 0 0 b.refOk).setFlag F.clkStatusRef 0 0 (!b.refOk)

/-- Step 0. -/
def Device.bootStep0 (s : Device) (b : BootIn) : Device :=
  let s := (List.range 4).foldl (fun s q => s.bootQuad b q) s
  let s := s.bootIdent b.pufOk
  s.endStep (if !b.core0 && !b.core1 then some fcCores
    else if (List.range 4).all (fun q => quadStatus b q == 1) then none else some fcStrap)

/-! ## Step 1: the Catalogue (R464–R466) -/

def fwOk (b : BootIn) (slot : Nat) : Bool := if slot = 0 then b.fwOkA else b.fwOkB

/-- Choose a slot by the results that stand, and start its firmware; while it has not reported, step 1 goes on. -/
def Device.takeSlot (s : Device) (b : BootIn) : Device :=
  match s.chooseSlot (s.fget F.curCatAResult) (s.fget F.curCatBResult) with
  | none => s.bootFail fcNoCatalogue
  | some k =>
    let s := (s.fset F.curCatSlot 0 0 k).fset F.curCatVersion 0 0 (s.catVersion k)
    if fwOk b k then ((s.setFlag F.curStatusFwRunning 0 0 true).applyCatalogue k).nextStep else s

/-- Step 1: both slots are verified, the floor recorded. -/
def Device.bootStep1 (s : Device) (b : BootIn) : Device :=
  let ra := s.verifySlot 0
  let rb := s.verifySlot 1
  let f := s.floorOf ra rb
  let r := s.flooredResults ra rb
  let s := s.modBoot (fun x => { x with floorSeen := max f x.floorSeen })
  let s := ((s.fset F.curCatAResult 0 0 r.1).fset F.curCatBResult 0 0 r.2).fset F.curCatFloor 0 0 f
  (s.fset F.curCatFloorSeen 0 0 s.boot.floorSeen).takeSlot b

/-! ## Step 2: dies and memory (R34, R38–R42, R240, R241, R250, R255, R256) -/

/-- A compute site: its strap must fit its slot, its die train and its BASE bit be set. (DEDUCED, log entry 78) -/
def Device.bootStackSite (s : Device) (b : BootIn) (c : Nat) : Device :=
  let rot := c % 4 / 2
  let v := sampled (b.strapStack.getD c [])
  let trained := b.siteTrained.getD c false
  let cap := b.siteCap.getD c 0
  let s := s.fset F.glbSiteKind 0 c 1
  let (w, s) := s.drawWord
  let s := s.fset F.glbSiteStrap 0 c (v.getD (w.toNat % 2))
  let s := if trained then (s.fset F.glbSiteStepping 0 c (b.siteStep.getD c 0)).fset F.glbSiteCap 0 c cap else s
  if v ≠ some rot then s.fset F.glbSiteStatus 0 c siStrap
  else
    let s := (s.fset F.glbSiteRot 0 c rot).fset F.glbSiteEdgeMap 0 c (if rot = 1 then 0x4E else 0xE4)
    s.fset F.glbSiteStatus 0 c (if trained && bit cap 0 then siInService else siNegFailed)

/-- A port site. -/
def Device.bootPortSite (s : Device) (b : BootIn) (p : Nat) : Device :=
  let t := 36 + p
  let trained := b.siteTrained.getD t false
  let cap := b.siteCap.getD t 0
  let s := (s.fset F.glbSiteKind 0 t 3).fset F.glbSiteEdgeMap 0 t (s.fget F.glbQuadEdgeMap 0 p)
  let s := if trained then (s.fset F.glbSiteStepping 0 t (b.siteStep.getD t 0)).fset F.glbSiteCap 0 t cap else s
  s.fset F.glbSiteStatus 0 t (if trained && bit cap 0 then siInService else siNegFailed)

/-- GLB_CAP.CAP (R39, R41): the intersection over the Plinth tiles and the compute and port dies in service. It is computed once, in step 2;
a die that leaves service later does not change it. (DEDUCED, log entry 79) -/
def Device.bootCap (s : Device) (b : BootIn) : Device :=
  let dies := ((List.range 40).filter (fun t => (t < 16 || 36 ≤ t) && s.siteIn t)).map (fun t => b.siteCap.getD t 0)
  s.fset F.glbCapCap 0 0 (((List.range 4).map (fun q => b.quadCap.getD q 0) ++ dies).foldl (· &&& ·) 3)

/-- An HBM4 stack: its 30 lowest passing channels serve, the rest stand by, failing ones are marked; rows soft-repaired before
are hard-repaired, each taking one repair of its channel (R240, R250).
(DESIGN CHOICE, log entry 19; DEDUCED, log entries 79 and 80) -/
def Device.bootHbm (s : Device) (b : BootIn) (m : Nat) : Device :=
  let pass := (List.range 32).filter (fun h => (b.hbmTrained.getD m []).getD h false)
  let serve := pass.take 30
  let s := (List.range 32).foldl (fun s h =>
    let hard := (s.mem.softRows.filter (fun r => r / 2 ^ 21 == chanNo m h)).length
    let s := s.fset F.memChanPprLeft m h ((b.hbmPpr.getD m []).getD h 0 - hard)
    match serve.findIdx? (· == h) with
    | some k => (s.fset F.memChanState m h chInService).fset F.memChanLogical m h k
    | none => s.fset F.memChanState m h (if pass.contains h then chSpare else chFailed)) s
  let t := b.hbmTemp.getD m 0
  let id := b.hbmId.getD m 0
  let s := ((s.wr .memId m 0 (id &&& 0x1FFF ||| 48 <<< 16 ||| id >>> 32 <<< 32)).fset F.memTempMax m 0 (unsigned 8 t)).hbmTemp m t
  let s := ((s.fset F.memStatusState m 0 (if serve.isEmpty then 3 else 2)).fset F.memStatusInSvc m 0 serve.length).fset
    F.memStatusSpares m 0 (pass.length - serve.length)
  (s.fset F.glbSiteKind 0 (16 + m) 2).fset F.glbSiteStatus 0 (16 + m) (if serve.isEmpty then siNegFailed else siInService)

/-- The channels in service in the order of R241: rounds k, in each the k-th of every stack that has one. -/
def Device.channelRounds (s : Device) : List (Nat × Nat) :=
  (List.range 30).flatMap (fun k => (List.range 20).filterMap (fun m =>
    ((List.range 32).find? (fun h =>
      s.fget F.memChanState m h == chInService && s.fget F.memChanLogical m h == k)).map (fun h => (m, h))))

/-- The channel map table's active half, and N. -/
def Device.bootCmt (s : Device) : Device :=
  let l := s.channelRounds
  let s := (List.range l.length).foldl (fun s j =>
    let e := l.getD j (0, 0)
    ((s.fset F.memCmtStack 0 j e.1).fset F.memCmtChannel 0 j e.2).setFlag F.memCmtValid 0 j true) s
  s.setCmt F.memCmtCtlNn l.length

/-- What R254 supports. -/
def spdOk (d : Spd) : Bool :=
  d.supported && [32, 48, 64, 96, 128, 256].contains d.capGB && (d.ranks == 1 || d.ranks == 2) && [1, 2, 4].contains d.height3ds &&
    decide (4800 ≤ d.rateMax)

/-- DIMMs are identical (R255). -/
def sameDimm (d e : Spd) : Bool :=
  d.capGB == e.capGB && d.ranks == e.ranks && d.x8 == e.x8 && d.density == e.density && d.height3ds == e.height3ds

def dimmIn (b : BootIn) (k : Nat) : Option Spd := (b.dimm.getD k none)

/-- The slots that are fitted are those of population A or B. -/
def slotsOk (b : BootIn) : Bool :=
  let fitted := (List.range 8).filter (fun k => (dimmIn b k).isSome)
  fitted == List.range 8 || fitted == [0, 2, 4, 6]

/-- PRT_DDR_STATUS.STATE of a slot (R255, R275). In a wrong set of slots the fitted slots that only population A fills offend, and an empty
one of population B. (DEDUCED, log entry 81) -/
def dimmState (b : BootIn) (k : Nat) : Nat :=
  match dimmIn b k with
  | none => 0
  | some d =>
    if !spdOk d || !((dimmIn b 0).any (sameDimm d)) || (!slotsOk b && k % 2 == 1) then 3
    else if b.dimmTrained.getD k false then 2 else 4

/-- Populations A and B. (DEDUCED, log entry 81) -/
def populationOk (b : BootIn) : Bool := slotsOk b && (List.range 8).all (fun k => dimmState b k == 0 || dimmState b k == 2)

/-- RATE (R256): 2 for 6,400, 1 for 5,600, 0 for 4,800 MT/s, the highest that every DIMM supports. -/
def rateCode (b : BootIn) : Nat :=
  let r := (b.dimm.filterMap (fun d => d.map Spd.rateMax)).foldl min 6400
  if 6400 ≤ r then 2 else if 5600 ≤ r then 1 else 0

def Device.bootDimm (s : Device) (b : BootIn) (k : Nat) : Device :=
  let p := k / 2
  let i := k % 2
  let s := s.fset F.prtDdrStatusState p i (dimmState b k)
  match dimmIn b k with
  | none => s
  | some d =>
    let s := ((s.fset F.prtDdrStatusRate p i (rateCode b)).fset F.prtDdrStatusCapGb p i d.capGB).fset F.prtDdrStatusRanks p i (d.ranks - 1)
    ((s.setFlag F.prtDdrStatusX8 p i d.x8).fset F.prtDdrStatusHeight3ds p i d.height3ds).fset F.prtDdrStatusTemp p i
      (unsigned 8 d.temp)

/-- Step 2. -/
def Device.bootStep2 (s : Device) (b : BootIn) : Device :=
  let s := (List.range 16).foldl (fun s c => s.bootStackSite b c) s
  let s := ((List.range 4).foldl (fun s p => s.bootPortSite b p) s).bootCap b
  if !((List.range 16).any s.siteIn && (List.range 4).any (fun p => s.siteIn (36 + p))) then s.bootFail fcDieTraining
  else
    let s := (List.range 20).foldl (fun s m => s.bootHbm b m) s
    let repaired := (s.mem.softRows.map (· / 2 ^ 21)).eraseDups
    let s := (s.modMem (fun x => { x with softRows := [] })).bootCmt
    let s := repaired.foldl (fun s ch => if s.fget F.memChanPprLeft (ch / 32) (ch % 32) = 0 then s.degrade (ch / 32) (ch % 32) else s) s
    let s := (List.range 8).foldl (fun s k => s.bootDimm b k) s
    s.endStep (if !populationOk b || s.nAll == 0 || decide (s.dimmSpace < s.dimmReserved []) then some fcMemory else none)

/-! ## Step 3: the comb (R225) -/

/-- A cartridge slot as step 3 finds it: as start-up began, or as a latch or an insertion has left it since (R23, R24). -/
def Device.laserNow (s : Device) (b : BootIn) (lu : Nat) : LaserIn :=
  match s.boot.carts.find? (fun e => e.1 == lu) with
  | some e => e.2
  | none => b.lasers.getD lu ⟨false, false, false, 0⟩

/-- A cartridge passes its self-check; an open latch counts as a failed one (R23). -/
def laserOk (x : LaserIn) : Bool := x.seated && !x.latch && x.ok

/-- PLN_LASER of a cartridge. ON_HOURS is read from it here only: at step 3 and at its insertion (R230). (DESIGN CHOICE, log entry 133) -/
def Device.showLaser (s : Device) (lu : Nat) (x : LaserIn) : Device :=
  let q := lu / 2
  let k := lu % 2
  let s := s.fset F.plnLaserState q k (if !x.seated then lsAbsent else if laserOk x then lsStandby else lsFailed)
  ((s.setFlag F.plnLaserLatch q k x.latch).setFlag F.plnLaserSeated q k x.seated).fset F.plnLaserOnHours q k x.hours

/-- Step 3 is reached: the seated cartridges are in their self-check (R230). -/
def Device.bootSelfCheck (s : Device) (b : BootIn) : Device :=
  if s.bootStep ≠ 3 then s
  else
    (List.range 8).foldl (fun s lu =>
      if (s.laserNow b lu).seated then s.fset F.plnLaserState (lu / 2) (lu % 2) lsSelfCheck else s) s

/-- A quadrant's cartridges: LU(2q) is active if it passes, otherwise LU(2q + 1). -/
def Device.bootQuadComb (s : Device) (b : BootIn) (q : Nat) : Device :=
  let x := s.laserNow b (2 * q)
  let y := s.laserNow b (2 * q + 1)
  let s := (s.showLaser (2 * q) x).showLaser (2 * q + 1) y
  if laserOk x then (s.fset F.plnLaserState q 0 lsActive).fset F.plnStatusSource q 0 1
  else if laserOk y then (s.fset F.plnLaserState q 1 lsActive).fset F.plnStatusSource q 0 2
  else s

/-- A ring that fails to acquire is deaccessioned; each of its `n` failed identity checks is counted (R219). -/
def Device.bootRing (s : Device) (t b r n : Nat) : Device :=
  if t < 40 ∧ b < 224 ∧ r < 8 ∧ passes b t then
    if (s.ring t b r).state = rDeacc then s
    else
      ((s.setRing t b r { state := rDeacc }).finc F.plnSiteRingsDeacc (siteQuad t) (siteLocal t) 1).fsat F.plnErrWrongId (siteQuad t) 0
        (min 2 n)
  else s

/-- The calibration pass of a line, where its windows are plausible (R214, R225). -/
def Device.bootPass (s : Device) (b l : Nat) (trials : List (List Nat)) : Device :=
  if b < 224 ∧ l < 64 ∧ s.trialsOk b trials then s.passLine b l trials else s

/-- Lines that fail their pass on every bus of a quadrant are counted (R222, R229). (DEDUCED, log entry 85) -/
def Device.bootLinesDeacc (s : Device) (q : Nat) : Device :=
  s.fset F.plnStatusLinesDeacc q 0 ((List.range 64).filter (fun l => s.combDead q l)).length

/-- The Plinth's published capacities, its calibration passes and its rings. -/
def Device.bootOptics (s : Device) (b : BootIn) : Device :=
  let s := s.modPln (fun p => { p with passBase := s.now })
  let s := b.rxBad.foldl (fun s e => if e.1 < 40 ∧ e.2 < 4 then s.loseReceiver e.1 e.2 else s) s
  let s := b.lineCal.foldl (fun s e => s.bootPass e.1 e.2.1 e.2.2) s
  let s := (List.range 224).foldl (fun s i => (s.fset F.plnBusTxGroups (busQuad i) (busLocal i) 12).publishBus i) s
  let s := (List.range 40).foldl (fun s t => s.publishSite t) s
  let s := (List.range 4).foldl (fun s q => s.setFlag F.plnStatusReady q 0 true) s
  let s := b.lineBad.foldl (fun s e => if e.1 < 224 ∧ e.2 < 64 then s.killLine e.1 e.2 else s) s
  let s := b.ringBad.foldl (fun s e => s.bootRing e.1 e.2.1 e.2.2.1 e.2.2.2) s
  let s := (List.range 4).foldl (fun s q => s.bootLinesDeacc q) s
  s.modPln (fun p => { p with passed := (List.range 224).map (fun i => lineKey i (s.calLineOf i)) })

/-- Step 3: a quadrant whose cartridges both fail stays dark, and start-up fails. -/
def Device.bootStep3 (s : Device) (b : BootIn) : Device :=
  let s := (List.range 4).foldl (fun s q => s.bootQuadComb b q) s
  if (List.range 4).any (fun q => s.fget F.plnStatusSource q == 0) then s.bootFail fcComb
  else ((s.modBoot (fun x => { x with lasersOn := true })).bootOptics b).nextStep

/-! ## Step 4: crossings and self-test (R128, R129, R355, R427) -/

/-- A crossing is aligned, or fails and leaves its die unaccessioned. (DEDUCED, log entry 83) -/
def Device.bootCrossing (s : Device) (b : BootIn) (x : Nat) : Device :=
  if b.crossBad.contains x then
    let s := s.fset F.clkXingState 0 x 3
    if x < 16 then (if s.siteIn x then s.fset F.glbSiteStatus 0 x siDeacc else s)
    else if x < 20 then (if s.siteIn (20 + x) then s.fset F.glbSiteStatus 0 (20 + x) siDeacc else s)
    else s
  else s.aligned x

/-- A failing lane of a group takes a spare lane; a fifth exhausts the group (R427): a stack-to-Plinth group leaves service, and a
stack without control groups is not accessioned; tiles are replaced below. -/
def Device.bootLane (s : Device) (c g l : Nat) : Device :=
  let n := (s.die c).lost.get 0 g + 1
  let s := s.takeOut c g l
  if n ≤ 4 then s.useSpare 3
  else if n ≠ 5 then s
  else
    let s := s.note { kind := kCmp, index := c, prio := 1, cls := 3, cause := 5, unit := g }
    if g < gSram then s.dropGroup c g else s

/-- A lane swept in the self-test: it samples at its window's centre, or fails (R426, R427). -/
def Device.bootSweep (s : Device) (c g l sweep : Nat) : Device :=
  if 16 ≤ c ∨ 4552 ≤ g ∨ 68 ≤ l ∨ s.laneOut c g l then s
  else if sweepOk sweep then s.setVDelay c g l sweep
  else s.bootLane c g l

/-- A tile fails its self-test: one of its groups is exhausted. -/
def Device.tileBad (s : Device) (c t : Nat) : Bool :=
  (List.range 16).any (fun i => decide (5 ≤ (s.die c).lost.get 0 (gSram + 16 * t + i)))

/-- The positions of a stack without replacements: columns 0–15 in service at their logical coordinates, column 16 spare. -/
def Device.bootTile (s : Device) (c t : Nat) : Device :=
  match s.logicalOf c t with
  | some (x, y) =>
    let b := 272 * c + t
    ((s.fset F.tileIdLx b 0 x).fset F.tileIdLy b 0 y).fset F.tileIdState b 0 tsInService
  | none => s

/-- A row of a stack: its spare is tested; a failing tile is replaced by it; a second one, or one whose spare failed, leaves the
stack unaccessioned (R129). -/
def Device.bootRow (s : Device) (c row : Nat) : Device :=
  let sp := 17 * row + 16
  let ok := !s.tileBad c sp
  let s := s.setFlag F.cmpSpareSpareOk c row ok
  let s := if ok then s else s.fset F.tileIdState (272 * c + sp) 0 tsFailedAtTest
  (List.range 16).foldl (fun s f =>
    if !s.tileBad c (17 * row + f) || (s.die c).isolated then s
    else if s.rowRepairable c row then s.replaceTile c row f tsFailedAtTest
    else
      let p := 272 * c + 17 * row + f
      (((s.fset F.tileIdState p 0 tsFailedAtTest).fset F.tileIdLx p 0 0).fset F.tileIdLy p 0 0).retireStack c) s

/-- A stack that trained and whose crossing is aligned: its tiles and its clock domain. One not accessioned is isolated.
(DEDUCED, log entry 83) -/
def Device.bootStack (s : Device) (c : Nat) : Device :=
  let s :=
    if s.siteIn c then
      let s := (List.range 272).foldl (fun s t => s.bootTile c t) s
      (List.range 16).foldl (fun s r => s.bootRow c r) s
    else s
  if s.siteIn c then ((s.setFlag F.clkDomLocked 0 c true).setStep c (s.domStep c)).showDom c
  else (s.modDie c (fun y => { y with isolated := true })).fset F.clkDomState 0 c cdIsolated

/-- Step 4. -/
def Device.bootStep4 (s : Device) (b : BootIn) : Device :=
  let s := (List.range 24).foldl (fun s x => s.bootCrossing b x) s
  let s := b.laneSweeps.foldl (fun s e => s.bootSweep e.1 e.2.1 e.2.2.1 e.2.2.2) s
  let s := (List.range 16).foldl (fun s c => s.bootStack c) s
  let s := ((s.setFlag F.clkDomLocked 0 16 true).fset F.clkDomMhz 0 16 1000).setFlag F.clkDomLocked 0 17 true
  let s := s.fset F.clkDomMhz 0 17 500
  s.endStep (if (List.range 16).any s.siteIn then none else some fcSelfTest)

/-! ## Step 5 and Ready (R278, R285, R301, R451) -/

/-- A lane of a port die in service trains: a ring lane on its test path first, and again to its neighbour once its element is open
(Device.bootBypass). A ring lane that does not come up is FAILED on the device (R278, R285).
(DEDUCED, log entry 84) -/
def Device.bootLaneUp (s : Device) (b : BootIn) (z : Nat) : Device :=
  if s.laneRole z = 3 then s
  else if !s.siteIn (36 + z / 16) then s.setLane z lFailed
  else if b.lanesUp.contains z then
    let s := (s.setLevel z true).laneCount F.prtLaneRetrains z 1
    let s := s.laneSet F.prtLanePeer z (if s.laneRole z = rSwitch then 0x3FF else b.peers.getD z 0)
    let s := if s.laneRole z = rRing then s.modFab (fun f => { f with peerPos := f.peerPos.set 0 z (b.ringPos.getD z 0 + 1) }) else s
    (s.setDelay z (b.delays.getD z 0)).setLane z lUp
  else if s.laneRole z = rRing then s.setLane z lFailed
  else s

/-- Bypass element k opens where all ring ports have trained and both its lanes came up; otherwise both are FAILED (R285).
(DEDUCED, log entry 84) -/
def Device.bootBypass (s : Device) (k : Nat) : Device :=
  if s.mayOpen k then
    let s := (s.emit (.quiesce k)).modFab (fun f => { f with bypassOpen := f.bypassOpen ++ [k] })
    (s.laneCount F.prtLaneRetrains (westLane k) 1).laneCount F.prtLaneRetrains (eastLane k) 1
  else [westLane k, eastLane k].foldl (fun s z => (s.setLane z lFailed).setLevel z false) s

/-- Ready (R451). (DEDUCED, log entry 77) -/
def Device.bootReady (s : Device) (b : BootIn) : Device :=
  let s := (s.fset F.curBootStep 0 0 stReady).fset F.curBootReadyMs 0 0 (min 0xFFFF b.readyMs)
  (((s.setFlag F.glbStatusReady 0 0 true).fset F.frmStateJob 0 0 jNone).modBoot (fun x => { x with bootCount := x.bootCount + 1 })).showAlarms

/-- Step 5 has done its work: it ends once IDENT has left PENDING (R468). (DEDUCED, log entry 86) -/
def Device.bootEnd (s : Device) (b : BootIn) : Device := if s.fget F.curCatIdent = 0 then s else s.bootReady b

/-- Step 5. -/
def Device.bootStep5 (s : Device) (b : BootIn) : Device :=
  let s := (List.range 64).foldl (fun s z => s.bootLaneUp b z) s
  let s := (List.range 8).foldl (fun s k => s.bootBypass k) s
  let s := ((List.range 4).foldl (fun s p => (s.fset F.prtLaneState p 16 lSpare)) s).publishLanes
  if (List.range 64).all (fun z => s.laneState z != lUp) then s.bootFail fcFabric
  else if !b.tickTreeOk then s.bootFail fcTickTree
  else (if s.flag F.prtStatusMaster then s.setPorts F.prtTickState tkLocked else s).bootEnd b

/-! ## The sequence (R448) -/

/-- From step 2 on. -/
def Device.bootOn (s : Device) (b : BootIn) : Device :=
  let s := s.atStep b 2 (fun s => s.bootStep2 b)
  let s := (s.bootSelfCheck b).atStep b 3 (fun s => s.bootStep3 b)
  let s := s.atStep b 4 (fun s => s.bootStep4 b)
  s.atStep b 5 (fun s => s.bootStep5 b)

/-- Start-up from step 0, its time counted from here. -/
def Device.startUp (s : Device) (b : BootIn) : Device :=
  let s := ({ s with now := 0 }.bootBegin b).atStep b 0 (fun s => s.bootStep0 b)
  (s.atStep b 1 (fun s => s.bootStep1 b)).bootOn b

/-- POWER_GOOD (R514): the line is first read high; with MOD_RST_N low, step 0 waits for its release. While the thermal latch
is set the power sequencer never releases the line (R397, R511). -/
def Device.powerGood (s : Device) (b : BootIn) : Device :=
  if s.boot.pwrgd || s.boot.shutdown.isSome then s
  else
    let s := s.modBoot (fun x => { x with pwrgd := true })
    if s.boot.resetLow then s else s.startUp b

def execPowerGood (b : BootIn) (s : State) : Host.Outcome State Fault Refusal := onDevice (fun s => s.powerGood b) s

/-- FIRMWARE_TIMEOUT (R466): the slot is marked FIRMWARE, and another is chosen. (DEDUCED, log entry 82) -/
def Device.firmwareTimeout (s : Device) : Device :=
  match s.boot.input with
  | none => s
  | some b =>
    if s.bootStep ≠ 1 ∨ b.overrun = some 1 then s
    else
      let f := if s.fget F.curCatSlot = 0 then F.curCatAResult else F.curCatBResult
      (((s.fset f 0 0 resFirmware).setFlag F.curCatFallback 0 0 true).takeSlot b).bootOn b

def execFirmwareTimeout (s : State) : Host.Outcome State Fault Refusal := onDevice Device.firmwareTimeout s

/-- START_UP_STEP_TIMEOUT (R449): a step of the start-up under way exceeds its limit. (DESIGN CHOICE, log entry 5) -/
def execStartUpStepTimeout (s : State) : Host.Outcome State Fault Refusal :=
  onDevice (fun s => if s.boot.input.isSome && decide (s.bootStep ≤ 5) then s.bootFail fcStepTimeout else s) s

/-- Step 5 waits only for the identity keys. -/
def Device.waitsForKeys (s : Device) (b : BootIn) : Bool :=
  s.bootStep == 5 && b.overrun != some 5

/-- IDENTITY_KEYS_READY (R468, R470): IDENT leaves PENDING, requests that waited are answered, and a start-up that has done
the rest of step 5 is Ready. -/
def Device.keysReady (s : Device) : Device :=
  match s.boot.input with
  | none => s
  | some b =>
    if s.fget F.curCatIdent ≠ 0 ∨ s.bootStep = stFailed then s
    else
      let s := (s.fset F.curCatIdent 0 0 1).wr .curIdent 0 0 deviceId
      let ms := s.boot.attestWaiting
      let s := ms.foldl (fun s m => s.attest m) (s.modBoot (fun x => { x with attestWaiting := [] }))
      if s.waitsForKeys b then s.bootReady b else s

def execIdentityKeysReady (s : State) : Host.Outcome State Fault Refusal := onDevice Device.keysReady s

/-! ## Reset and input (R450, R509, R511, R515) -/

/-- MOD_RST_N_ASSERT of a low level that lasts `lowNs`: one below 1 µs is ignored, one of 10 µs or more an assertion, one between
either of the two (a free choice). (DEDUCED, log entry 88) -/
def Device.resetAssert (s : Device) (lowNs : Nat) : Device :=
  let (w, s) := s.drawWord
  if lowNs < 1000 || (lowNs < 10000 && w.toNat % 2 == 0) then s
  else
    let s := if s.boot.pwrgd then s.registerCause rcModRst else s
    (s.modBoot (fun b => { b with resetLow := true })).powerDown

def execModRstNAssert (lowNs : Nat) (s : State) : Host.Outcome State Fault Refusal := onDevice (fun s => s.resetAssert lowNs) s

/-- MOD_RST_N_RELEASE (R450, R514). -/
def Device.resetRelease (s : Device) (b : BootIn) : Device :=
  if !s.boot.resetLow then s
  else
    let s := s.modBoot (fun x => { x with resetLow := false })
    if s.boot.pwrgd then s.startUp b else s

def execModRstNRelease (b : BootIn) (s : State) : Host.Outcome State Fault Refusal := onDevice (fun s => s.resetRelease b) s

/-- INPUT_LOSS (R509): registered as a cause where the device was ready. (DEDUCED, log entry 88) -/
def Device.inputLoss (s : Device) : Device :=
  let s := if s.flag F.glbStatusReady then s.registerCause rcInputLoss else s
  (s.modBoot (fun b => { b with pwrgd := false })).powerDown

def execInputLoss (s : State) : Host.Outcome State Fault Refusal := onDevice Device.inputLoss s

/-- POWER_UP (R397, R511): `lowMs` is how long the input had stayed below its range. A set thermal latch stops it unless that
was at least 1 s, which clears it. Counts since power-up begin anew, and a derating ends (R424). -/
def Device.powerUp (s : Device) (lowMs : Nat) : Device :=
  if s.boot.pwrgd || (s.boot.shutdown.isSome && decide (lowMs < 1000)) then s
  else (s.modPwr (fun p => { p with derate := none, phaseLoss := [] })).modBoot (fun b => { b with
    tripped := if b.shutdown.isSome then b.shutdown else b.tripped, shutdown := none, starts := 0, takeovers := 0 })

def execPowerUp (inputLowMs : Nat) (s : State) : Host.Outcome State Fault Refusal := onDevice (fun s => s.powerUp inputLowMs) s

/-! ## Cartridges (R23–R25) -/

/-- Before step 3 has run, it will find a slot as it stands now (R23). -/
def Device.findCart (s : Device) (lu : Nat) (x : LaserIn) : Device :=
  if s.boot.input.isSome && decide (s.bootStep ≤ 3) then
    s.modBoot (fun b => { b with carts := (lu, x) :: b.carts.filter (fun e => e.1 != lu) })
  else s

/-- An open latch shows and is an EVENT; a cartridge that leaves is ABSENT. -/
def Device.showLatch (s : Device) (lu : Nat) (leaves : Bool) : Device :=
  let q := lu / 2
  let k := lu % 2
  let s := if s.flag F.plnLaserLatch q k then s
    else (s.setFlag F.plnLaserLatch q k true).note { kind := kPln, index := q, prio := 2, cls := 1, cause := 9, unit := lu }
  if leaves then (s.fset F.plnLaserState q k lsAbsent).setFlag F.plnLaserSeated q k false else s

/-- A cartridge leaves while its quadrant switches: the standby takes the switch with it, and the old cartridge, if it is still there,
serves on; with neither left the comb is lost (R25). (DESIGN CHOICE, log entry 134) -/
def Device.leavesSwitch (s : Device) (q k : Nat) : Device :=
  if k = s.activeCart q then s
  else if s.fget F.plnLaserState q (s.activeCart q) = lsAbsent then s.combLost q
  else s.dropSwitch q

/-- CARTRIDGE_LATCH_OPEN: an EVENT; the quadrant of an active cartridge moves to its spare (R23). `leaves`: the optical coupling is lost, and
an active cartridge without a spare takes the quadrant's comb with it (R25). (DEDUCED, log entry 87) -/
def Device.latchOpen (s : Device) (lu : Nat) (leaves : Bool) : Device :=
  let q := lu / 2
  let s := (s.findCart lu ⟨!leaves, true, false, 0⟩).showLatch lu leaves
  if s.fget F.plnStatusSource q ≠ 0 ∧ s.flag F.plnStatusSwitching q then (if leaves then s.leavesSwitch q (lu % 2) else s)
  else if s.fget F.plnStatusSource q ≠ lu % 2 + 1 then s
  else if s.canSwitch q then s.startSwitch q
  else if leaves then s.combLost q
  else s

def execCartridgeLatchOpen (lu : Nat) (s : State) (leaves : Bool := false) : Host.Outcome State Fault Refusal :=
  onUnits (decide (lu < 8)) (fun s => s.latchOpen lu leaves) s

/-- CARTRIDGE_INSERTED under power: after its self-check it is the quadrant's spare; it never displaces an active one (R24). What the slot
showed of the cartridge before is gone (R230). -/
def Device.cartInserted (s : Device) (lu : Nat) (ok : Bool) (hours : Nat) : Device :=
  let q := lu / 2
  let k := lu % 2
  let x : LaserIn := ⟨true, false, ok, hours⟩
  if s.fget F.plnLaserState q k = lsActive ∧ s.flag F.plnLaserSeated q k then s
  else
    let s := s.modPln (fun p => { p with low := p.low.filter (fun i => i / 64 != lu) })
    (((s.findCart lu x).fset F.plnLaserPwrDrop q k 0).fset F.plnLaserLinesLow q k 0).fset F.plnLaserTonesBad q k 0 |>.showLaser lu x

def execCartridgeInserted (lu : Nat) (selfCheck : Bool) (onHours : Nat) (s : State) : Host.Outcome State Fault Refusal :=
  onUnits (decide (lu < 8)) (fun s => s.cartInserted lu selfCheck onHours) s

end Sys2Proof.Machine
end

