-- ==== Sys2Proof/Machine/Sync.lean ====
section
/-! DEFINITION. The synchronisation instructions (R95, R330, R331). -/

namespace Sys2Proof.Machine

/-- The issuing thread enters a wait. -/
def Device.enter (s : Device) (w : Who) (st : TState) (wait : Wait) : Device :=
  s.modThread w.c w.t w.n (fun th => { th with st := st, wait := wait })

/-- FENCE (R330): over at once when its conditions hold; the read cache is invalidated when it completes
(R342). SRAM writes of the model are visible at once. -/
def execFence (w : Who) (d a : Nat) (imm : BitVec 16) (s : State) : Host.Outcome State Fault Refusal :=
  docent (.fence w d a imm) w [d, a] (fun s =>
    legalIf (d == 0 && a == 0 && imm == 0)
      (.done ((s.enter w .waitSync .fence).wakeFences w.c w.t))) s

/-- TCWAIT: until TC[IMM[3:0]] ≥ G[A][31:0]; D = 0. -/
def execTcwait (w : Who) (d a : Nat) (imm : BitVec 16) (s : State) : Host.Outcome State Fault Refusal :=
  docent (.tcwait w d a imm) w [d, a] (fun s =>
    legalIf (d == 0 && decide (imm.toNat < 16))
      (.done ((s.enter w .waitCount (.tc imm.toNat ((s.reg w a).toNat % 2 ^ 32))).modTile w.c w.t Tile.wake))) s

/-- CCWAIT: until completion counter G[A] reaches G[D][31:0]; a counter above 16,383 is a RANGE fault. -/
def execCcwait (w : Who) (d a : Nat) (imm : BitVec 16) (s : State) : Host.Outcome State Fault Refusal :=
  docent (.ccwait w d a imm) w [d, a] (fun s =>
    legalIf (imm == 0)
      (if 16383 < (s.reg w a).toNat then .fault fRange
       else .done ((s.enter w .waitCount (.cc (s.reg w a).toNat ((s.reg w d).toNat % 2 ^ 32))).wakeCc))) s

/-- TBAR: the barrier of the threads in mask IMM[7:0], which names the issuing thread. -/
def execTbar (w : Who) (d a : Nat) (imm : BitVec 16) (s : State) : Host.Outcome State Fault Refusal :=
  docent (.tbar w d a imm) w [d, a] (fun s =>
    legalIf (d == 0 && a == 0 && decide (imm.toNat < 256) && bit imm.toNat w.n)
      (.done ((s.enter w .waitSync (.bar imm.toNat)).modTile w.c w.t Tile.wake))) s

/-- EOW: the thread enters DONE (R92), which a barrier counts as arrived; the tile and the device may reach
their end of work (R93, R161). -/
def execEow (w : Who) (d a : Nat) (imm : BitVec 16) (s : State) : Host.Outcome State Fault Refusal :=
  docent (.eow w d a imm) w [d, a] (fun s =>
    legalIf (d == 0 && a == 0 && imm == 0)
      (.done (((s.enter w .done .nothing).modTile w.c w.t Tile.wake).noteEow))) s

end Sys2Proof.Machine
end

