-- ==== Sys2Proof/Machine/Thermal.lean ====
section
/-! DEFINITION. Temperature sensors: validity, governing values, the sandwich estimate, fast sampling, thermal skip counts,
division by 4, shutdown, bands and the THM registers (R390–R401, R411–R414). Temperatures are in units of 0.25 °C. -/

namespace Sys2Proof.Machine

/-! ## Sensors (R390, R393) -/

def Device.sensor (s : Device) (n : Nat) : Sensor := s.thm.sensors.get {} n
def Device.setSensor (s : Device) (n : Nat) (x : Sensor) : Device := s.modThm (fun t => { t with sensors := t.sensors.set {} n x })
def Device.gov (s : Device) (n : Nat) : Int := (s.sensor n).gov

/-- The first sensor of a group and how many it has. -/
def groupKey : Group → Nat
  | .stack c => c
  | .quad q => 16 + q
  | .port p => 20 + p
def groupSensors : Group → List Nat
  | .stack c => (List.range 28).map (fun k => 28 * c + k)
  | .quad q => (List.range 32).map (fun k => 448 + 32 * q + k)
  | .port p => (List.range 4).map (fun k => 576 + 4 * p + k)

/-- A Plinth sensor: beneath a stack, or of a quadrant. -/
def isPlinthSensor (n : Nat) : Bool := (decide (n < 448) && decide (24 ≤ n % 28)) || (decide (448 ≤ n) && decide (n < 576))
def isLogicSensor (n : Nat) : Bool := decide (n < 448) && decide (n % 28 < 16)
def isSramSensor (n : Nat) : Bool := decide (n < 448) && decide (16 ≤ n % 28) && decide (n % 28 < 24)

/-- Soft threshold; the hard one lies 7 °C and the shutdown one 15 °C above it. -/
def softOf (n : Nat) : Int := if isPlinthSensor n then 360 else 380
def hardOf (n : Nat) : Int := softOf n + 28
def shutOf (n : Nat) : Int := softOf n + 60

/-! ## Readings (R392) -/

/-- A reading is valid: inside −40 to 150 °C, and within 2 °C + 50 °C/ms of the last valid one. (DEDUCED, log entry 90) -/
def Sensor.valid (x : Sensor) (now : Nat) (t : Int) : Bool :=
  decide (-160 ≤ t) && decide (t ≤ 600) &&
    (!x.seen || decide ((t - x.temp).natAbs * 1000000 ≤ 8000000 + 200 * (now - x.validAt)))

/-- Take a reading: an invalid one is replaced by the last valid one, and the third in a row makes the sensor FAILED. -/
def Sensor.take (x : Sensor) (now : Nat) (t : Int) : Sensor :=
  if x.state = 2 then x
  else if x.valid now t then { x with temp := t, seen := true, validAt := now, bad := 0 }
  else if x.bad = 2 then { x with bad := 3, state := 2 }
  else { x with bad := x.bad + 1 }

/-- A record of a sensor. -/
def Device.noteSensor (s : Device) (prio cls cause n : Nat) : Device :=
  s.note { kind := kThm, prio := prio, cls := cls, cause := cause, unit := n }

/-- Take the readings of a group. -/
def Device.takeReading (s : Device) (r : Reading) : Device :=
  let x := s.sensor r.sensor
  let y := x.take s.now r.temp
  let s := s.setSensor r.sensor y
  if y.state = 2 ∧ x.state ≠ 2 then s.noteSensor 2 4 21 r.sensor else s

/-! ## Governing values (R392, R399, R400) -/

/-- Neighbours in a grid `w` wide and `h` high, by index. (DEDUCED, log entry 90) -/
def gridNext (w h k : Nat) : List Nat :=
  (if k % w = 0 then [] else [k - 1]) ++ (if k % w = w - 1 then [] else [k + 1]) ++ (if k < w then [] else [k - w]) ++
    (if k / w = h - 1 then [] else [k + w])

/-- One round of filling in values: a position without one takes the highest among its neighbours that have one.
(DEDUCED, log entry 90) -/
def fillOnce (w h : Nat) (l : List (Option Int)) : List (Option Int) :=
  (List.range l.length).map (fun k =>
    match l.getD k none with
    | some v => some v
    | none =>
      match (gridNext w h k).filterMap (fun j => l.getD j none) with
      | [] => none
      | v :: vs => some (vs.foldl max v))

/-- As many rounds as the grid can need. (DEDUCED, log entry 90) -/
def fillAll (w h : Nat) : Nat → List (Option Int) → List (Option Int)
  | 0, l => l
  | n + 1, l => fillAll w h n (fillOnce w h l)

/-- Governing values of a grid of sensors from `base` on: valid readings, FAILED ones replaced by their neighbours.
(DEDUCED, log entry 90) -/
def Device.governGrid (s : Device) (base w h : Nat) : Device :=
  let own := (List.range (w * h)).map (fun k =>
    let x := s.sensor (base + k)
    if x.state = 2 then none else some x.temp)
  let vs := fillAll w h (w + h) own
  (List.range (w * h)).foldl (fun s k =>
    let x := s.sensor (base + k)
    s.setSensor (base + k) { x with gov := (vs.getD k none).getD x.gov }) s

/-- Governing values of sensors that no grid joins: the last valid reading. (DEDUCED, log entry 90) -/
def Device.governFlat (s : Device) (ns : List Nat) : Device :=
  ns.foldl (fun s n => s.setSensor n { s.sensor n with gov := (s.sensor n).temp }) s

/-- The sandwich estimate from the governing values above (a, b) and below (p), R_SRAM in m°C/W and the draw in mW, rounded
to 0.25 °C. -/
def sandwich (a b p : Int) (r draw : Nat) : Int :=
  ((5 * (a + b) + 6 * p) * 250000 + 16 * (r * draw : Nat) + 2000000) / 4000000

/-- State and governing value of an SRAM sensor against its estimate. -/
def Sensor.middle (x : Sensor) (now : Nat) (est : Int) : Sensor :=
  let far := (x.temp - est).natAbs
  let y : Sensor :=
    match x.state with
    | 0 =>
      if 32 < far then (if x.off = 2 then { x with off := 0, okFrom := 0, state := 1 } else { x with off := x.off + 1 })
      else { x with off := 0 }
    | 1 =>
      if 16 < far then { x with okFrom := 0 }
      else if x.okFrom = 0 then { x with okFrom := now + 1 }
      else if x.okFrom + 100000000 ≤ now + 1 then { x with state := 0, okFrom := 0 }
      else x
    | _ => x
  { y with est := est, gov := if y.state = 0 then y.temp else est }

/-- The modelled draw of a region's SRAM layer over the last 100 µs, in mW: the energy since the latest sample 100 µs or more ago, of which
10⁸ fJ are 1 mW. (DEDUCED, log entry 90) -/
def Device.sramDraw (s : Device) (c k : Nat) : Nat :=
  let x := s.sensor (28 * c + 16 + k)
  let past := (x.drawn.filter (fun e => decide (e.1 + 100000 ≤ s.now))).getLast?
  (s.energy.get 0 (acSram c k) - ((past.orElse (fun _ => x.drawn.head?)).map Prod.snd).getD 0) / 100000000

/-- The account at this sample is kept. -/
def Sensor.drew (x : Sensor) (now e : Nat) : Sensor :=
  { x with drawn := ((x.drawn.filter (fun d => decide (d.1 + 100000 ≤ now))).getLast?).toList ++
      x.drawn.filter (fun d => decide (now < d.1 + 100000)) ++ [(now, e)] }

/-- SRAM sensor k = 2i + h of a stack. -/
def Device.governSram (s : Device) (c k : Nat) : Device :=
  let i := k / 2
  let h := k % 2
  let n := 28 * c + 16 + k
  let est := sandwich (s.gov (28 * c + 4 * i + 2 * h)) (s.gov (28 * c + 4 * i + 2 * h + 1)) (s.gov (28 * c + 24 + 2 * (i / 2) + h))
    (s.coef 12) (s.sramDraw c k)
  let x := s.sensor n
  let y := (x.middle s.now est).drew s.now (s.energy.get 0 (acSram c k))
  let s := s.setSensor n y
  if y.state = 1 ∧ x.state = 0 then s.noteSensor 2 4 22 n else s

/-- Governing values of a group. -/
def Device.governGroup (s : Device) (g : Group) (rs : List Reading) : Device :=
  match g with
  | .stack c =>
    let s := (s.governGrid (28 * c) 4 4).governGrid (28 * c + 24) 2 2
    (rs.filter (fun r => isSramSensor r.sensor)).foldl (fun s r => s.governSram c (r.sensor % 28 - 16)) s
  | g => s.governFlat (groupSensors g)

/-- The rise over the 100 µs before now (R391). -/
def Sensor.rise (x : Sensor) (now : Nat) : Sensor :=
  let past := x.old.filter (fun e => decide (e.1 + 100000 ≤ now))
  let keep := (past.reverse.take 1) ++ x.old.filter (fun e => decide (now < e.1 + 100000))
  { x with
    rate := match past.reverse with
      | [] => 0
      | e :: _ => x.gov - e.2
    old := keep ++ [(now, x.gov)] }

/-! ## Fast sampling (R391) -/

/-- A sensor calls for fast sampling: within 10 °C of its soft threshold, or rising faster than 5 °C/ms. -/
def Device.callsFast (s : Device) (n : Nat) : Bool :=
  decide (softOf n - 40 ≤ s.gov n) || decide (20 < 10 * (s.sensor n).rate)

/-- PLN_THERM.FAST, THM_STACK.FAST and THM_STATUS.FAST follow the groups that sample fast. -/
def Device.showFast (s : Device) : Device :=
  let s := (List.range 4).foldl (fun s q =>
    s.setFlag F.plnThermFast q 0 (s.thm.fast.any (fun g => g == 16 + q || (decide (g < 16) && g / 4 == q)))) s
  let s := (List.range 16).foldl (fun s c => s.setFlag F.thmStackFast 0 c (s.thm.fast.contains c)) s
  s.setFlag F.thmStatusFast 0 0 (!s.thm.fast.isEmpty)

/-! ## Actions on stacks (R393–R396) -/

/-- Sensors that act on a stack: its own, and those of its quadrant's Plinth; at hard its port die's too. -/
def actingOn (c : Nat) : List Nat := groupSensors (.stack c) ++ groupSensors (.quad (c / 4))
def actingHard (c : Nat) : List Nat := actingOn c ++ groupSensors (.port (c / 4))

/-- A member of a list of keys, as told. -/
def setMember (l : List Nat) (k : Nat) (on : Bool) : List Nat := if on then addNew l k else l.filter (· != k)

/-- The stack's skip count and division both rest from now on. -/
def Device.noteCool (s : Device) (c : Nat) : Device :=
  if s.thm.skip.get 0 c = 0 ∧ !s.flag F.clkDomDiv4 0 c then s.modThm (fun t => { t with coolAt := t.coolAt.set 0 c s.now }) else s

/-- The thermal skip count after a sample of the stack's group (R394). -/
def Device.skipStep (s : Device) (c : Nat) : Device :=
  let k := s.thm.skip.get 0 c
  let k' := if (actingOn c).any (fun n => decide (softOf n ≤ s.gov n)) then min 12 (k + 2)
    else if (actingOn c).all (fun n => decide (s.gov n + 8 ≤ softOf n)) then k - 1 else k
  let s := s.modThm (fun t => { t with skip := t.skip.set 0 c k' })
  let s := if k' = 0 ∧ k ≠ 0 then s.noteCool c else s
  let s := if k' = 0 then s else s.modPwr (fun p => { p with throttled := true })
  (s.fset F.thmStackKTherm 0 c k').showSkip c

/-- The stacks that a group's sensors act on. -/
def groupStacks : Group → List Nat
  | .stack c => [c]
  | .quad q => (List.range 4).map (4 * q + ·)
  | .port p => (List.range 4).map (4 * p + ·)

/-- The soft crossings that a group's sample shows: each is counted at the stacks that its sensor acts on (R414), and the first after a period
without one records an EVENT (R394). (DEDUCED, log entry 91) -/
def Device.softCross (s : Device) (g : Group) : Device :=
  let ns := groupSensors g
  let before := s.thm.softOver
  let reached := ns.filter (fun n => decide (softOf n ≤ s.gov n))
  let new := reached.filter (fun n => !before.contains n)
  let s := s.modThm (fun t => { t with softOver := t.softOver.filter (fun n => !ns.contains n) ++ reached })
  let s := match new with
    | n :: _ => if ns.any before.contains then s else s.noteSensor 2 1 23 n
    | [] => s
  match g with
  | .port _ => s
  | g => (groupStacks g).foldl (fun s c => s.fsat F.thmStackSoftEvents 0 c new.length) s

/-- A hard crossing: the stack runs divided by 4, its step timer suspended, with a FAULT (R395, R363). -/
def Device.hardCross (s : Device) (c : Nat) : Device :=
  match (actingHard c).find? (fun n => decide (hardOf n ≤ s.gov n)) with
  | none => s.modThm (fun t => { t with hardHot := setMember t.hardHot c false })
  | some n =>
    let s := ((s.setFlag F.clkDomDiv4 0 c true).setFlag F.thmStackDiv4 0 c true).modPwr (fun p => { p with throttled := true })
    if s.thm.hardHot.contains c then s
    else ((s.modThm (fun t => { t with hardHot := setMember t.hardHot c true })).suspend c).noteSensor 1 1 24 n

/-- A port die at its soft threshold limits its DIMMs until it lies 2 °C below (R394). (DESIGN CHOICE, log entry 92) -/
def Device.portLimit (s : Device) (p : Nat) : Device :=
  let ns := groupSensors (.port p)
  let s := s.softCross (.port p)
  if ns.any (fun n => decide (softOf n ≤ s.gov n)) then s.modPort p (fun x => { x with ddrLimited := true })
  else if ns.all (fun n => decide (s.gov n + 8 ≤ softOf n)) then s.modPort p (fun x => { x with ddrLimited := false })
  else s

def Device.actGroup (s : Device) (g : Group) : Device :=
  let s := match g with
    | .stack c => (s.softCross g).skipStep c
    | .port p => s.portLimit p
    | .quad _ => s.softCross g
  (groupStacks g).foldl (fun s c => s.hardCross c) s

/-! ## Bands (R216, R231, R281, R398) -/

/-- Band of a reading, and the band after a reading where one is in use: it is left when the reading lies at least 1 °C
inside another. -/
def bandOf (t : Int) : Nat := min 11 (t / 40).toNat
def bandNext (first : Bool) (b : Nat) (t : Int) : Nat :=
  let up := bandOf (t - 4)
  let down := bandOf (t + 3)
  if first then bandOf t else if b < up then up else if down < b then down else b

/-- PLN_THERM.BAND: the highest over the quadrant's Plinth sensors, its stacks' included. (DEDUCED, log entry 91) -/
def Device.showPlinthBand (s : Device) (q : Nat) : Device :=
  let ns := groupSensors (.quad q) ++ (List.range 16).map (fun i => 28 * (4 * q + i / 4) + 24 + i % 4)
  s.fset F.plnThermBand q 0 ((ns.map (fun n => (s.sensor n).band)).foldl max 0)

/-- The bands that a group's readings set; `first` lists the sensors not seen before. (DEDUCED, log entry 91) -/
def Device.bandGroup (s : Device) (g : Group) (first : List Nat) : Device :=
  match g with
  | .port p =>
    let ns := groupSensors g
    let t := (ns.map s.gov).foldl max (s.gov (576 + 4 * p))
    let b := bandNext (ns.all first.contains) (s.fget F.prtLaneEqBand p 0) t
    (List.range 17).foldl (fun s j => s.fset F.prtLaneEqBand p j b) s
  | g =>
    let s := ((groupSensors g).filter isPlinthSensor).foldl (fun s n =>
      let x := s.sensor n
      s.setSensor n { x with band := bandNext (first.contains n) x.band x.gov }) s
    match g with
    | .stack c => s.showPlinthBand (c / 4)
    | .quad q => s.showPlinthBand q
    | .port _ => s

/-! ## THM registers (R412, R414) -/

/-- The highest governing value of some sensors that have one: of those with a reading, and of FAILED ones, which a neighbour or the estimate
governs (R392, R400). -/
def Device.topOf (s : Device) (ns : List Nat) : Option Int :=
  match (ns.filter (fun n => (s.sensor n).seen || (s.sensor n).state == 2)).map s.gov with
  | [] => none
  | v :: vs => some (vs.foldl max v)
def Device.hotOf (s : Device) (ns : List Nat) : Int := (s.topOf ns).getD 0
def whole (t : Int) : Nat := unsigned 8 (t / 4)

/-- The stack with the highest value of its logic and SRAM layers, among those sampled; the lowest of equals. (DEDUCED, log entry 91) -/
def Device.hotStack (s : Device) : Nat :=
  (((List.range 16).filterMap (fun c => (s.topOf ((groupSensors (.stack c)).take 24)).map (fun t => (c, t)))).foldl
    (fun (best : Option (Nat × Int)) e => if best.all (fun b => decide (b.2 < e.2)) then some e else best) none).elim 0 Prod.fst

def Device.showStackTemps (s : Device) (c : Nat) : Device :=
  let ns := groupSensors (.stack c)
  let s := ((s.fset F.thmStackLogic 0 c (whole (s.hotOf (ns.take 16)))).fset F.thmStackSram 0 c
    (whole (s.hotOf ((ns.drop 16).take 8)))).fset F.thmStackPlinth 0 c (whole (s.hotOf (ns.drop 24)))
  s.fset F.thmStackSuspect 0 c (((List.range 8).map (fun k => b2n ((s.sensor (28 * c + 16 + k)).state != 0) * 2 ^ k)).sum)

def Device.showTemps (s : Device) (g : Group) : Device :=
  let s := match g with
    | .stack c => s.showStackTemps c
    | _ => s
  let all := List.range 592
  let s := ((s.fset F.thmStatusHotLogic 0 0 (whole (s.hotOf (all.filter isLogicSensor)))).fset F.thmStatusHotSram 0 0
    (whole (s.hotOf (all.filter isSramSensor)))).fset F.thmStatusHotPlinth 0 0 (whole (s.hotOf (all.filter isPlinthSensor)))
  let s := (s.fset F.thmStatusHotPort 0 0 (whole (s.hotOf (all.drop 576)))).fset F.thmStatusHotStack 0 0 s.hotStack
  let failed := (all.filter (fun n => (s.sensor n).state == 2)).length
  (s.fset F.thmStatusFailed 0 0 failed).fset F.thmStatusSuspect 0 0 (all.filter (fun n => (s.sensor n).state == 1)).length

/-! ## Shutdown (R397) -/

/-- Runs of samples at or above the shutdown threshold. -/
def Sensor.hotter (x : Sensor) (limit : Int) : Sensor := { x with hotRun := if limit ≤ x.gov then x.hotRun + 1 else 0 }

/-- A thermal shutdown: the standby controller latches the sensor and its reading, every rail but standby goes off, MOD_ALERT_N is
asserted. (DEDUCED, log entry 89) -/
def Device.thermalShutdown (s : Device) (n : Nat) : Device :=
  let r := s.gov n
  let s := (s.modBoot (fun b => { b with shutdown := some (n, r), pwrgd := false })).registerCause rcThermal
  (s.powerDown.setFlag F.glbStatusAlert 0 0 true).emit .inBand

/-! ## The commands -/

/-- A stack loses all its logic sensors, or all beneath it, with this sample (R392). -/
def Device.senseless (s : Device) (c : Nat) : Bool :=
  (List.range 16).all (fun k => (s.sensor (28 * c + k)).state == 2) ||
    (List.range 4).all (fun k => (s.sensor (28 * c + 24 + k)).state == 2)

/-- SENSOR_SAMPLE: the group's readings are checked and act. A reading of a sensor of another group is none of this group. -/
def Device.sampleGroup (s : Device) (g : Group) (rs : List Reading) : Device :=
  let ns := groupSensors g
  let rs := rs.filter (fun r => ns.contains r.sensor)
  let first := ns.filter (fun n => !(s.sensor n).seen)
  let blind := (groupStacks g).filter s.senseless
  let s := rs.foldl (fun s r => s.takeReading r) s
  let s := s.governGroup g rs
  let s := ns.foldl (fun s n => s.setSensor n (((s.sensor n).rise s.now).hotter (shutOf n))) s
  match ns.find? (fun n => decide (2 ≤ (s.sensor n).hotRun)) with
  | some n => s.thermalShutdown n
  | none =>
    let s := if ns.any s.callsFast then s.modThm (fun t => { t with fast := addNew t.fast (groupKey g) }) else s
    let s := ((s.bandGroup g first).actGroup g).showFast.showTemps g
    match g with
    | .stack c => if s.senseless c && !blind.contains c && s.siteIn c then s.loseStack c else s
    | _ => s

def execSensorSample (g : Group) (rs : List Reading) (s : State) : Host.Outcome State Fault Refusal :=
  onUnits (g.ok) (fun s => s.sampleGroup g rs) s

/-- FAST_SAMPLING_END: 10 ms without a trigger; while one holds, nothing ends. -/
def execFastSamplingEnd (g : Group) (s : State) : Host.Outcome State Fault Refusal :=
  onUnits (g.ok) (fun s =>
    if (groupSensors g).any s.callsFast then s
    else (s.modThm (fun t => { t with fast := setMember t.fast (groupKey g) false })).showFast) s

/-- DIVISION_END (R395, R396): every acting sensor has lain at least 5 °C below its hard threshold for 1 ms. -/
def Device.endDivision (s : Device) (c : Nat) : Device :=
  if s.flag F.clkDomDiv4 0 c && (actingHard c).all (fun n => decide (s.gov n + 20 ≤ hardOf n)) then
    (((s.setFlag F.clkDomDiv4 0 c false).setFlag F.thmStackDiv4 0 c false).showDom c).noteCool c
  else s

def execDivisionEnd (c : Nat) (s : State) : Host.Outcome State Fault Refusal := onUnits (stackOk c) (fun s => s.endDivision c) s

end Sys2Proof.Machine
end

