-- ==== Sys2Proof/Machine/Tables.lean ====
section
/-! DEFINITION. The constants and tables of R76, each entry rn of the exact value its formula names, as
binary32 codes. -/

namespace Sys2Proof.Machine

/-- C_INV of R76. -/
def cInv : Nat := 0x42B8AA3B
/-- L_HI of R76. -/
def lHi : Nat := 0x3C317218
/-- L_LO of R76. -/
def lLo : Nat := 0xAE02E308
/-- LN2_HI of R76. -/
def ln2Hi : Nat := 0x3F317218
/-- LN2_LO of R76. -/
def ln2Lo : Nat := 0xB102E308
/-- THIRD of R76. -/
def third : Nat := 0x3EAAAAAB
/-- SIXTH of R76. -/
def sixth : Nat := 0x3E2AAAAB
/-- H3 of R76. -/
def h3 : Nat := 0xBEAAAAAB
/-- H5 of R76. -/
def h5 : Nat := 0x3E088889
/-- H7 of R76. -/
def h7 : Nat := 0xBD5D0DD1
/-- H9 of R76. -/
def h9 : Nat := 0x3CB327A4
/-- H11 of R76. -/
def h11 : Nat := 0xBC11371B
/-- H13 of R76. -/
def h13 : Nat := 0x3B6B69E8
/-- EXPT entries 0–47 (R76). -/
def exptPart0 : List Nat := [
  0x3F800000, 0x3F8164D2, 0x3F82CD87, 0x3F843A29, 0x3F85AAC3, 0x3F871F62, 0x3F88980F, 0x3F8A14D5,
  0x3F8B95C2, 0x3F8D1ADF, 0x3F8EA43A, 0x3F9031DC, 0x3F91C3D3, 0x3F935A2B, 0x3F94F4F0, 0x3F96942D,
  0x3F9837F0, 0x3F99E046, 0x3F9B8D3A, 0x3F9D3EDA, 0x3F9EF532, 0x3FA0B051, 0x3FA27043, 0x3FA43516,
  0x3FA5FED7, 0x3FA7CD94, 0x3FA9A15B, 0x3FAB7A3A, 0x3FAD583F, 0x3FAF3B79, 0x3FB123F6, 0x3FB311C4,
  0x3FB504F3, 0x3FB6FD92, 0x3FB8FBAF, 0x3FBAFF5B, 0x3FBD08A4, 0x3FBF179A, 0x3FC12C4D, 0x3FC346CD,
  0x3FC5672A, 0x3FC78D75, 0x3FC9B9BE, 0x3FCBEC15, 0x3FCE248C, 0x3FD06334, 0x3FD2A81E, 0x3FD4F35B]
/-- EXPT entries 48–63 (R76). -/
def exptPart1 : List Nat := [
  0x3FD744FD, 0x3FD99D16, 0x3FDBFBB8, 0x3FDE60F5, 0x3FE0CCDF, 0x3FE33F89, 0x3FE5B907, 0x3FE8396A,
  0x3FEAC0C7, 0x3FED4F30, 0x3FEFE4BA, 0x3FF28177, 0x3FF5257D, 0x3FF7D0DF, 0x3FFA83B3, 0x3FFD3E0C]

/-- EXPT[j] = rn(2^(j/64)) (R76). -/
def expt (j : Nat) : Nat := (exptPart0 ++ exptPart1).getD j 0

/-- INV entries 0–47 (R76). -/
def invPart0 : List Nat := [
  0x3FAAAAAB, 0x3FA72F05, 0x3FA3D70A, 0x3FA0A0A1, 0x3F9D89D9, 0x3F9A90E8, 0x3F97B426, 0x3F94F209,
  0x3F924925, 0x3F8FB824, 0x3F8D3DCB, 0x3F8AD8F3, 0x3F888889, 0x3F864B8A, 0x3F842108, 0x3F820821,
  0x3F800000, 0x3F7C0FC1, 0x3F783E10, 0x3F74898D, 0x3F70F0F1, 0x3F6D7304, 0x3F6A0EA1, 0x3F66C2B4,
  0x3F638E39, 0x3F607038, 0x3F5D67C9, 0x3F5A740E, 0x3F579436, 0x3F54C77B, 0x3F520D21, 0x3F4F6475,
  0x3F4CCCCD, 0x3F4A4588, 0x3F47CE0C, 0x3F4565C8, 0x3F430C31, 0x3F40C0C1, 0x3F3E82FA, 0x3F3C5264,
  0x3F3A2E8C, 0x3F381703, 0x3F360B61, 0x3F340B41, 0x3F321643, 0x3F302C0B, 0x3F2E4C41, 0x3F2C7692]
/-- INV entries 48–48 (R76). -/
def invPart1 : List Nat := [
  0x3F2AAAAB]

/-- INV[j] = rn(1 / (0.75 + j/64)) (R76). -/
def inv (j : Nat) : Nat := (invPart0 ++ invPart1).getD j 0

/-- LOGT entries 0–47 (R76). -/
def logtPart0 : List Nat := [
  0xBE934B12, 0xBE88BC73, 0xBE7CC8E2, 0xBE6881C2, 0xBE549F6C, 0xBE411E0C, 0xBE2DFA04, 0xBE1B2FE3,
  0xBE08BC77, 0xBDED393C, 0xBDC99AF2, 0xBDA6988B, 0xBD842CCD, 0xBD44A542, 0xBD020AE4, 0xBC8102D2,
  0x00000000, 0x3C7E0545, 0x3CFC14C8, 0x3D3BA2CE, 0x3D785185, 0x3D9A0EBA, 0x3DB78694, 0x3DD4936C,
  0x3DF1383A, 0x3E06BBF4, 0x3E14AA96, 0x3E22695A, 0x3E2FF983, 0x3E3D5C48, 0x3E4A92D4, 0x3E579E49,
  0x3E647FBD, 0x3E71383B, 0x3E7DC8C6, 0x3E851928, 0x3E8B3AE5, 0x3E914A0F, 0x3E974716, 0x3E9D3263,
  0x3EA30C5D, 0x3EA8D56C, 0x3EAE8DED, 0x3EB43640, 0x3EB9CEBF, 0x3EBF57C2, 0x3EC4D19D, 0x3ECA3C9F]
/-- LOGT entries 48–48 (R76). -/
def logtPart1 : List Nat := [
  0x3ECF991E]

/-- LOGT[j] = rn(−ln INV[j]) (R76). -/
def logt (j : Nat) : Nat := (logtPart0 ++ logtPart1).getD j 0

/-- RSQ entries 0–47 (R76). -/
def rsqPart0 : List Nat := [
  0x3F7F017E, 0x3F7D0D3E, 0x3F7B2452, 0x3F79464E, 0x3F7772CB, 0x3F75A969, 0x3F73E9CB, 0x3F723399,
  0x3F708681, 0x3F6EE232, 0x3F6D4660, 0x3F6BB2C5, 0x3F6A271A, 0x3F68A31D, 0x3F672691, 0x3F65B139,
  0x3F6442DB, 0x3F62DB41, 0x3F617A36, 0x3F601F87, 0x3F5ECB04, 0x3F5D7C7F, 0x3F5C33CC, 0x3F5AF0BF,
  0x3F59B330, 0x3F587AF7, 0x3F5747EE, 0x3F5619F2, 0x3F54F0DF, 0x3F53CC93, 0x3F52ACEE, 0x3F5191D1,
  0x3F507B1D, 0x3F4F68B6, 0x3F4E5A7F, 0x3F4D505E, 0x3F4C4A38, 0x3F4B47F4, 0x3F4A497A, 0x3F494EB3,
  0x3F485787, 0x3F4763E2, 0x3F4673AC, 0x3F4586D3, 0x3F449D42, 0x3F43B6E6, 0x3F42D3AD, 0x3F41F383]
/-- RSQ entries 48–95 (R76). -/
def rsqPart1 : List Nat := [
  0x3F411659, 0x3F403C1C, 0x3F3F64BD, 0x3F3E902C, 0x3F3DBE58, 0x3F3CEF34, 0x3F3C22B1, 0x3F3B58C0,
  0x3F3A9154, 0x3F39CC60, 0x3F3909D6, 0x3F3849AA, 0x3F378BD0, 0x3F36D03D, 0x3F3616E4, 0x3F355FBA,
  0x3F3450FC, 0x3F32EF41, 0x3F319589, 0x3F304387, 0x3F2EF8F2, 0x3F2DB587, 0x3F2C7904, 0x3F2B432A,
  0x3F2A13C0, 0x3F28EA8C, 0x3F27C759, 0x3F26A9F4, 0x3F25922C, 0x3F247FD3, 0x3F2372BD, 0x3F226ABE,
  0x3F2167AF, 0x3F206968, 0x3F1F6FC4, 0x3F1E7AA0, 0x3F1D89D9, 0x3F1C9D4E, 0x3F1BB4E1, 0x3F1AD073,
  0x3F19EFE6, 0x3F191320, 0x3F183A05, 0x3F17647C, 0x3F16926C, 0x3F15C3BC, 0x3F14F857, 0x3F143026]
/-- RSQ entries 96–127 (R76). -/
def rsqPart2 : List Nat := [
  0x3F136B13, 0x3F12A90B, 0x3F11E9F9, 0x3F112DCA, 0x3F10746D, 0x3F0FBDCE, 0x3F0F09DD, 0x3F0E5889,
  0x3F0DA9C2, 0x3F0CFD79, 0x3F0C539F, 0x3F0BAC25, 0x3F0B06FD, 0x3F0A641A, 0x3F09C36D, 0x3F0924EC,
  0x3F088889, 0x3F07EE37, 0x3F0755ED, 0x3F06BF9E, 0x3F062B40, 0x3F0598C7, 0x3F05082A, 0x3F04795F,
  0x3F03EC5C, 0x3F036117, 0x3F02D788, 0x3F024FA6, 0x3F01C967, 0x3F0144C4, 0x3F00C1B4, 0x3F004030]

/-- RSQ[j] = rn(1/√c) (R76). -/
def rsq (j : Nat) : Nat := (rsqPart0 ++ rsqPart1 ++ rsqPart2).getD j 0

/-- EV entries 0–47 (R76). -/
def evPart0 : List Nat := [
  0x00000000, 0x3D1062B2, 0x3D903EA4, 0x3DD80409, 0x3E0FAF0D, 0x3E331506, 0x3E5622F2, 0x3E78C855,
  0x3E8D7AA7, 0x3E9E4D54, 0x3EAED4FA, 0x3EBF0ACA, 0x3ECEE869, 0x3EDE67F6, 0x3EED840E, 0x3EFC37D5,
  0x3F053F7B, 0x3F0C2AD3, 0x3F12DC54, 0x3F1952A6, 0x3F1F8CB7, 0x3F2589B9, 0x3F2B4922, 0x3F30CAAB,
  0x3F360E4C, 0x3F3B1438, 0x3F3FDCE0, 0x3F4468E7, 0x3F48B925, 0x3F4CCEA1, 0x3F50AA8D, 0x3F544E43,
  0x3F57BB3D, 0x3F5AF318, 0x3F5DF788, 0x3F60CA59, 0x3F636D69, 0x3F65E2A6, 0x3F682C06, 0x3F6A4B88,
  0x3F6C432F, 0x3F6E14FE, 0x3F6FC2F5, 0x3F714F11, 0x3F72BB46, 0x3F74097E, 0x3F753B98, 0x3F765366]
/-- EV entries 48–95 (R76). -/
def evPart1 : List Nat := [
  0x3F7752AB, 0x3F783B18, 0x3F790E50, 0x3F79CDE1, 0x3F7A7B4A, 0x3F7B17F4, 0x3F7BA537, 0x3F7C2456,
  0x3F7C9684, 0x3F7CFCDD, 0x3F7D586F, 0x3F7DAA32, 0x3F7DF30F, 0x3F7E33DE, 0x3F7E6D66, 0x3F7EA05F,
  0x3F7ECD71, 0x3F7EF537, 0x3F7F1840, 0x3F7F370C, 0x3F7F5211, 0x3F7F69BA, 0x3F7F7E67, 0x3F7F9070,
  0x3F7FA024, 0x3F7FADC8, 0x3F7FB99C, 0x3F7FC3D9, 0x3F7FCCB0, 0x3F7FD450, 0x3F7FDADF, 0x3F7FE081,
  0x3F7FE554, 0x3F7FE975, 0x3F7FECFC, 0x3F7FEFFD, 0x3F7FF28A, 0x3F7FF4B5, 0x3F7FF68B, 0x3F7FF819,
  0x3F7FF968, 0x3F7FFA82, 0x3F7FFB6F, 0x3F7FFC36, 0x3F7FFCDD, 0x3F7FFD68, 0x3F7FFDDC, 0x3F7FFE3D]
/-- EV entries 96–128 (R76). -/
def evPart2 : List Nat := [
  0x3F7FFE8D, 0x3F7FFED0, 0x3F7FFF07, 0x3F7FFF34, 0x3F7FFF5A, 0x3F7FFF79, 0x3F7FFF92, 0x3F7FFFA7,
  0x3F7FFFB8, 0x3F7FFFC6, 0x3F7FFFD1, 0x3F7FFFDA, 0x3F7FFFE2, 0x3F7FFFE8, 0x3F7FFFEC, 0x3F7FFFF0,
  0x3F7FFFF4, 0x3F7FFFF6, 0x3F7FFFF8, 0x3F7FFFFA, 0x3F7FFFFB, 0x3F7FFFFC, 0x3F7FFFFD, 0x3F7FFFFE,
  0x3F7FFFFE, 0x3F7FFFFF, 0x3F7FFFFF, 0x3F7FFFFF, 0x3F7FFFFF, 0x3F7FFFFF, 0x3F800000, 0x3F800000,
  0x3F800000]

/-- EV[j] = rn(erf(j/32)) (R76). -/
def ev (j : Nat) : Nat := (evPart0 ++ evPart1 ++ evPart2).getD j 0

/-- ED entries 0–47 (R76). -/
def edPart0 : List Nat := [
  0x3F906EBB, 0x3F904AA3, 0x3F8FDE94, 0x3F8F2B2E, 0x3F8E317D, 0x3F8CF2F5, 0x3F8B716C, 0x3F89AF18,
  0x3F87AE8B, 0x3F8572A8, 0x3F82FE9F, 0x3F8055E8, 0x3F7AF867, 0x3F74EAD4, 0x3F6E8B3E, 0x3F67E20F,
  0x3F60F7E5, 0x3F59D57E, 0x3F5283A7, 0x3F4B0B28, 0x3F4374B5, 0x3F3BC8DC, 0x3F340FF9, 0x3F2C5223,
  0x3F249721, 0x3F1CE661, 0x3F1546E7, 0x3F0DBF4C, 0x3F0655B1, 0x3EFE1F73, 0x3EEFE513, 0x3EE20584,
  0x3ED488F8, 0x3EC7769B, 0x3EBAD48D, 0x3EAEA7EA, 0x3EA2F4CE, 0x3E97BE62, 0x3E8D06E3, 0x3E82CFAD,
  0x3E723298, 0x3E5FC70E, 0x3E4E5ADF, 0x3E3DEAE4, 0x3E2E72CB, 0x3E1FED36, 0x3E1253DC, 0x3E059FA9]
/-- ED entries 48–95 (R76). -/
def edPart1 : List Nat := [
  0x3DF391B9, 0x3DDD8E4C, 0x3DC92385, 0x3DB63F32, 0x3DA4CEA4, 0x3D94BEDD, 0x3D85FCBF, 0x3D70EA68,
  0x3D582A98, 0x3D4194C7, 0x3D2D0474, 0x3D1A561B, 0x3D09675A, 0x3CF42E22, 0x3CD88B05, 0x3CBFA8C4,
  0x3CA94DCF, 0x3C9543AE, 0x3C83570A, 0x3C66AF65, 0x3C4A3127, 0x3C30DF57, 0x3C1A6BEE, 0x3C068EB5,
  0x3BEA0A1D, 0x3BCB237A, 0x3BAFF93B, 0x3B9824CE, 0x3B8348C6, 0x3B622096, 0x3B425D18, 0x3B26BC5E,
  0x3B0EC18C, 0x3AF3F919, 0x3AD0121B, 0x3AB11AFE, 0x3A96744C, 0x3A7F20E7, 0x3A57E42F, 0x3A365507,
  0x3A19B066, 0x3A014AF8, 0x39D91D2D, 0x39B5F011, 0x399829C8, 0x397E06AB, 0x3953A034, 0x392FF56D]
/-- ED entries 96–128 (R76). -/
def edPart2 : List Nat := [
  0x39120475, 0x38F1DE7A, 0x38C7EE0E, 0x38A4F0BC, 0x3887CF0E, 0x385F355E, 0x383711B4, 0x3815DAE6,
  0x37F4DAF4, 0x37C7A666, 0x37A2790F, 0x3783F5E9, 0x3755F04F, 0x372D1570, 0x370BC1E7, 0x36E14167,
  0x36B52CB9, 0x36916F95, 0x366909CC, 0x363A56E4, 0x3614B538, 0x35ECE39B, 0x35BC4FDC, 0x35956771,
  0x356C9B8F, 0x353AFD47, 0x35137CF0, 0x34E8356B, 0x34B670D5, 0x348F0F43, 0x345FEBAB, 0x342EE6B3,
  0x340858A4]

/-- ED[j] = rn((2/√π) exp(−(j/32)²)) (R76). -/
def ed (j : Nat) : Nat := (edPart0 ++ edPart1 ++ edPart2).getD j 0

/-- EP3 entries 0–47 (R76). -/
def ep3Part0 : List Nat := [
  0xBEAAAAAB, 0xBEAA5555, 0xBEA95555, 0xBEA7AAAB, 0xBEA55555, 0xBEA25555, 0xBE9EAAAB, 0xBE9A5555,
  0xBE955555, 0xBE8FAAAB, 0xBE895555, 0xBE825555, 0xBE755555, 0xBE64AAAB, 0xBE52AAAB, 0xBE3F5555,
  0xBE2AAAAB, 0xBE14AAAB, 0xBDFAAAAB, 0xBDC95555, 0xBD955555, 0xBD3D5555, 0xBC955555, 0x3C355555,
  0x3D2AAAAB, 0x3D96AAAB, 0x3DDAAAAB, 0x3E10AAAB, 0x3E355555, 0x3E5B5555, 0x3E815555, 0x3E95AAAB,
  0x3EAAAAAB, 0x3EC05555, 0x3ED6AAAB, 0x3EEDAAAB, 0x3F02AAAB, 0x3F0ED555, 0x3F1B5555, 0x3F282AAB,
  0x3F355555, 0x3F42D555, 0x3F50AAAB, 0x3F5ED555, 0x3F6D5555, 0x3F7C2AAB, 0x3F85AAAB, 0x3F8D6AAB]
/-- EP3 entries 48–95 (R76). -/
def ep3Part1 : List Nat := [
  0x3F955555, 0x3F9D6AAB, 0x3FA5AAAB, 0x3FAE1555, 0x3FB6AAAB, 0x3FBF6AAB, 0x3FC85555, 0x3FD16AAB,
  0x3FDAAAAB, 0x3FE41555, 0x3FEDAAAB, 0x3FF76AAB, 0x4000AAAB, 0x4005B555, 0x400AD555, 0x40100AAB,
  0x40155555, 0x401AB555, 0x40202AAB, 0x4025B555, 0x402B5555, 0x40310AAB, 0x4036D555, 0x403CB555,
  0x4042AAAB, 0x4048B555, 0x404ED555, 0x40550AAB, 0x405B5555, 0x4061B555, 0x40682AAB, 0x406EB555,
  0x40755555, 0x407C0AAB, 0x40816AAB, 0x4084DAAB, 0x40885555, 0x408BDAAB, 0x408F6AAB, 0x40930555,
  0x4096AAAB, 0x409A5AAB, 0x409E1555, 0x40A1DAAB, 0x40A5AAAB, 0x40A98555, 0x40AD6AAB, 0x40B15AAB]
/-- EP3 entries 96–128 (R76). -/
def ep3Part2 : List Nat := [
  0x40B55555, 0x40B95AAB, 0x40BD6AAB, 0x40C18555, 0x40C5AAAB, 0x40C9DAAB, 0x40CE1555, 0x40D25AAB,
  0x40D6AAAB, 0x40DB0555, 0x40DF6AAB, 0x40E3DAAB, 0x40E85555, 0x40ECDAAB, 0x40F16AAB, 0x40F60555,
  0x40FAAAAB, 0x40FF5AAB, 0x41020AAB, 0x41046D55, 0x4106D555, 0x410942AB, 0x410BB555, 0x410E2D55,
  0x4110AAAB, 0x41132D55, 0x4115B555, 0x411842AB, 0x411AD555, 0x411D6D55, 0x41200AAB, 0x4122AD55,
  0x41255555]

/-- EP3[j] = rn((2(j/32)² − 1)/3) (R76). -/
def ep3 (j : Nat) : Nat := (ep3Part0 ++ ep3Part1 ++ ep3Part2).getD j 0

/-- EP4 entries 0–47 (R76). -/
def ep4Part0 : List Nat := [
  0x00000000, 0x3C7FD555, 0x3CFF5555, 0x3D3EE000, 0x3D7D5555, 0x3D9D6555, 0x3DBB8000, 0x3DD8DAAB,
  0x3DF55555, 0x3E086800, 0x3E159555, 0x3E2222AB, 0x3E2E0000, 0x3E391D55, 0x3E436AAB, 0x3E4CD800,
  0x3E555555, 0x3E5CD2AB, 0x3E634000, 0x3E688D55, 0x3E6CAAAB, 0x3E6F8800, 0x3E711555, 0x3E7142AB,
  0x3E700000, 0x3E6D3D55, 0x3E68EAAB, 0x3E62F800, 0x3E5B5555, 0x3E51F2AB, 0x3E46C000, 0x3E39AD55,
  0x3E2AAAAB, 0x3E19A800, 0x3E069555, 0x3DE2C555, 0x3DB40000, 0x3D80BAAB, 0x3D11AAAB, 0x3BC30000,
  0xBCD55555, 0xBD77B555, 0xBDC78000, 0xBE0C32AB, 0xBE375555, 0xBE653800, 0xBE8AF555, 0xBEA4BEAB]
/-- EP4 entries 48–95 (R76). -/
def ep4Part1 : List Nat := [
  0xBEC00000, 0xBEDCC155, 0xBEFB0AAB, 0xBF0D7200, 0xBF1E2AAB, 0xBF2FB355, 0xBF421000, 0xBF5544AB,
  0xBF695555, 0xBF7E4600, 0xBF8A0D55, 0xBF956BAB, 0xBFA14000, 0xBFAD8C55, 0xBFBA52AB, 0xBFC79500,
  0xBFD55555, 0xBFE395AB, 0xBFF25800, 0xC000CF2B, 0xC008B555, 0xC010DF80, 0xC0194EAB, 0xC02203D5,
  0xC02B0000, 0xC034442B, 0xC03DD155, 0xC047A880, 0xC051CAAB, 0xC05C38D5, 0xC066F400, 0xC071FD2B,
  0xC07D5555, 0xC0847EC0, 0xC08A7B55, 0xC090A0EB, 0xC096F000, 0xC09D6915, 0xC0A40CAB, 0xC0AADB40,
  0xC0B1D555, 0xC0B8FB6B, 0xC0C04E00, 0xC0C7CD95, 0xC0CF7AAB, 0xC0D755C0, 0xC0DF5F55, 0xC0E797EB]
/-- EP4 entries 96–128 (R76). -/
def ep4Part2 : List Nat := [
  0xC0F00000, 0xC0F89815, 0xC100B055, 0xC1052D20, 0xC109C2AB, 0xC10E7135, 0xC1133900, 0xC1181A4B,
  0xC11D1555, 0xC1222A60, 0xC12759AB, 0xC12CA375, 0xC1320800, 0xC137878B, 0xC13D2255, 0xC142D8A0,
  0xC148AAAB, 0xC14E98B5, 0xC154A300, 0xC15AC9CB, 0xC1610D55, 0xC1676DE0, 0xC16DEBAB, 0xC17486F5,
  0xC17B4000, 0xC1810B85, 0xC184862B, 0xC1881010, 0xC18BA955, 0xC18F521B, 0xC1930A80, 0xC196D2A5,
  0xC19AAAAB]

/-- EP4[j] = rn((3(j/32) − 2(j/32)³)/6) (R76). -/
def ep4 (j : Nat) : Nat := (ep4Part0 ++ ep4Part1 ++ ep4Part2).getD j 0

end Sys2Proof.Machine
end

