-- ==== Sys2Proof/Machine/Special.lean ====
section
/-! DEFINITION. The six special functions of the vector unit, by the procedures of R77–R82, over binary32
codes. -/

namespace Sys2Proof.Machine

/-- The codes of 0.5, 1.0, 1.5, 2.0, −1.0, −0.5 and −0.25. -/
def cHalf : Nat := 0x3F000000
def cOne : Nat := 0x3F800000
def cOneHalf : Nat := 0x3FC00000
def cTwo : Nat := 0x40000000

/-- exp (R77). -/
def exp32 (x : Nat) : Nat :=
  if fIsNan x then fp32.nan
  else if !fLt x 0x43000000 then fp32.inf
  else if !fLt 0xC3160000 x then 0
  else
    let k := fRint (fMul x cInv)
    let m := k / 64
    let j := (k - 64 * m).toNat
    let nk := fOfInt (-k)
    let r := fFma nk lHi x
    let r := fFma nk lLo r
    let q := fFma sixth r cHalf
    let q := fFma q r cOne
    let q := fMul q r
    fScale (fFma (expt j) q (expt j)) m

/-- x = f × 2^e with 1 ≤ f < 2: the integer f × 2^23, and e (R78, R79). -/
def normalised (m : Nat) (e : Int) : Nat × Int := (m * 2 ^ (23 - Nat.log2 m), Nat.log2 m + e)

/-- The body of R78 for a positive finite x. -/
def logBody (m : Nat) (ex : Int) : Nat :=
  let (f, e) := normalised m ex
  let hi := decide (3 * 2 ^ 22 ≤ f)
  let f24 := if hi then f else 2 * f
  let e := if hi then e + 1 else e
  let j := (f24 - 12582912 + 131072) / 262144
  let fc := fp32.round false f24 (-24) false
  let r := fFma fc (inv j) (fNeg cOne)
  let t := fMul r r
  let q := fFma (fNeg 0x3E800000) r third
  let q := fFma q r (fNeg cHalf)
  let p := fFma q t r
  let ec := fOfInt e
  let a := fFma ec ln2Hi (logt j)
  let b := fFma ec ln2Lo p
  fAdd a b

/-- log (R78). -/
def log32 (x : Nat) : Nat :=
  match fp32.decode x with
  | .nan => fp32.nan
  | .inf neg => if neg then fp32.nan else fp32.inf
  | .fin neg m e => if m = 0 then fp32.sign + fp32.inf else if neg then fp32.nan else logBody m e

/-- One step of R79's iteration. -/
def rsqrtStep (nh y : Nat) : Nat := fMul y (fFma nh (fMul y y) cOneHalf)

/-- The body of R79 for a positive finite x. -/
def rsqrtBody (m : Nat) (ex : Int) : Nat :=
  let (f0, e0) := normalised m ex
  let odd := decide (e0 % 2 = 1)
  let f := if odd then 2 * f0 else f0
  let e := if odd then e0 - 1 else e0
  let j := if f < 2 ^ 24 then (f - 2 ^ 23) / 2 ^ 17 else 64 + (f - 2 ^ 24) / 2 ^ 18
  let nh := fp32.round true f (-24) false
  fScale (rsqrtStep nh (rsqrtStep nh (rsq j))) (-e / 2)

/-- rsqrt (R79). -/
def rsqrt32 (x : Nat) : Nat :=
  match fp32.decode x with
  | .nan => fp32.nan
  | .inf neg => if neg then fp32.nan else 0
  | .fin neg m e =>
    if m = 0 then (if neg then fp32.sign else 0) + fp32.inf
    else if neg then fp32.nan else rsqrtBody m e

/-- tanh (R80). -/
def tanh32 (x : Nat) : Nat :=
  let a := fAbs x
  if fIsNan x then fp32.nan
  else if !fLt a 0x41200000 then fCopysign cOne x
  else if fLt a 0x3EC00000 then
    let z := fMul a a
    let q := fFma h13 z h11
    let q := fFma q z h9
    let q := fFma q z h7
    let q := fFma q z h5
    let q := fFma q z h3
    fCopysign (fFma q (fMul z a) a) x
  else
    let e := exp32 (fScale a 1)
    fCopysign (fSub cOne (fDiv cTwo (fAdd e cOne))) x

/-- sigmoid (R81). -/
def sigmoid32 (x : Nat) : Nat :=
  if fIsNan x then fp32.nan
  else if !fLt x 0 then fDiv cOne (fAdd cOne (exp32 (fNeg x)))
  else
    let e := exp32 x
    fDiv e (fAdd cOne e)

/-- erf (R82). -/
def erf32 (x : Nat) : Nat :=
  let a := fAbs x
  if fIsNan x then fp32.nan
  else if !fLt a 0x40800000 then fCopysign cOne x
  else
    let j := (fRint (fScale a 5)).toNat
    let node := fScale (fOfInt j) (-5)
    let h := fSub a node
    let q := fFma (ep4 j) h (ep3 j)
    let q := fFma q h (fNeg node)
    let q := fFma q h cOne
    let s := fMul q h
    fCopysign (fFma (ed j) s (ev j)) x

/-- The functions of VSFN in the order of their FN codes 0–5 (R97). -/
inductive Sfn where
  | exp | log | rsqrt | tanh | sigmoid | erf
  deriving DecidableEq, Repr

/-- R77–R82; in BF16 mode on the input rounded to BF16, the FP32 result rounded to BF16 (R75). -/
def Sfn.eval (f : Sfn) (bf : Bool) (x : Nat) : Nat :=
  let g := match f with
    | .exp => exp32 | .log => log32 | .rsqrt => rsqrt32
    | .tanh => tanh32 | .sigmoid => sigmoid32 | .erf => erf32
  if bf then toBf (g (toBf x)) else g x

end Sys2Proof.Machine
end

