-- ==== Sys2Proof/Machine/Vector.lean ====
section
/-! DEFINITION. The vector instructions (R74, R75, R97, R98). -/

namespace Sys2Proof.Machine

/-- A vector instruction: its X-register fields `xs` take 0–15 and `ok` gathers its zero fields (R94, R97). -/
def vecOp (i : Instr) (w : Who) (rs xs : List Nat) (ok : Bool) (body : Device → Issued) (s : State) :
    Host.Outcome State Fault Refusal :=
  docent i w rs (fun s =>
    legalIf (ok && xs.all (fun r => decide (r < 16)))
      (match body s with
       | .done s' => .done (s'.count w.c w.t evVecIssue 0 1)
       | o => o)) s

/-- The issuing thread's vector register. -/
def Device.vreg (s : Device) (w : Who) (r : Nat) : List Nat := (s.thread w.c w.t w.n).vec r

/-- A vector result of the issuing thread. -/
def Device.setVreg (s : Device) (w : Who) (r : Nat) (vs : List Nat) : Device :=
  s.modThread w.c w.t w.n (fun th => th.setVec r vs)

/-- VLD (R97): the layout, then alignment to 64 bytes, then the read. -/
def execVld (w : Who) (d a : Nat) (imm : BitVec 16) (s : State) : Host.Outcome State Fault Refusal :=
  vecOp (.vld w d a imm) w [d, a] [d] (vecFmt imm).isSome (fun s =>
    match vecFmt imm with
    | none => .fault fIllegal
    | some f =>
      let ad := (s.thread w.c w.t w.n).addrV a imm
      if ad % 64 ≠ 0 then .fault fAlign
      else s.loadSram w ad (8 * f.width) (fun s bs => .done (s.setVreg w d (unpackVec f bs)))) s

/-- VST (R97). -/
def execVst (w : Who) (d a : Nat) (imm : BitVec 16) (s : State) : Host.Outcome State Fault Refusal :=
  vecOp (.vst w d a imm) w [d, a] [d] (vecFmt imm).isSome (fun s =>
    match vecFmt imm with
    | none => .fault fIllegal
    | some f =>
      let ad := (s.thread w.c w.t w.n).addrV a imm
      if ad % 64 ≠ 0 then .fault fAlign else s.storeSram w ad (packVec f (s.vreg w d))) s

/-- FN[4] of a BF16-capable VOP; FN[10:5] are zero (R97). -/
def bfOf (hi : BitVec 7) : Bool := hi.toNat % 2 == 1
def bfOk (hi : BitVec 7) : Bool := decide (hi.toNat < 2)

/-- A lane-wise VOP of two sources. -/
def vop2 (i : Instr) (w : Who) (d a b : Nat) (hi : BitVec 7) (f : Bool → Nat → Nat → Nat) (s : State) :
    Host.Outcome State Fault Refusal :=
  vecOp i w [d, a, b] [d, a, b] (bfOk hi) (fun s =>
    .done (s.setVreg w d (List.zipWith (f (bfOf hi)) (s.vreg w a) (s.vreg w b)))) s

def execVopAdd (w : Who) (d a b : Nat) (hi : BitVec 7) := vop2 (.vopAdd w d a b hi) w d a b hi (fun bf => laneOp2 bf Fmt.addV)
def execVopSub (w : Who) (d a b : Nat) (hi : BitVec 7) :=
  vop2 (.vopSub w d a b hi) w d a b hi (fun bf => laneOp2 bf (fun f x y => f.addV x y.neg))
def execVopMul (w : Who) (d a b : Nat) (hi : BitVec 7) :=
  vop2 (.vopMul w d a b hi) w d a b hi (fun bf => laneOp2 bf (fun f x y => f.encode (x.mul y)))
def execVopDiv (w : Who) (d a b : Nat) (hi : BitVec 7) := vop2 (.vopDiv w d a b hi) w d a b hi (fun bf => laneOp2 bf Fmt.divV)

/-- MIN and MAX (R74); in BF16 mode over the lanes rounded to BF16 (R75). -/
def execVopMin (w : Who) (d a b : Nat) (hi : BitVec 7) :=
  vop2 (.vopMin w d a b hi) w d a b hi (fun bf x y => if bf then fp32.minC (toBf x) (toBf y) else fp32.minC x y)
def execVopMax (w : Who) (d a b : Nat) (hi : BitVec 7) :=
  vop2 (.vopMax w d a b hi) w d a b hi (fun bf x y => if bf then fp32.maxC (toBf x) (toBf y) else fp32.maxC x y)

/-- A VOP of one source vector, with B = 0; `ok` is what FN allows. -/
def vop1 (i : Instr) (w : Who) (d a b : Nat) (ok : Bool) (f : List Nat → List Nat) (s : State) :
    Host.Outcome State Fault Refusal :=
  vecOp i w [d, a, b] [d, a] (ok && b == 0) (fun s => .done (s.setVreg w d (f (s.vreg w a)))) s

/-- SQRT (R97), in FP32 or BF16 (R75). -/
def execVopSqrt (w : Who) (d a b : Nat) (hi : BitVec 7) :=
  vop1 (.vopSqrt w d a b hi) w d a b (bfOk hi) (List.map (fun x =>
    if bfOf hi then convert bf16 fp32 (bf16.sqrtV (fp32.decode (toBf x))) else fp32.sqrtV (fp32.decode x)))
def execCvti (w : Who) (d a b : Nat) (hi : BitVec 7) := vop1 (.cvti w d a b hi) w d a b (hi == 0) (List.map toInt32)
def execCvtf (w : Who) (d a b : Nat) (hi : BitVec 7) := vop1 (.cvtf w d a b hi) w d a b (hi == 0) (List.map ofInt32)
def execRbf (w : Who) (d a b : Nat) (hi : BitVec 7) := vop1 (.rbf w d a b hi) w d a b (hi == 0) (List.map toBf)
def execRhf (w : Who) (d a b : Nat) (hi : BitVec 7) := vop1 (.rhf w d a b hi) w d a b (hi == 0) (List.map toHf)

/-- HMAX, HMIN: every lane the maximum or minimum over the 64 lanes (R74, R97). -/
def execHmax (w : Who) (d a b : Nat) (hi : BitVec 7) :=
  vop1 (.hmax w d a b hi) w d a b (hi == 0) (fun v => List.replicate 64 (v.foldl fp32.maxC (v.headD 0)))
def execHmin (w : Who) (d a b : Nat) (hi : BitVec 7) :=
  vop1 (.hmin w d a b hi) w d a b (hi == 0) (fun v => List.replicate 64 (v.foldl fp32.minC (v.headD 0)))
def execBcast (w : Who) (d a b : Nat) (hi : BitVec 7) :=
  vop1 (.bcast w d a b hi) w d a b (hi == 0) (fun v => List.replicate 64 (v.headD 0))

/-- VFMA: X[D] = fma(X[A], X[B], X[D]) per lane; FN[4] selects BF16, all other FN bits are zero (R97). -/
def execVfma (w : Who) (d a b : Nat) (fn : BitVec 11) (s : State) : Host.Outcome State Fault Refusal :=
  vecOp (.vfma w d a b fn) w [d, a, b] [d, a, b] (fn == 0 || fn == 0x10) (fun s =>
    let one (x y z : Nat) : Nat :=
      if fn = 0x10 then
        convert bf16 fp32 (bf16.fmaV (fp32.decode (toBf x)) (fp32.decode (toBf y)) (fp32.decode (toBf z)))
      else fFma x y z
    let xs := s.vreg w a
    let ys := s.vreg w b
    let zs := s.vreg w d
    .done (s.setVreg w d ((List.range 64).map (fun i => one (xs.getD i 0) (ys.getD i 0) (zs.getD i 0))))) s

/-- VSFN (R77–R82, R97): B = 0, FN[4] selects BF16 (bit 1 of FN[10:3]), all other FN bits zero. -/
def vsfn (i : Instr) (w : Who) (d a b : Nat) (hi : BitVec 8) (f : Sfn) (s : State) : Host.Outcome State Fault Refusal :=
  vop1 i w d a b (hi == 0 || hi == 2) (List.map (f.eval (hi == 2))) s

def execVsfnExp (w : Who) (d a b : Nat) (hi : BitVec 8) := vsfn (.vsfnExp w d a b hi) w d a b hi .exp
def execVsfnLog (w : Who) (d a b : Nat) (hi : BitVec 8) := vsfn (.vsfnLog w d a b hi) w d a b hi .log
def execVsfnRsqrt (w : Who) (d a b : Nat) (hi : BitVec 8) := vsfn (.vsfnRsqrt w d a b hi) w d a b hi .rsqrt
def execVsfnTanh (w : Who) (d a b : Nat) (hi : BitVec 8) := vsfn (.vsfnTanh w d a b hi) w d a b hi .tanh
def execVsfnSigmoid (w : Who) (d a b : Nat) (hi : BitVec 8) := vsfn (.vsfnSigmoid w d a b hi) w d a b hi .sigmoid
def execVsfnErf (w : Who) (d a b : Nat) (hi : BitVec 8) := vsfn (.vsfnErf w d a b hi) w d a b hi .erf

/-! ## VRED (R98) -/

def vredAnch (hi : BitVec 9) : Nat := hi.toNat % 256
def vredK (hi : BitVec 9) : Nat := hi.toNat / 256

/-- A VRED waits in WAIT_UNIT while a VE descriptor is active (R122). -/
def vred (i : Instr) (w : Who) (rs xs : List Nat) (ok : Bool) (body : Device → Device) (s : State) :
    Host.Outcome State Fault Refusal :=
  vecOp i w rs xs ok (fun s =>
    if s.unitFull w.c w.t w.n .veSlots then .waits .veSlots else .done (body s)) s

/-- SUM: VE[B + 32K] accumulates the 64 lanes of X[A] under R67; D = 0. -/
def execVredSum (w : Who) (d a b : Nat) (hi : BitVec 9) :=
  vred (.vredSum w d a b hi) w [d, a, b] [a] (d == 0) (fun s =>
    s.modTile w.c w.t (fun x => { x with ve := x.ve.upd {} (b + 32 * vredK hi) (fun e =>
      (s.vreg w a).foldl (fun e v => e.add (Ewa.ofFp32 v (x.anchors.get 0 (vredAnch hi)))) e) }))

/-- LANES: VE[i] accumulates lane i of X[A]; D = B = K = 0. -/
def execVredLanes (w : Who) (d a b : Nat) (hi : BitVec 9) :=
  vred (.vredLanes w d a b hi) w [d, a, b] [a] (d == 0 && b == 0 && vredK hi == 0) (fun s =>
    s.modTile w.c w.t (fun x => { x with ve := (List.range 64).foldl (fun ve i =>
      ve.upd {} i (fun e => e.add (Ewa.ofFp32 ((s.vreg w a).getD i 0) (x.anchors.get 0 (vredAnch hi))))) x.ve }))

/-- CVT: lane i of X[D] = VE[i] in FP32 under R71, its events counted (R68); A = B = K = 0. -/
def execVredCvt (w : Who) (d a b : Nat) (hi : BitVec 9) :=
  vred (.vredCvt w d a b hi) w [d, a, b] [d] (a == 0 && b == 0 && vredK hi == 0) (fun s =>
    let x := s.tile w.c w.t
    let rs := (List.range 64).map (fun i => (x.ve.get {} i).toFloat fp32 (x.anchors.get 0 (vredAnch hi)))
    (s.setVreg w d (rs.map Prod.fst)).arith w.c w.t (rs.foldl (fun e r => e.add r.2) {}))

/-- CLR: clears VE0–VE63; every other field is zero. -/
def execVredClr (w : Who) (d a b : Nat) (hi : BitVec 9) :=
  vred (.vredClr w d a b hi) w [d, a, b] [] (d == 0 && a == 0 && b == 0 && hi == 0) (fun s =>
    s.modTile w.c w.t (fun x => { x with ve := [] }))

end Sys2Proof.Machine
end

