-- ==== Sys2Proof/Machine/Dispatch.lean ====
section
/-! DEFINITION. The meaning of every command: one arm per row of spec/opcode_table.json. -/

namespace Sys2Proof.Machine

def exec (i : Instr) (s : State) : Host.Outcome State Fault Refusal :=
  match i with
  | .powerGood b => Sys2Proof.Machine.execPowerGood b s
  | .firmwareTimeout => Sys2Proof.Machine.execFirmwareTimeout s
  | .startUpStepTimeout => Sys2Proof.Machine.execStartUpStepTimeout s
  | .identityKeysReady => Sys2Proof.Machine.execIdentityKeysReady s
  | .modRstNAssert lowNs => Sys2Proof.Machine.execModRstNAssert lowNs s
  | .modRstNRelease b => Sys2Proof.Machine.execModRstNRelease b s
  | .inputLoss => Sys2Proof.Machine.execInputLoss s
  | .powerUp inputLowMs => Sys2Proof.Machine.execPowerUp inputLowMs s
  | .refclkInvalid => Sys2Proof.Machine.execRefclkInvalid s
  | .refclkRestored => Sys2Proof.Machine.execRefclkRestored s
  | .cartridgeLatchOpen lu leaves => Sys2Proof.Machine.execCartridgeLatchOpen lu s leaves
  | .cartridgeInserted lu selfCheck onHours => Sys2Proof.Machine.execCartridgeInserted lu selfCheck onHours s
  | .add w d a b => Sys2Proof.Machine.execAdd w d a b s
  | .sub w d a b => Sys2Proof.Machine.execSub w d a b s
  | .and w d a b => Sys2Proof.Machine.execAnd w d a b s
  | .or w d a b => Sys2Proof.Machine.execOr w d a b s
  | .xor w d a b => Sys2Proof.Machine.execXor w d a b s
  | .shl w d a b => Sys2Proof.Machine.execShl w d a b s
  | .shr w d a b => Sys2Proof.Machine.execShr w d a b s
  | .sra w d a b => Sys2Proof.Machine.execSra w d a b s
  | .mul w d a b => Sys2Proof.Machine.execMul w d a b s
  | .slt w d a b => Sys2Proof.Machine.execSlt w d a b s
  | .sltu w d a b => Sys2Proof.Machine.execSltu w d a b s
  | .addi w d a imm => Sys2Proof.Machine.execAddi w d a imm s
  | .lui w d a imm => Sys2Proof.Machine.execLui w d a imm s
  | .ld w d a imm => Sys2Proof.Machine.execLd w d a imm s
  | .st w d a imm => Sys2Proof.Machine.execSt w d a imm s
  | .spr w d a imm => Sys2Proof.Machine.execSpr w d a imm s
  | .beq w a b off => Sys2Proof.Machine.execBeq w a b off s
  | .bne w a b off => Sys2Proof.Machine.execBne w a b off s
  | .blt w a b off => Sys2Proof.Machine.execBlt w a b off s
  | .bge w a b off => Sys2Proof.Machine.execBge w a b off s
  | .jal w off => Sys2Proof.Machine.execJal w off s
  | .jr w d a imm => Sys2Proof.Machine.execJr w d a imm s
  | .sld w d a b fn => Sys2Proof.Machine.execSld w d a b fn s
  | .sst w d a b fn => Sys2Proof.Machine.execSst w d a b fn s
  | .fetchAddInt64 w d a b hi => Sys2Proof.Machine.execFetchAddInt64 w d a b hi s
  | .fetchAddEwa96 w d a b hi => Sys2Proof.Machine.execFetchAddEwa96 w d a b hi s
  | .swap w d a b hi => Sys2Proof.Machine.execSwap w d a b hi s
  | .compareSwap w d a b hi => Sys2Proof.Machine.execCompareSwap w d a b hi s
  | .atomicMin w d a b hi => Sys2Proof.Machine.execAtomicMin w d a b hi s
  | .atomicMax w d a b hi => Sys2Proof.Machine.execAtomicMax w d a b hi s
  | .atomicAnd w d a b hi => Sys2Proof.Machine.execAtomicAnd w d a b hi s
  | .atomicOr w d a b hi => Sys2Proof.Machine.execAtomicOr w d a b hi s
  | .atomicXor w d a b hi => Sys2Proof.Machine.execAtomicXor w d a b hi s
  | .send w d a imm => Sys2Proof.Machine.execSend w d a imm s
  | .receive w d a imm => Sys2Proof.Machine.execReceive w d a imm s
  | .sendEwa w d a imm => Sys2Proof.Machine.execSendEwa w d a imm s
  | .receiveEwaAdd w d a imm => Sys2Proof.Machine.execReceiveEwaAdd w d a imm s
  | .lbRead w d a imm => Sys2Proof.Machine.execLbRead w d a imm s
  | .lbWrite w d a imm => Sys2Proof.Machine.execLbWrite w d a imm s
  | .remoteGet w d a imm => Sys2Proof.Machine.execRemoteGet w d a imm s
  | .remotePut w d a imm => Sys2Proof.Machine.execRemotePut w d a imm s
  | .mma w d a imm => Sys2Proof.Machine.execMma w d a imm s
  | .mcvt w d a imm => Sys2Proof.Machine.execMcvt w d a imm s
  | .mclr w d a imm => Sys2Proof.Machine.execMclr w d a imm s
  | .vld w d a imm => Sys2Proof.Machine.execVld w d a imm s
  | .vst w d a imm => Sys2Proof.Machine.execVst w d a imm s
  | .vopAdd w d a b hi => Sys2Proof.Machine.execVopAdd w d a b hi s
  | .vopSub w d a b hi => Sys2Proof.Machine.execVopSub w d a b hi s
  | .vopMul w d a b hi => Sys2Proof.Machine.execVopMul w d a b hi s
  | .vopDiv w d a b hi => Sys2Proof.Machine.execVopDiv w d a b hi s
  | .vopSqrt w d a b hi => Sys2Proof.Machine.execVopSqrt w d a b hi s
  | .vopMin w d a b hi => Sys2Proof.Machine.execVopMin w d a b hi s
  | .vopMax w d a b hi => Sys2Proof.Machine.execVopMax w d a b hi s
  | .cvti w d a b hi => Sys2Proof.Machine.execCvti w d a b hi s
  | .cvtf w d a b hi => Sys2Proof.Machine.execCvtf w d a b hi s
  | .rbf w d a b hi => Sys2Proof.Machine.execRbf w d a b hi s
  | .rhf w d a b hi => Sys2Proof.Machine.execRhf w d a b hi s
  | .hmax w d a b hi => Sys2Proof.Machine.execHmax w d a b hi s
  | .hmin w d a b hi => Sys2Proof.Machine.execHmin w d a b hi s
  | .bcast w d a b hi => Sys2Proof.Machine.execBcast w d a b hi s
  | .vfma w d a b fn => Sys2Proof.Machine.execVfma w d a b fn s
  | .vsfnExp w d a b hi => Sys2Proof.Machine.execVsfnExp w d a b hi s
  | .vsfnLog w d a b hi => Sys2Proof.Machine.execVsfnLog w d a b hi s
  | .vsfnRsqrt w d a b hi => Sys2Proof.Machine.execVsfnRsqrt w d a b hi s
  | .vsfnTanh w d a b hi => Sys2Proof.Machine.execVsfnTanh w d a b hi s
  | .vsfnSigmoid w d a b hi => Sys2Proof.Machine.execVsfnSigmoid w d a b hi s
  | .vsfnErf w d a b hi => Sys2Proof.Machine.execVsfnErf w d a b hi s
  | .vredSum w d a b hi => Sys2Proof.Machine.execVredSum w d a b hi s
  | .vredLanes w d a b hi => Sys2Proof.Machine.execVredLanes w d a b hi s
  | .vredCvt w d a b hi => Sys2Proof.Machine.execVredCvt w d a b hi s
  | .vredClr w d a b hi => Sys2Proof.Machine.execVredClr w d a b hi s
  | .fence w d a imm => Sys2Proof.Machine.execFence w d a imm s
  | .tcwait w d a imm => Sys2Proof.Machine.execTcwait w d a imm s
  | .ccwait w d a imm => Sys2Proof.Machine.execCcwait w d a imm s
  | .tbar w d a imm => Sys2Proof.Machine.execTbar w d a imm s
  | .eow w d a imm => Sys2Proof.Machine.execEow w d a imm s
  | .watchdog c t n => Sys2Proof.Machine.execWatchdog c t n s
  | .releaseSlot c t => Sys2Proof.Machine.execReleaseSlot c t s
  | .matrixOpBegin c t upset => Sys2Proof.Machine.execMatrixOpBegin c t upset s
  | .mmaComplete c t => Sys2Proof.Machine.execMmaComplete c t s
  | .mcvtComplete c t => Sys2Proof.Machine.execMcvtComplete c t s
  | .counterWrap c t n => Sys2Proof.Machine.execCounterWrap c t n s
  | .flitInject c t slot upset => Sys2Proof.Machine.execFlitInject c t slot upset s
  | .flitArrive c t inputs => Sys2Proof.Machine.execFlitArrive c t inputs s
  | .descriptorComplete c t slot => Sys2Proof.Machine.execDescriptorComplete c t slot s
  | .streamEngineRequest c e => Sys2Proof.Machine.execStreamEngineRequest c e s
  | .remoteResponse p => Sys2Proof.Machine.execRemoteResponse p s
  | .tileFailure c t => Sys2Proof.Machine.execTileFailure c t s
  | .tileAccession c row carryOk => Sys2Proof.Machine.execTileAccession c row carryOk s
  | .tick => Sys2Proof.Machine.execTick s
  | .deadline => Sys2Proof.Machine.execDeadline s
  | .confirmPoint => Sys2Proof.Machine.execConfirmPoint s
  | .regulatorWarning => Sys2Proof.Machine.execRegulatorWarning s
  | .phaseBoundary => Sys2Proof.Machine.execPhaseBoundary s
  | .retuneGuardEnd => Sys2Proof.Machine.execRetuneGuardEnd s
  | .poolGrant => Sys2Proof.Machine.execPoolGrant s
  | .cellSend bus chan => Sys2Proof.Machine.execCellSend bus chan s
  | .cellReceive site bus chan sentBus sentChan errors headerOk tickClear => Sys2Proof.Machine.execCellReceive site bus chan sentBus sentChan errors s headerOk tickClear
  | .darkChannel site bus chan => Sys2Proof.Machine.execDarkChannel site bus chan s
  | .fetchLineRead entry => Sys2Proof.Machine.execFetchLineRead entry s
  | .windowLineApply site => Sys2Proof.Machine.execWindowLineApply site s
  | .calibrationPass bus line base up down => Sys2Proof.Machine.execCalibrationPass bus line base up down s
  | .calStale bus line => Sys2Proof.Machine.execCalStale bus line s
  | .liveUpdate site bus ring quantity hist dither => Sys2Proof.Machine.execLiveUpdate site bus ring quantity hist dither s
  | .feedForward c activity => Sys2Proof.Machine.execFeedForward c activity s
  | .ringAcquisition site bus ring line => Sys2Proof.Machine.execRingAcquisition site bus ring line s
  | .identityCheck site bus ring tones => Sys2Proof.Machine.execIdentityCheck site bus ring tones s
  | .ringLockTimeout site bus ring => Sys2Proof.Machine.execRingLockTimeout site bus ring s
  | .lockLoss site bus ring => Sys2Proof.Machine.execLockLoss site bus ring s
  | .lineDeaccession q line => Sys2Proof.Machine.execLineDeaccession q line s
  | .cartridgeSwitchCondition q cond value lines => Sys2Proof.Machine.execCartridgeSwitchCondition q cond value s lines
  | .cartridgeSwitchComplete q oldFailed healthy unlocked => Sys2Proof.Machine.execCartridgeSwitchComplete q oldFailed healthy s unlocked
  | .controllerRead m h line site id bus => Sys2Proof.Machine.execControllerRead m h line site id s bus
  | .controllerWrite m h line data parity enable site bus => Sys2Proof.Machine.execControllerWrite m h line data parity enable s site bus
  | .readResponseLeave m h line err => Sys2Proof.Machine.execReadResponseLeave m h line err s
  | .unreadableLineReport m h line => Sys2Proof.Machine.execUnreadableLineReport m h line s
  | .pageRepair page => Sys2Proof.Machine.execPageRepair page s
  | .softRepair m h row => Sys2Proof.Machine.execSoftRepair m h row s
  | .hbmCommandTimeout m h cmd => Sys2Proof.Machine.execHbmCommandTimeout m h cmd s
  | .hbmTemperatureRead m temp => Sys2Proof.Machine.execHbmTemperatureRead m temp s
  | .migration m h => Sys2Proof.Machine.execMigration m h s
  | .migrationCopyComplete m => Sys2Proof.Machine.execMigrationCopyComplete m s
  | .patrolScrub errors => Sys2Proof.Machine.execPatrolScrub s errors
  | .ddrHardLoss dimm => Sys2Proof.Machine.execDdrHardLoss dimm s
  | .laneTraining z peer role group side index delayNs pos => Sys2Proof.Machine.execLaneTraining z peer role group side index delayNs s pos
  | .trainingAttemptTimeout z => Sys2Proof.Machine.execTrainingAttemptTimeout z s
  | .laneInterrupted z => Sys2Proof.Machine.execLaneInterrupted z s
  | .laneLightReturn z => Sys2Proof.Machine.execLaneLightReturn z s
  | .laneDown z => Sys2Proof.Machine.execLaneDown z s
  | .laneWake z => Sys2Proof.Machine.execLaneWake z s
  | .bypassElementOpen k => Sys2Proof.Machine.execBypassElementOpen k s
  | .bypassLaneTimeout k => Sys2Proof.Machine.execBypassLaneTimeout k s
  | .write v p => Sys2Proof.Machine.execWrite v p s
  | .read v p => Sys2Proof.Machine.execRead v p s
  | .readResp v p => Sys2Proof.Machine.execReadResp v p s
  | .atomic v p => Sys2Proof.Machine.execAtomic v p s
  | .atomicResp v p => Sys2Proof.Machine.execAtomicResp v p s
  | .ack v p => Sys2Proof.Machine.execAck v p s
  | .mcastWrite v p => Sys2Proof.Machine.execMcastWrite v p s
  | .reduce v p => Sys2Proof.Machine.execReduce v p s
  | .tickPacket v p => Sys2Proof.Machine.execTickPacket v p s
  | .hold v p => Sys2Proof.Machine.execHold v p s
  | .lease v p => Sys2Proof.Machine.execLease v p s
  | .mbxWrite v p => Sys2Proof.Machine.execMbxWrite v p s
  | .mbxReject v p => Sys2Proof.Machine.execMbxReject v p s
  | .rtWrite v p => Sys2Proof.Machine.execRtWrite v p s
  | .rtFlip v p => Sys2Proof.Machine.execRtFlip v p s
  | .epochGraceEnd => Sys2Proof.Machine.execEpochGraceEnd s
  | .telemMap => Sys2Proof.Machine.execTelemMap s
  | .telemSample z received p => Sys2Proof.Machine.execTelemSample z received p s
  | .scheduledTransferPacket entry => Sys2Proof.Machine.execScheduledTransferPacket entry s
  | .linkDelayMeasurement z roundTripNs => Sys2Proof.Machine.execLinkDelayMeasurement z roundTripNs s
  | .tickHoldover => Sys2Proof.Machine.execTickHoldover s
  | .tickHoldoverTimeout => Sys2Proof.Machine.execTickHoldoverTimeout s
  | .requestTimeout id => Sys2Proof.Machine.execRequestTimeout id s
  | .windowEntryRelease p src seng dst => Sys2Proof.Machine.execWindowEntryRelease p src seng dst s
  | .drain p line => Sys2Proof.Machine.execDrain p line s
  | .drainApplied p line => Sys2Proof.Machine.execDrainApplied p line s
  | .atomicExecute p line => Sys2Proof.Machine.execAtomicExecute p line s
  | .replayRecordRelease p src seng dst seq => Sys2Proof.Machine.execReplayRecordRelease p src seng dst seq s
  | .controlDomainAccess agent off bytes op => Sys2Proof.Machine.execControlDomainAccess agent off bytes op s
  | .crossingAlignment x sweeps verified => Sys2Proof.Machine.execCrossingAlignment x sweeps verified s
  | .alignmentAttemptTimeout x => Sys2Proof.Machine.execAlignmentAttemptTimeout x s
  | .slip x third => Sys2Proof.Machine.execSlip x third s
  | .stackReset c => Sys2Proof.Machine.execStackReset c s
  | .clockPresent c => Sys2Proof.Machine.execClockPresent c s
  | .stackRejoin c => Sys2Proof.Machine.execStackRejoin c s
  | .stackPllTimeout c => Sys2Proof.Machine.execStackPllTimeout c s
  | .droop c permille => Sys2Proof.Machine.execDroop c permille s
  | .stretchRelease c => Sys2Proof.Machine.execStretchRelease c s
  | .frequencyMove c => Sys2Proof.Machine.execFrequencyMove c s
  | .suspensionEnd c => Sys2Proof.Machine.execSuspensionEnd c s
  | .frequencyChangeTimeout c => Sys2Proof.Machine.execFrequencyChangeTimeout c s
  | .clkDomTarget g d value => Sys2Proof.Machine.execClkDomTarget g d value s
  | .clkDomReset g d value => Sys2Proof.Machine.execClkDomReset g d value s
  | .powerSample watts => Sys2Proof.Machine.execPowerSample watts s
  | .inputBudget x => Sys2Proof.Machine.execInputBudget x s
  | .powerReport => Sys2Proof.Machine.execPowerReport s
  | .pwrRptWrite v p => Sys2Proof.Machine.execPwrRptWrite v p s
  | .powerCoordination => Sys2Proof.Machine.execPowerCoordination s
  | .pwrAssignWrite v p => Sys2Proof.Machine.execPwrAssignWrite v p s
  | .coordinationTimeout further => Sys2Proof.Machine.execCoordinationTimeout further s
  | .sensorSample g rs => Sys2Proof.Machine.execSensorSample g rs s
  | .fastSamplingEnd g => Sys2Proof.Machine.execFastSamplingEnd g s
  | .divisionEnd c => Sys2Proof.Machine.execDivisionEnd c s
  | .regulatorPhaseFailure rail derated => Sys2Proof.Machine.execRegulatorPhaseFailure rail derated s
  | .testSlot c group sweeps => Sys2Proof.Machine.execTestSlot c group sweeps s
  | .curatorHeartbeat => Sys2Proof.Machine.execCuratorHeartbeat s
  | .curatorTakeover => Sys2Proof.Machine.execCuratorTakeover s
  | .beaconDue => Sys2Proof.Machine.execBeaconDue s
  | .flashHoldRelease => Sys2Proof.Machine.execFlashHoldRelease s
  | .loadTimeout => Sys2Proof.Machine.execLoadTimeout s
  | .mbxDataWrite g n value => Sys2Proof.Machine.execMbxDataWrite g n value s
  | .mbxDataRead g n => Sys2Proof.Machine.execMbxDataRead g n s
  | .commandTake m => Sys2Proof.Machine.execCommandTake m s
  | .ackAlarm m => Sys2Proof.Machine.execAckAlarm m s
  | .hostHold m => Sys2Proof.Machine.execHostHold m s
  | .stop m => Sys2Proof.Machine.execStop m s
  | .load m => Sys2Proof.Machine.execLoad m s
  | .loadEnd m => Sys2Proof.Machine.execLoadEnd m s
  | .unload m => Sys2Proof.Machine.execUnload m s
  | .start m => Sys2Proof.Machine.execStart m s
  | .startAt m => Sys2Proof.Machine.execStartAt m s
  | .abortStart m => Sys2Proof.Machine.execAbortStart m s
  | .startTimeout m => Sys2Proof.Machine.execStartTimeout m s
  | .abortDeadline m => Sys2Proof.Machine.execAbortDeadline m s
  | .jobStart => Sys2Proof.Machine.execJobStart s
  | .rejoin m => Sys2Proof.Machine.execRejoin m s
  | .xferClaim m => Sys2Proof.Machine.execXferClaim m s
  | .xferRelease m => Sys2Proof.Machine.execXferRelease m s
  | .xferClaimLapse => Sys2Proof.Machine.execXferClaimLapse s
  | .attest m => Sys2Proof.Machine.execAttest m s
  | .catErase m => Sys2Proof.Machine.execCatErase m s
  | .catWrite m => Sys2Proof.Machine.execCatWrite m s
  | .summary m => Sys2Proof.Machine.execSummary m s
  | .pmcSet m => Sys2Proof.Machine.execPmcSet m s
  | .ringRead m => Sys2Proof.Machine.execRingRead m s
  | .mapRead m => Sys2Proof.Machine.execMapRead m s
  | .frmLenPendWrite g slot value tickCycle => Sys2Proof.Machine.execFrmLenPendWrite g slot value tickCycle s
  | .glbBwCtlWrite g value => Sys2Proof.Machine.execGlbBwCtlWrite g value s
  | .bandwidthWindow => Sys2Proof.Machine.execBandwidthWindow s
  | .ledCurWrite g r value => Sys2Proof.Machine.execLedCurWrite g r value s
  | .recordPost kind index prio cls cause unit detail => Sys2Proof.Machine.execRecordPost kind index prio cls cause unit detail s
  | .ledgerToken kind index prio => Sys2Proof.Machine.execLedgerToken kind index prio s
  | .alarmFlashWrite seq => Sys2Proof.Machine.execAlarmFlashWrite seq s
  | .tstWrite g off value tickCycle => Sys2Proof.Machine.execTstWrite g off value tickCycle s
  | .i3cRegisterRead off => Sys2Proof.Machine.execI3cRegisterRead off s
  | .i3cPageProgram addr data => Sys2Proof.Machine.execI3cPageProgram addr data s
  | .i3cSectorErase addr => Sys2Proof.Machine.execI3cSectorErase addr s
  | .i3cStatusRead => Sys2Proof.Machine.execI3cStatusRead s
  | .registerWrite g off bytes value hw => Sys2Proof.Machine.execRegisterWrite g off bytes value s hw
  | .commandComplete m => Sys2Proof.Machine.execCommandComplete m s
  | .laneErrorRateExceeded z fibre errs => Sys2Proof.Machine.execLaneErrorRateExceeded z fibre s errs
  | .channelTrainingLoss m h => Sys2Proof.Machine.execChannelTrainingLoss m h s
  | .laneQuiesceNotice k east => Sys2Proof.Machine.execLaneQuiesceNotice k east s
  | .periodicStretch c => Sys2Proof.Machine.execPeriodicStretch c s
  | .rcRead g off counted => Sys2Proof.Machine.execRcRead g off counted s

end Sys2Proof.Machine
end

