-- ==== Sys2Proof/Machine/Time.lean ====
section
/-! DEFINITION. The passing of one nanosecond, one CD16 cycle (R350): what happens by the clock alone. -/

namespace Sys2Proof.Machine

/-! ## Stack clocks (R136, R360, R361, R370) -/

/-- Units of 1/960,000 cycle that the oscillator of a domain gives in 1 ns, after stretch and division.
(DESIGN CHOICE, log entry 3) -/
def Device.clockUnits (s : Device) (c : Nat) : Nat :=
  let x := s.die c
  let f := s.fget F.clkDomMhz 0 c
  let f := if x.stretch = 2 then 640 * f else if x.stretched then 768 * f else 960 * f
  if s.flag F.clkDomDiv4 0 c then f / 4 else f

/-- The clock of a stack runs. -/
def Device.clocked (s : Device) (c : Nat) : Bool :=
  s.flag F.clkDomLocked 0 c && !(s.die c).isolated && s.domState c != cdReset && s.domState c != cdIsolated

/-- The events of `k` cycles of a tile: its waiting threads, its matrix engine at work (R139). -/
def Device.cycleEvents (s : Device) (c t k : Nat) : Device :=
  let s := (List.range 8).foldl (fun s n =>
    let st := s.tstate c t n
    if st == .waitMem || st == .waitCount || st == .waitSync || st == .waitUnit then s.count c t evThreadWait n k else s) s
  if (s.tile c t).queue.any MatOp.begun then s.count c t evMmaBusy 0 k else s

/-- The cycles from the a-th to before the b-th that skipping removes: those at positions 0 to K − 1 of each group of 16 (R361). -/
def skippedIn (k a b : Nat) : Nat := ((List.range (b - a)).filter (fun i => decide ((a + i) % 16 < k))).length

/-- The regulator follows a downward move at the end of its interval (R362); the timer stands while it is suspended (R363). -/
def Die.lower (y : Die) (step : Nat) : Die :=
  if y.lowerIn = 0 ∨ y.suspended then y
  else { y with lowerIn := y.lowerIn - 1, volt := if y.lowerIn = 1 then step else y.volt }

/-- One ns of a stack's clock: the cycles its tiles run, those skipped, those stretched; a test stretch runs down, the rate adapters pass an
entry on.
(DESIGN CHOICE, log entries 3 and 136) -/
def Device.clockStack (s : Device) (c : Nat) : Device :=
  if !s.clocked c then s
  else
    let n := s.clockUnits c
    let x := s.die c
    let gone := skippedIn (s.skipOf c) (x.cycAcc / 960000) ((x.cycAcc + n) / 960000)
    let k := (x.cycAcc + n) / 960000 - x.cycAcc / 960000 - gone
    let s := s.modDie c (fun y => { y with
      cycAcc := y.cycAcc + n, skipped := y.skipped + gone
      adapter := (y.adapter.map (fun e => (e.1, e.2 - 1))).filter (fun e => e.2 != 0)
      stretchAcc := if y.stretched then y.stretchAcc + n else y.stretchAcc, testLeft := y.testLeft - n })
    let s := if x.testLeft ≠ 0 ∧ x.testLeft ≤ n then s.showDom c else s
    if k = 0 then s
    else (s.tiles.filter (fun e => e.1 / 272 == c)).foldl (fun s e => s.cycleEvents c (e.1 % 272) k) s

/-! ## Waiting, counted (R493) -/

/-- POOL_WAIT of a site: `n` cells wait for a grant. They have no bus before it, and count where ARG names all. -/
def Device.poolWaits (s : Device) (t n : Nat) : Device := s.pmc pmcPln (siteQuad t) (siteLocal t) 0x04 63 n

/-- LANE_WAIT of a packet, at each port die that has a lane it may take. -/
def Device.laneWaits (s : Device) (p : Pkt) : Device :=
  (List.range 4).foldl (fun s d =>
    if (s.routeEntry p.epoch p.dst).lanes.toNat / 2 ^ (16 * d) % 2 ^ 16 = 0 then s else s.pmc pmcPrt d 0 0x07 63 1) s

/-- SENDQ_FULL: the LB_WRITE streams of a tile whose flit has come to the tile and finds the send queue of its window full (R202). -/
def Device.windowWaits (s : Device) (k : Nat) (x : Tile) : Device :=
  let c := k / 272
  x.slots.foldl (fun s d =>
    let edge := sdEdge d.w2
    if sdKind d.w0 = kLbWrite ∧ !d.allMoved ∧ !s.lbRoom c edge (sdPlace d.w0 d.w1 d.w2 d.moved).toNat ∧
        x.fifo.any (fun l => l.2.any (fun f => f.tag == sdTag d.w0)) then
      s.pmc pmcPln (siteQuad c) (siteLocal c) 0x05 63 1
    else s) s

/-- What waits through a CD16 cycle: window writes for their send queue, cells for a grant, accesses for tokens, packets for a lane.
(DESIGN CHOICE, log entry 127) -/
def Device.waitEvents (s : Device) : Device :=
  let s := s.tiles.foldl (fun s e => s.windowWaits e.1 e.2) s
  let s := (s.reqs.filter (fun r => r.stage == .engine)).foldl (fun s r => s.poolWaits r.c r.cells) s
  let s := s.pln.waiting.foldl (fun s e => s.poolWaits (e.1 / 88) (e.2.map (s.demandOf (e.1 / 88) (e.1 % 88))).sum) s
  let s := s.mem.waiting.foldl (fun s e =>
    if s.lacksTokens (e.1 / 32) then s.pmc pmcMem (e.1 / 32) 0 0x04 (e.1 % 32) e.2.length else s) s
  s.fab.held.foldl Device.laneWaits s

/-- REFRESH of a stack in a µs: the spec does not give the refresh interval, so each channel's commands are a free number.
(DESIGN CHOICE, log entry 127) -/
def Device.refreshes (s : Device) (m : Nat) : Device :=
  if !s.flag F.memPmctlEnable m 0 then s
  else
    (List.range 32).foldl (fun s h =>
      let (w, s) := s.drawWord
      s.pmc pmcMem m 0 0x05 h (w.toNat % 2 ^ 16)) s

/-! ## Queues and the job time (R279, R302, R380, R496) -/

/-- While packets wait, the far ends' credits are what the spec does not give: free values. (DESIGN CHOICE, log entry 125) -/
def Device.drawCredit (s : Device) : Device :=
  if s.fab.txq.isEmpty then s
  else ({ s with free := s.free + 1 } : Device).modFab (fun f => { f with blocked := Config.creditless s.free })

/-- Each lane that is UP sends 50 bytes in 1 ns. (DESIGN CHOICE, log entry 3) -/
def Device.sendLanes (s : Device) : Device :=
  ((s.fab.laneQ.map Prod.fst).filter (fun z => s.laneState z == lUp)).foldl (fun s z => s.pump 4 z 50) s.drawCredit

/-- The job time is slewed by at most 1 ns per µs. (DESIGN CHOICE, log entry 3) -/
def Device.slew (s : Device) : Device :=
  if s.fab.offset = 0 then s
  else
    let d : Int := if 0 < s.fab.offset then 1 else -1
    (s.modFr (fun f => { f with jobTime := ((f.jobTime : Int) + d).toNat })).modFab (fun f => { f with offset := f.offset - d })

/-- Job time passes a nanosecond, at the rate of the last correction, in parts per 10⁹ (R302, R366). -/
def Device.passJobTime (s : Device) : Device :=
  let a : Int := s.fr.rateAcc + signed 32 (s.fget F.prtTickRate)
  s.modFr (fun f => { f with jobTime := ((f.jobTime : Int) + 1 + a / 1000000000).toNat, rateAcc := a % 1000000000 })

/-- While the device runs on the holdover oscillator no command says when REFCLK is valid again: REF_OK is a free value (R368).
(DESIGN CHOICE, log entry 137) -/
def Device.watchRef (s : Device) : Device :=
  if s.flag F.clkStatusRef then
    let (w, s) := s.drawWord
    s.setFlag F.clkStatusRefOk 0 0 (w.toNat % 2 == 1)
  else s

/-- What happens once each µs: tokens, the requests that wait for them, queue samples, the slew, the energy of what is lit. (DESIGN CHOICE, log entry 3) -/
def Device.eachMicro (s : Device) : Device := (List.range 20).foldl Device.refreshes s.refillTokens.retryAll.sampleQueues.slew.watchRef.linkEnergy

/-- One nanosecond. (DESIGN CHOICE, log entries 3 and 7) -/
def Device.passNs (s : Device) : Device :=
  let s : Device := { s with now := s.now + 1, led := { s.led with queues := [] } }
  let s := s.passJobTime.waitEvents.sendLanes
  let s := (List.range 16).foldl (fun s c => (s.clockStack c).modDie c (fun y => y.lower (s.domStep c))) s
  let s := if s.pwr.raisedUntil ≠ 0 ∧ s.pwr.raisedUntil ≤ s.now then s.modPwr (fun p => { p with raisedUntil := 0 }) else s
  if s.now % 1000 = 0 then s.eachMicro else s

end Sys2Proof.Machine
end

