-- ==== Sys2Proof/Machine/Step.lean ====
section
/-! DEFINITION. One step of the block: the command at the front of the queue, or one nanosecond of time. -/

namespace Sys2Proof.Machine

/-- One step: run the first command that waits, with the rest of the queue; with none waiting, a nanosecond passes (DESIGN
CHOICE, log entry 3). -/
def step (s : State) : Host.Outcome State Fault Refusal :=
  match s.pending with
  | [] => .next { s with toDevice := s.toDevice.passNs }
  | c :: rest => exec c { s with pending := rest }

/-- The state with the command that a table word spells put first in its queue. The table gives no bits, so
no word spells one. -/
def State.withFetchWord (s : State) (nbits w : Nat) : State :=
  match Sys2Proof.decodeTableWord nbits w with
  | none => s
  | some c => { s with pending := c :: s.pending }

end Sys2Proof.Machine
end

