-- ==== Sys2Proof/Machine/Formed.lean ====
section
/-! DEFINITION. Well-formed commands: every unit a command names exists (R8), and its operands fit the fields that carry
them. -/

namespace Sys2Proof.Machine

/-- Register fields have 5 bits (R94). -/
def regsOk (rs : List Nat) : Bool := rs.all (fun r => decide (r < 32))

/-- The operands of a command name units the device has. -/
def formed : Instr → Bool
  | .powerGood _ => true
  | .firmwareTimeout => true
  | .startUpStepTimeout => true
  | .identityKeysReady => true
  | .modRstNAssert _ => true
  | .modRstNRelease _ => true
  | .inputLoss => true
  | .powerUp _ => true
  | .refclkInvalid => true
  | .refclkRestored => true
  | .cartridgeLatchOpen lu _ => decide (lu < 8)
  | .cartridgeInserted lu _ _ => decide (lu < 8)
  | .add w d a b => w.ok && regsOk [d, a, b]
  | .sub w d a b => w.ok && regsOk [d, a, b]
  | .and w d a b => w.ok && regsOk [d, a, b]
  | .or w d a b => w.ok && regsOk [d, a, b]
  | .xor w d a b => w.ok && regsOk [d, a, b]
  | .shl w d a b => w.ok && regsOk [d, a, b]
  | .shr w d a b => w.ok && regsOk [d, a, b]
  | .sra w d a b => w.ok && regsOk [d, a, b]
  | .mul w d a b => w.ok && regsOk [d, a, b]
  | .slt w d a b => w.ok && regsOk [d, a, b]
  | .sltu w d a b => w.ok && regsOk [d, a, b]
  | .addi w d a _ => w.ok && regsOk [d, a]
  | .lui w d a _ => w.ok && regsOk [d, a]
  | .ld w d a _ => w.ok && regsOk [d, a]
  | .st w d a _ => w.ok && regsOk [d, a]
  | .spr w d a _ => w.ok && regsOk [d, a]
  | .beq w a b _ => w.ok && regsOk [a, b]
  | .bne w a b _ => w.ok && regsOk [a, b]
  | .blt w a b _ => w.ok && regsOk [a, b]
  | .bge w a b _ => w.ok && regsOk [a, b]
  | .jal w _ => w.ok
  | .jr w d a _ => w.ok && regsOk [d, a]
  | .sld w d a b _ => w.ok && regsOk [d, a, b]
  | .sst w d a b _ => w.ok && regsOk [d, a, b]
  | .fetchAddInt64 w d a b _ => w.ok && regsOk [d, a, b]
  | .fetchAddEwa96 w d a b _ => w.ok && regsOk [d, a, b]
  | .swap w d a b _ => w.ok && regsOk [d, a, b]
  | .compareSwap w d a b _ => w.ok && regsOk [d, a, b]
  | .atomicMin w d a b _ => w.ok && regsOk [d, a, b]
  | .atomicMax w d a b _ => w.ok && regsOk [d, a, b]
  | .atomicAnd w d a b _ => w.ok && regsOk [d, a, b]
  | .atomicOr w d a b _ => w.ok && regsOk [d, a, b]
  | .atomicXor w d a b _ => w.ok && regsOk [d, a, b]
  | .send w d a _ => w.ok && regsOk [d, a]
  | .receive w d a _ => w.ok && regsOk [d, a]
  | .sendEwa w d a _ => w.ok && regsOk [d, a]
  | .receiveEwaAdd w d a _ => w.ok && regsOk [d, a]
  | .lbRead w d a _ => w.ok && regsOk [d, a]
  | .lbWrite w d a _ => w.ok && regsOk [d, a]
  | .remoteGet w d a _ => w.ok && regsOk [d, a]
  | .remotePut w d a _ => w.ok && regsOk [d, a]
  | .mma w d a _ => w.ok && regsOk [d, a]
  | .mcvt w d a _ => w.ok && regsOk [d, a]
  | .mclr w d a _ => w.ok && regsOk [d, a]
  | .vld w d a _ => w.ok && regsOk [d, a]
  | .vst w d a _ => w.ok && regsOk [d, a]
  | .vopAdd w d a b _ => w.ok && regsOk [d, a, b]
  | .vopSub w d a b _ => w.ok && regsOk [d, a, b]
  | .vopMul w d a b _ => w.ok && regsOk [d, a, b]
  | .vopDiv w d a b _ => w.ok && regsOk [d, a, b]
  | .vopSqrt w d a b _ => w.ok && regsOk [d, a, b]
  | .vopMin w d a b _ => w.ok && regsOk [d, a, b]
  | .vopMax w d a b _ => w.ok && regsOk [d, a, b]
  | .cvti w d a b _ => w.ok && regsOk [d, a, b]
  | .cvtf w d a b _ => w.ok && regsOk [d, a, b]
  | .rbf w d a b _ => w.ok && regsOk [d, a, b]
  | .rhf w d a b _ => w.ok && regsOk [d, a, b]
  | .hmax w d a b _ => w.ok && regsOk [d, a, b]
  | .hmin w d a b _ => w.ok && regsOk [d, a, b]
  | .bcast w d a b _ => w.ok && regsOk [d, a, b]
  | .vfma w d a b _ => w.ok && regsOk [d, a, b]
  | .vsfnExp w d a b _ => w.ok && regsOk [d, a, b]
  | .vsfnLog w d a b _ => w.ok && regsOk [d, a, b]
  | .vsfnRsqrt w d a b _ => w.ok && regsOk [d, a, b]
  | .vsfnTanh w d a b _ => w.ok && regsOk [d, a, b]
  | .vsfnSigmoid w d a b _ => w.ok && regsOk [d, a, b]
  | .vsfnErf w d a b _ => w.ok && regsOk [d, a, b]
  | .vredSum w d a b _ => w.ok && regsOk [d, a, b]
  | .vredLanes w d a b _ => w.ok && regsOk [d, a, b]
  | .vredCvt w d a b _ => w.ok && regsOk [d, a, b]
  | .vredClr w d a b _ => w.ok && regsOk [d, a, b]
  | .fence w d a _ => w.ok && regsOk [d, a]
  | .tcwait w d a _ => w.ok && regsOk [d, a]
  | .ccwait w d a _ => w.ok && regsOk [d, a]
  | .tbar w d a _ => w.ok && regsOk [d, a]
  | .eow w d a _ => w.ok && regsOk [d, a]
  | .watchdog c t n => threadOk c t n
  | .releaseSlot c t => tileOk c t
  | .matrixOpBegin c t _ => tileOk c t
  | .mmaComplete c t => tileOk c t
  | .mcvtComplete c t => tileOk c t
  | .counterWrap c t n => threadOk c t n
  | .flitInject c t slot _ => tileOk c t && decide (slot ≤ 16)
  | .flitArrive c t _ => tileOk c t
  | .descriptorComplete c t slot => tileOk c t && decide (slot < 16)
  | .streamEngineRequest c e => stackOk c && decide (e < 8)
  | .remoteResponse p => p.ok
  | .tileFailure c t => tileOk c t
  | .tileAccession c row _ => stackOk c && decide (row < 16)
  | .tick => true
  | .deadline => true
  | .confirmPoint => true
  | .regulatorWarning => true
  | .phaseBoundary => true
  | .retuneGuardEnd => true
  | .poolGrant => true
  | .cellSend bus chan => chanOk bus chan
  | .cellReceive site bus chan sentBus sentChan _ _ _ => siteOk site && chanOk bus chan && chanOk sentBus sentChan && passes bus site
  | .darkChannel site bus chan => siteOk site && chanOk bus chan && passes bus site
  | .fetchLineRead _ => true
  | .windowLineApply site => isMemSite site
  | .calibrationPass bus _ _ _ _ => busOk bus
  | .calStale bus line => busOk bus && lineOk line
  | .liveUpdate site bus ring quantity _ _ => hasRing site bus ring && decide (quantity < 4)
  | .feedForward c _ => stackOk c
  | .ringAcquisition site bus ring line => ringOk site bus ring && passes bus site && lineOk line
  | .identityCheck site bus ring _ => ringOk site bus ring && passes bus site
  | .ringLockTimeout site bus ring => ringOk site bus ring && passes bus site
  | .lockLoss site bus ring => ringOk site bus ring && passes bus site
  | .lineDeaccession q line => quadOk q && lineOk line
  | .cartridgeSwitchCondition q cond _ _ => quadOk q && decide (cond < 4)
  | .cartridgeSwitchComplete q _ _ _ => quadOk q
  | .controllerRead m h line site _ _ => hchOk m h && siteOk site && decide (line < 2 ^ 25)
  | .controllerWrite m h line _ _ _ site _ => hchOk m h && siteOk site && decide (line < 2 ^ 25)
  | .readResponseLeave m h line _ => hchOk m h && decide (line < 2 ^ 25)
  | .unreadableLineReport m h line => decide (m < 28 ∧ h < 32 ∧ line < 2 ^ 33)
  | .pageRepair _ => true
  | .softRepair m h row => hchOk m h && decide (row < 2 ^ 21)
  | .hbmCommandTimeout m h cmd => hchOk m h && decide (cmd < 65536)
  | .hbmTemperatureRead m _ => decide (m < 28)
  | .migration m h => hchOk m h
  | .migrationCopyComplete m => hbmOk m
  | .patrolScrub errors => errors.all (fun e => dimmOk e.1 && decide (e.2.1 < 2 ^ 32 ∧ 1 ≤ e.2.2.1 ∧ 1 ≤ e.2.2.2))
  | .ddrHardLoss dimm => dimmOk dimm
  | .laneTraining z _ _ _ _ _ _ _ => laneOk z
  | .trainingAttemptTimeout z => laneOk z
  | .laneInterrupted z => laneOk z
  | .laneLightReturn z => laneOk z
  | .laneDown z => laneOk z
  | .laneWake z => laneOk z
  | .bypassElementOpen k => decide (k < 8)
  | .bypassLaneTimeout k => decide (k < 8)
  | .write v p => v.ok && p.ok
  | .read v p => v.ok && p.ok
  | .readResp v p => v.ok && p.ok
  | .atomic v p => v.ok && p.ok
  | .atomicResp v p => v.ok && p.ok
  | .ack v p => v.ok && p.ok
  | .mcastWrite v p => v.ok && p.ok
  | .reduce v p => v.ok && p.ok
  | .tickPacket v p => v.ok && p.ok
  | .hold v p => v.ok && p.ok
  | .lease v p => v.ok && p.ok
  | .mbxWrite v p => v.ok && p.ok
  | .mbxReject v p => v.ok && p.ok
  | .rtWrite v p => v.ok && p.ok
  | .rtFlip v p => v.ok && p.ok
  | .epochGraceEnd => true
  | .telemMap => true
  | .telemSample z _ _ => laneOk z
  | .scheduledTransferPacket _ => true
  | .linkDelayMeasurement z _ => laneOk z
  | .tickHoldover => true
  | .tickHoldoverTimeout => true
  | .requestTimeout _ => true
  | .windowEntryRelease p _ _ _ => portOk p
  | .drain p _ => portOk p
  | .drainApplied p _ => portOk p
  | .atomicExecute p _ => portOk p
  | .replayRecordRelease p _ _ _ _ => portOk p
  | .controlDomainAccess _ off bytes _ => decide (0x1000000 ≤ off ∧ off + bytes ≤ 0x2000000)
  | .crossingAlignment x _ _ => xingOk x
  | .alignmentAttemptTimeout x => xingOk x
  | .slip x buf => xingOk x && decide (buf.1 < 2 * (if x < 16 then 200 else if x < 20 then 8 else 32))
  | .stackReset c => stackOk c
  | .clockPresent c => stackOk c
  | .stackRejoin c => stackOk c
  | .stackPllTimeout c => stackOk c
  | .droop c _ => stackOk c
  | .stretchRelease c => stackOk c
  | .frequencyMove c => stackOk c
  | .suspensionEnd c => stackOk c
  | .frequencyChangeTimeout c => stackOk c
  | .clkDomTarget _ d _ => decide (d < 18)
  | .clkDomReset _ d _ => decide (d < 18)
  | .powerSample _ => true
  | .inputBudget _ => true
  | .powerReport => true
  | .pwrRptWrite v p => v.ok && p.ok
  | .powerCoordination => true
  | .pwrAssignWrite v p => v.ok && p.ok
  | .coordinationTimeout _ => true
  | .sensorSample g _ => g.ok
  | .fastSamplingEnd g => g.ok
  | .divisionEnd c => stackOk c
  | .regulatorPhaseFailure _ _ => true
  | .testSlot c group _ => stackOk c && decide (group < 4552)
  | .curatorHeartbeat => true
  | .curatorTakeover => true
  | .beaconDue => true
  | .flashHoldRelease => true
  | .loadTimeout => true
  | .mbxDataWrite _ n _ => mbxOk n
  | .mbxDataRead _ n => mbxOk n
  | .commandTake m => cmdOk m
  | .ackAlarm m => cmdOk m
  | .hostHold m => cmdOk m
  | .stop m => cmdOk m
  | .load m => cmdOk m
  | .loadEnd m => cmdOk m
  | .unload m => cmdOk m
  | .start m => cmdOk m
  | .startAt m => cmdOk m
  | .abortStart m => cmdOk m
  | .startTimeout m => cmdOk m
  | .abortDeadline m => cmdOk m
  | .jobStart => true
  | .rejoin m => cmdOk m
  | .xferClaim m => cmdOk m
  | .xferRelease m => cmdOk m
  | .xferClaimLapse => true
  | .attest m => cmdOk m
  | .catErase m => cmdOk m
  | .catWrite m => cmdOk m
  | .summary m => cmdOk m
  | .pmcSet m => cmdOk m
  | .ringRead m => cmdOk m
  | .mapRead m => cmdOk m
  | .frmLenPendWrite _ slot _ _ => decide (slot < 2048)
  | .glbBwCtlWrite _ _ => true
  | .bandwidthWindow => true
  | .ledCurWrite _ r _ => decide (r < 4)
  | .recordPost kind _ prio cls _ _ _ => decide (kind ≤ kTile ∧ prio ≤ 3 ∧ cls ≤ 6)
  | .ledgerToken kind _ prio => decide (kind ≤ kTile ∧ 1 ≤ prio ∧ prio ≤ 3)
  | .alarmFlashWrite _ => true
  | .tstWrite _ off _ _ => inTst off
  | .i3cRegisterRead _ => true
  | .i3cPageProgram _ _ => true
  | .i3cSectorErase _ => true
  | .i3cStatusRead => true
  | .registerWrite _ _ _ _ _ => true
  | .commandComplete m => cmdOk m
  | .laneErrorRateExceeded z _ _ => laneOk z
  | .channelTrainingLoss m h => hbmOk m && (h.getD 0 < 32)
  | .laneQuiesceNotice k _ => decide (k < 8)
  | .periodicStretch c => stackOk c
  | .rcRead _ _ _ => true

end Sys2Proof.Machine
end

