-- ==== Sys2Proof/Safety.lean ====
section
/-! DEFINITION. What counts as a safe run, and the terms in which claims are stated: a command that completes, a thread that
issues, what event counting may change, the canonical form of the memories. -/

namespace Sys2Proof.Machine

/-! ## Completion and safe runs -/

/-- The command completes: exec answers a next state, the queue stays as it was, and `P` holds of the device after. -/
def Does (i : Instr) (s : State) (P : Device → Prop) : Prop :=
  ∃ t : State, exec i s = .next t ∧ t.pending = s.pending ∧ P t.toDevice

/-- Every command that waits is well formed: the queue of a safe run. -/
def Queued (s : State) : Prop := ∀ i ∈ s.pending, formed i = true

/-- A run of `k` steps is safe: it meets no fault and no refusal, and its queue is well formed at its end. -/
def Safe (k : Nat) (s : State) : Prop := ∃ t, Sys2Proof.core.run k s = .next t ∧ Queued t

/-! ## Canonical form -/

/-- The memory of the HBM4 and DDR5 tiers is in canonical form: addresses strictly rising, no zero byte listed. -/
abbrev Memory.wf (m : Memory) : Prop := NMap.wf 0 m.bytes

/-- What a provisional commit saves lies within the committed lengths (R163, R187). -/
def Device.lensSaved (s : Device) : Prop := ∀ e ∈ s.fr.saved.lens, commitLo ≤ e.1 ∧ e.1 < commitLo + 16384

/-! ## Packets -/

/-- Each packet row with its packet type (R288). -/
def packetRows : List (Nat × (Via → Pkt → Instr)) :=
  [(tWrite, .write), (tRead, .read), (tReadResp, .readResp), (tAtomic, .atomic), (tAtomicResp, .atomicResp), (tAck, .ack),
   (tMcast, .mcastWrite), (tReduce, .reduce), (tTick, .tickPacket), (tHold, .hold), (tLease, .lease), (tMbxWrite, .mbxWrite),
   (tMbxReject, .mbxReject), (tMgmt, .rtWrite), (tMgmt, .rtFlip), (tWrite, .pwrRptWrite), (tWrite, .pwrAssignWrite)]

/-- The window of a request's key at its home holds its value (R325). -/
def Device.inWindow (s : Device) (h : Nat) (p : Pkt) : Bool := ((s.port h).window p).any (fun e => e.dup (seqVal p) (seqMod p.seng))

/-- A request finds nothing that waits before it, its stamp fits the tick, it is no duplicate, and its window has room
(R319, R325–R327). -/
def Device.fresh (s : Device) (v : Via) (p : Pkt) : Bool :=
  let h := s.homePort v p
  !(s.port h).input.any (fun e => e.via == v) && (decide (131 < p.seng) || p.seq / 2 ^ 20 == s.fr.tick % 4096) &&
    !s.inWindow h p && s.windowRoom h p

/-- The line pieces of a request at their homes: an atomic has one, of its operand's size (R336). -/
def Device.homePieces (s : Device) (p : Pkt) : List Piece :=
  if p.typ = tAtomic then s.pieces { p with payload := List.replicate (reqLen p) 0, len := 1, arg := 0, typ := tWrite }
  else s.pieces p

/-- A lane that is UP, sends nothing and holds nothing back takes a packet up at once: its virtual channel has credit (R286, R294). -/
def Device.takesUp (s : Device) (z : Nat) (p : Pkt) : Bool :=
  s.laneState z == lUp && s.fab.sending.get 0 z == 0 && (s.fab.txq.get [] z).isEmpty && s.credit z (s.onLane z p).vc

/-- A packet for this device passes its checks on a lane that is no host's, and is delivered (R291, R293). -/
def Device.delivers (s : Device) (z : Nat) (p : Pkt) : Bool :=
  decide (z < 64) && p.ok && s.laneRole z != rHost && s.headerFault false p == 0 && (s.routeEntry p.epoch p.dst).isLocal &&
    s.jobState != jWithdrawn

/-! ## Curator commands -/

/-- The command of mailbox m has ended with a code and a result, to be reported at its completion (R485, R486). -/
def Device.ended (t : Device) (m code result : Nat) : Prop :=
  (t.cmd m).finished = true ∧ (t.cmd m).code = code ∧ (t.cmd m).result = result

/-- Nothing waits at the inputs of the port dies (R327, R335, R338). -/
def Device.inputsEmpty (s : Device) : Prop := ∀ h, h < 4 → (s.port h).input = []

/-! ## Issue -/

/-- The thread issues the instruction it fetches: it is its turn (R91, R175), its address lies in the resident region with good
parity (R85, R106), and no parity flip is armed at its tile (R506). -/
def Device.issues (s : Device) (w : Who) : Bool :=
  w.ok && s.canIssue w && decide ((s.thread w.c w.t w.n).pc < (s.sramMap w.c w.t).resTop) &&
    !(s.tile w.c w.t).lineBad (s.sramMap w.c w.t) w.upset (64 * ((s.thread w.c w.t w.n).pc / 64)) &&
    !s.flipArmed ptSram w.c w.t

/-- The instruction completes for a thread that issues it: where its word (R94, R95) is the one the thread fetches, exec answers a
next state, and `P` holds of the device after. -/
def Runs (w : Who) (i : Instr) (s : State) (P : Device → Prop) : Prop := encodeDocent i = some (s.wordAt w) → Does i s P

/-- `n` bytes at a tile-local address can be read by the thread (R84, R106). -/
def Device.readable (s : Device) (w : Who) (a n : Nat) : Bool :=
  ((s.tile w.c w.t).read (s.sramMap w.c w.t) w.upset a n).fault == 0

/-- The little-endian value that a thread reads at a tile-local address (R10, R87). -/
def Device.sramAt (s : Device) (w : Who) (a n : Nat) : Nat :=
  leNat ((List.range n).map (fun i => (s.tile w.c w.t).byteAt (s.sramMap w.c w.t) (a + i)))

/-- One byte of a tile's SRAM as its threads read it. -/
def Device.sramByte (s : Device) (c t a : Nat) : Byte := (s.tile c t).byteAt (s.sramMap c t) a

/-- Offsets of the event counters of a tile: TILE_PMC and TILE_PMSEL (R136, R137). -/
def inCounters (c t off : Nat) : Prop :=
  Block.tile.base (272 * c + t) + 0x308 ≤ off ∧ off < Block.tile.base (272 * c + t) + 0x388

/-- The energy accounts to which an event of tile (c, i) adds (R385). -/
def tileAccount (c i a : Nat) : Prop := a = acStack c ∨ a = acDrawn c ∨ a = acSram c (regionOf i)

/-- `t` is `u` after events of tile (c, i) have been counted: only the tile's counters differ, its energy accounts (R385), and by a
sampling diversion (R140) the PC, EPC and handler mark of its threads; only the accounts do while its counters are disabled (R138). -/
structure Counted (u t : Device) (c i : Nat) : Prop where
  rest : { t with tiles := u.tiles, regs := u.regs, energy := u.energy } = u
  others : ∀ k, k ≠ 272 * c + i → t.tiles.get {} k = u.tiles.get {} k
  tile : { t.tile c i with threads := (u.tile c i).threads } = u.tile c i
  threads : ∀ n, { t.thread c i n with
    pc := (u.thread c i n).pc, epc := (u.thread c i n).epc, inHandler := (u.thread c i n).inHandler } = u.thread c i n
  regs : ∀ off, ¬ inCounters c i off → t.regs.get 0 off = u.regs.get 0 off
  energy : ∀ a, ¬ tileAccount c i a → t.energy.get 0 a = u.energy.get 0 a
  off : u.flag F.tilePmctlEnable (272 * c + i) = false → { t with energy := u.energy } = u

/-- A register result: G[d] holds `v` (G0 discards it), the thread's other registers are as before, and but for event counting
the device is `s` with the thread moved on and that register written. -/
def Writes (s t : Device) (w : Who) (d : Nat) (v : Word) : Prop :=
  t.reg w d = (if d = 0 then 0 else v) ∧ (∀ n, n ≠ d → t.reg w n = s.reg w n) ∧
    Counted ((s.advance w).setReg w d v) t w.c w.t

/-- A vector result: X[d] holds the 64 lanes `vs`, the thread's other vector registers are as before, and but for event counting
the device is `s` with the thread moved on and that register written. -/
def WritesV (s t : Device) (w : Who) (d : Nat) (vs : List Nat) : Prop :=
  (∀ i, i < 64 → (t.thread w.c w.t w.n).lane d i = vs.getD i 0 % 2 ^ 32) ∧
    (∀ r, r ≠ d → t.vreg w r = s.vreg w r) ∧ Counted ((s.advance w).setVreg w d vs) t w.c w.t

/-- The thread goes on at `target`; unless its counters divert it, that is its PC. -/
def JumpsTo (s t : Device) (w : Who) (target : Nat) : Prop := Counted ((s.advance w).jump w target) t w.c w.t

/-- The thread has faulted (R92, R104): it is in FAULTED, and its registers are as before. -/
def Faults (s t : Device) (w : Who) : Prop :=
  (t.thread w.c w.t w.n).st = .faulted ∧ (∀ n, t.reg w n = s.reg w n) ∧ ∀ r, t.vreg w r = s.vreg w r

end Sys2Proof.Machine
end

