-- ==== Sys2Proof/Certificates/Slice0/Obligations.lean ====
section
/-! DEFINITION. The statements about the BX20 model, each a proposition to be proved. -/

open Sys2Proof Sys2Proof.Machine

/-! ## The block as a machine -/

/-- A step takes the command at the front of the queue and runs it with the rest of the queue; with nothing waiting, a nanosecond
passes (log entry 3, the model's choice). -/
def Obligations.StepRunsFrontCommand : Prop :=
  (∀ (c : Instr) (rest : List Instr) (s : State), s.pending = c :: rest → step s = exec c { s with pending := rest }) ∧
  (∀ s : State, s.pending = [] → step s = .next { s with toDevice := s.toDevice.passNs })

/-- A command whose operands name units the device has completes: exec answers a next state and takes nothing from the queue. A
command that names a unit it has not is a fault, and no command is refused (log entry 2, the model's choice). -/
def Obligations.FormedCommandsComplete : Prop :=
  ∀ (c : Instr) (s : State),
    (formed c = true → ∃ t, exec c s = .next t ∧ t.pending = s.pending) ∧
    (formed c = false → exec c s = .fault .noSuchUnit)

/-- A queue of well-formed commands runs to its end, whatever the state it meets: as many steps as it has commands, and as many
more as one likes, meet no fault and no refusal and leave the queue empty. -/
def Obligations.QueueRunsToItsEnd : Prop :=
  ∀ (s : State) (k : Nat), Queued s →
    ∃ t, Sys2Proof.core.run (s.pending.length + k) s = .next t ∧ t.pending = []

/-- Every step keeps the memory of the HBM4 and DDR5 tiers in canonical form: addresses strictly rising, and no byte listed
that an unlisted address reads as. -/
def Obligations.StepKeepsMemoryCanonical : Prop :=
  ∀ s t : State, s.mem.wf → step s = .next t → t.mem.wf

/-- After reset no command waits, the memory lists nothing, no job is loaded, and registers hold the reset values of their tables. -/
def Obligations.ResetLeaves : Prop :=
  State.reset.pending = [] ∧ State.reset.mem.wf ∧ State.reset.mem.bytes = [] ∧ State.reset.out = [] ∧
  (∀ (k : RegKind) (b i : Nat), State.reset.rd k b i = k.resetAt b i % 2 ^ 64) ∧
  State.reset.jobState = jNone ∧ State.reset.fget F.frmMirrorPartner = 0x3FF ∧ State.reset.fget F.frmTimingSlackMin = 0xFFFF ∧
  State.reset.fget F.glbBwCtlWindowUs = 100 ∧
  (∀ c, c < 16 → State.reset.fget F.clkDomStep 0 c = 30 ∧ State.reset.fget F.clkDomTarget 0 c = 30)

/-! ## Instructions of the Docent

A thread issues the word it fetches (R85, R94): each statement speaks of a state in which the instruction's word stands at the
thread's PC. -/

/-- Scalar arithmetic (R95): the result of each ALU form, of ADDI and of LUI in G[D], with all else as it was. -/
def Obligations.ScalarArithmetic : Prop :=
  ∀ (s : State) (w : Who) (d a b : Nat) (imm : BitVec 16), s.issues w = true → d < 32 → a < 32 → b < 32 →
    Runs w (.add w d a b) s (fun t => Writes s.toDevice t w d (s.reg w a + s.reg w b)) ∧
    Runs w (.sub w d a b) s (fun t => Writes s.toDevice t w d (s.reg w a - s.reg w b)) ∧
    Runs w (.and w d a b) s (fun t => Writes s.toDevice t w d (s.reg w a &&& s.reg w b)) ∧
    Runs w (.or w d a b) s (fun t => Writes s.toDevice t w d (s.reg w a ||| s.reg w b)) ∧
    Runs w (.xor w d a b) s (fun t => Writes s.toDevice t w d (s.reg w a ^^^ s.reg w b)) ∧
    Runs w (.shl w d a b) s (fun t => Writes s.toDevice t w d (s.reg w a <<< ((s.reg w b).toNat % 64))) ∧
    Runs w (.shr w d a b) s (fun t => Writes s.toDevice t w d (s.reg w a >>> ((s.reg w b).toNat % 64))) ∧
    Runs w (.sra w d a b) s (fun t => Writes s.toDevice t w d ((s.reg w a).sshiftRight ((s.reg w b).toNat % 64))) ∧
    Runs w (.mul w d a b) s (fun t => Writes s.toDevice t w d (s.reg w a * s.reg w b)) ∧
    Runs w (.slt w d a b) s (fun t => Writes s.toDevice t w d (if (s.reg w a).toInt < (s.reg w b).toInt then 1 else 0)) ∧
    Runs w (.sltu w d a b) s (fun t => Writes s.toDevice t w d (if (s.reg w a).toNat < (s.reg w b).toNat then 1 else 0)) ∧
    Runs w (.addi w d a imm) s (fun t => Writes s.toDevice t w d (s.reg w a + imm.signExtend 64)) ∧
    Runs w (.lui w d 0 imm) s (fun t => Writes s.toDevice t w d (imm.signExtend 64 * 65536))

/-- What moving on changes (R90, R92): the thread's PC advances by 4, it is READY and waits for nothing, and the address it leaves is noted;
its registers, its mode and EPC, every other thread and the rest of the device are as they were, but for the tile's notes of the thread
that issued last and of what it stored. -/
def Obligations.MovingOnChangesOnlyThread : Prop :=
  ∀ (s : Device) (w : Who),
    (s.advance w).thread w.c w.t w.n =
      { s.thread w.c w.t w.n with
        pc := (s.thread w.c w.t w.n).pc + 4, last := (s.thread w.c w.t w.n).pc, st := .ready, wait := .nothing } ∧
    (∀ n, n ≠ w.n → (s.advance w).thread w.c w.t n = s.thread w.c w.t n) ∧
    (∀ k, k ≠ 272 * w.c + w.t → (s.advance w).tiles.get {} k = s.tiles.get {} k) ∧
    { (s.advance w).tile w.c w.t with
        threads := (s.tile w.c w.t).threads, lastIssued := (s.tile w.c w.t).lastIssued, stored := (s.tile w.c w.t).stored } =
      s.tile w.c w.t ∧
    (s.advance w).tile w.c w.t = { (s.advance w).tile w.c w.t with lastIssued := w.n, stored := none } ∧
    { s.advance w with tiles := s.tiles } = s

/-- LD, ST and SPR (R95, R96): LD brings the 8 bytes at a multiple of 8 that can be read; SPR brings the special register that
its index names; ST stores 8 bytes where the tile may write. -/
def Obligations.LoadStoreSpecial : Prop :=
  ∀ (s : State) (w : Who) (d a : Nat) (imm : BitVec 16), s.issues w = true → d < 32 → a < 32 →
    ((s.thread w.c w.t w.n).addrB a imm % 8 = 0 → s.readable w ((s.thread w.c w.t w.n).addrB a imm) 8 = true →
      Runs w (.ld w d a imm) s (fun t =>
        Writes s.toDevice t w d (BitVec.ofNat 64 (s.sramAt w ((s.thread w.c w.t w.n).addrB a imm) 8)))) ∧
    (∀ v, imm.toNat < 256 → s.special w imm.toNat = some v →
      Runs w (.spr w d 0 imm) s (fun t => Writes s.toDevice t w d (BitVec.ofNat 64 v))) ∧
    ((s.thread w.c w.t w.n).addrB a imm % 8 = 0 →
      (s.sramMap w.c w.t).writeOk ((s.thread w.c w.t w.n).addrB a imm) 8 = true →
      Runs w (.st w d a imm) s (fun t =>
        Counted ((s.toDevice.advance w).modTile w.c w.t (fun x =>
          { x.store (s.sramMap w.c w.t) ((s.thread w.c w.t w.n).addrB a imm) (leBytes 8 (s.reg w d).toNat) with
            stored := ((s.sramMap w.c w.t).at_ ((s.thread w.c w.t w.n).addrB a imm)).map (fun r =>
              (s.cycles w.c, r.2, leBytes 8 (s.reg w d).toNat)) })) t w.c w.t))

/-- A store of bytes to tile SRAM, where its lines may be written and the regions of the tile do not overlap: the bytes stored
read back, and every other byte of the tile reads as before (R84, R85, R87). -/
def Obligations.TileStoreChangesOnlyItsBytes : Prop :=
  ∀ (x : Tile) (m : SramMap) (a : Nat) (bs : List Byte), bs ≠ [] → m.writeOk a bs.length = true →
    m.resTop ≤ m.cb0 → 2 * m.cs ≤ 0x180000 → m.cs % 64 = 0 → m.resTop % 64 = 0 → m.bank ≤ 1 →
    (∀ i, i < bs.length → (x.store m a bs).byteAt m (a + i) = bs.getD i 0 ∨
      ((m.at_ a).map Prod.fst = some .carryOut ∧ m.outRead = false)) ∧
    (∀ p, (p < a ∨ a + bs.length ≤ p) → (x.store m a bs).byteAt m p = x.byteAt m p) ∧
    (x.store m a bs).threads = x.threads ∧ (x.store m a bs).mregs = x.mregs ∧ (x.store m a bs).ve = x.ve ∧
    (x.store m a bs).queue = x.queue ∧ (x.store m a bs).slots = x.slots ∧ (x.store m a bs).tc = x.tc

/-- Branches (R95): to PC + 4 × sext(OFF) when the condition holds, else on to the next instruction. -/
def Obligations.BranchesAndJumps : Prop :=
  ∀ (s : State) (w : Who) (d a b : Nat) (off imm : BitVec 16) (off26 : BitVec 26), s.issues w = true →
    d < 32 → a < 32 → b < 32 →
    let pc := (s.thread w.c w.t w.n).pc
    let go (c : Prop) (t : Device) : Prop :=
      (c → JumpsTo s.toDevice t w (unsigned 64 ((pc : Int) + 4 * off.toInt))) ∧
      (¬ c → Counted (s.toDevice.advance w) t w.c w.t)
    Runs w (.beq w a b off) s (go (s.reg w a = s.reg w b)) ∧
    Runs w (.bne w a b off) s (go (s.reg w a ≠ s.reg w b)) ∧
    Runs w (.blt w a b off) s (go ((s.reg w a).toInt < (s.reg w b).toInt)) ∧
    Runs w (.bge w a b off) s (go ((s.reg w b).toInt ≤ (s.reg w a).toInt)) ∧
    Runs w (.jal w off26) s (fun t => t.reg w 31 = BitVec.ofNat 64 (pc + 4) ∧ (∀ n, n ≠ 31 → t.reg w n = s.reg w n) ∧
      Counted (((s.toDevice.advance w).setReg w 31 (BitVec.ofNat 64 (pc + 4))).jump w
        (unsigned 64 ((pc : Int) + 4 * off26.toInt))) t w.c w.t) ∧
    ((s.thread w.c w.t w.n).addrB a imm % 4 = 0 →
      Runs w (.jr w d a imm) s (fun t =>
        t.reg w d = (if d = 0 then 0 else BitVec.ofNat 64 (pc + 4)) ∧ (∀ n, n ≠ d → t.reg w n = s.reg w n) ∧
        (s.flag F.tilePmctlEnable (272 * w.c + w.t) = false →
          (t.thread w.c w.t w.n).pc = (s.thread w.c w.t w.n).addrB a imm ∧
          (t.thread w.c w.t w.n).inHandler = ((s.thread w.c w.t w.n).inHandler &&
            (s.thread w.c w.t w.n).epc != (s.thread w.c w.t w.n).addrB a imm))))

/-- Synchronisation (R95, R330, R331): a FENCE, TCWAIT or TBAR whose condition holds is over at once, and else its thread
waits; EOW leaves its thread in DONE. -/
def Obligations.Synchronisation : Prop :=
  ∀ (s : State) (w : Who) (a d : Nat) (imm : BitVec 16), s.issues w = true → a < 32 → d < 32 →
    (Runs w (.fence w 0 0 0) s (fun t =>
      (t.thread w.c w.t w.n).st = (if s.fenceMet w.c w.t w.n then .ready else .waitSync) ∧
      ((t.thread w.c w.t w.n).wait = .fence ↔ s.fenceMet w.c w.t w.n = false) ∧ ∀ n, t.reg w n = s.reg w n)) ∧
    (imm.toNat < 16 →
      Runs w (.tcwait w 0 a imm) s (fun t =>
        (t.thread w.c w.t w.n).st =
          (if (s.reg w a).toNat % 2 ^ 32 ≤ (s.tile w.c w.t).tc.get 0 imm.toNat then .ready else .waitCount) ∧
        ∀ n, t.reg w n = s.reg w n)) ∧
    ((s.reg w a).toNat ≤ 16383 →
      Runs w (.ccwait w d a 0) s (fun t =>
        (t.thread w.c w.t w.n).st =
          (if (s.reg w d).toNat % 2 ^ 32 ≤ s.mem.cc.get 0 (s.reg w a).toNat then .ready else .waitCount) ∧
        ∀ n, t.reg w n = s.reg w n)) ∧
    (imm.toNat < 256 → bit imm.toNat w.n = true →
      Runs w (.tbar w 0 0 imm) s (fun t =>
        (t.thread w.c w.t w.n).st =
          (if (List.range 8).all (fun n => n == w.n || !bit imm.toNat n || (s.thread w.c w.t n).arrived imm.toNat)
            then .ready else .waitSync) ∧
        ∀ n, t.reg w n = s.reg w n)) ∧
    Runs w (.eow w 0 0 0) s (fun t => (t.thread w.c w.t w.n).st = .done ∧ ∀ n, t.reg w n = s.reg w n)

/-- Vector loads, stores and operations (R74, R75, R97): each leaves its 64 lanes in X[D], all else as it was. -/
def Obligations.VectorOperations : Prop :=
  ∀ (s : State) (w : Who) (d a b : Nat) (bf : Bool), s.issues w = true → d < 16 → a < 16 → b < 16 →
    let hi : BitVec 7 := if bf then 1 else 0
    let two (f : Nat → Nat → Nat) (t : Device) : Prop :=
      WritesV s.toDevice t w d (List.zipWith f (s.vreg w a) (s.vreg w b))
    let one (f : Nat → Nat) (t : Device) : Prop := WritesV s.toDevice t w d ((s.vreg w a).map f)
    Runs w (.vopAdd w d a b hi) s (two (laneOp2 bf Fmt.addV)) ∧
    Runs w (.vopSub w d a b hi) s (two (laneOp2 bf (fun f x y => f.addV x y.neg))) ∧
    Runs w (.vopMul w d a b hi) s (two (laneOp2 bf (fun f x y => f.encode (x.mul y)))) ∧
    Runs w (.vopDiv w d a b hi) s (two (laneOp2 bf Fmt.divV)) ∧
    Runs w (.vopMin w d a b hi) s (two (fun x y => if bf then fp32.minC (toBf x) (toBf y) else fp32.minC x y)) ∧
    Runs w (.vopMax w d a b hi) s (two (fun x y => if bf then fp32.maxC (toBf x) (toBf y) else fp32.maxC x y)) ∧
    Runs w (.vopSqrt w d a 0 hi) s (one (fun x =>
      if bf then convert bf16 fp32 (bf16.sqrtV (fp32.decode (toBf x))) else fp32.sqrtV (fp32.decode x))) ∧
    Runs w (.cvti w d a 0 0) s (one toInt32) ∧ Runs w (.cvtf w d a 0 0) s (one ofInt32) ∧
    Runs w (.rbf w d a 0 0) s (one toBf) ∧ Runs w (.rhf w d a 0 0) s (one toHf) ∧
    Runs w (.bcast w d a 0 0) s (fun t => WritesV s.toDevice t w d (List.replicate 64 ((s.thread w.c w.t w.n).lane a 0))) ∧
    Runs w (.hmax w d a 0 0) s (fun t => WritesV s.toDevice t w d
      (List.replicate 64 ((s.vreg w a).foldl fp32.maxC ((s.vreg w a).headD 0)))) ∧
    Runs w (.hmin w d a 0 0) s (fun t => WritesV s.toDevice t w d
      (List.replicate 64 ((s.vreg w a).foldl fp32.minC ((s.vreg w a).headD 0)))) ∧
    Runs w (.vfma w d a b (if bf then 0x10 else 0)) s (fun t => WritesV s.toDevice t w d ((List.range 64).map (fun i =>
      let x := (s.thread w.c w.t w.n).lane a i
      let y := (s.thread w.c w.t w.n).lane b i
      let z := (s.thread w.c w.t w.n).lane d i
      if bf then convert bf16 fp32 (bf16.fmaV (fp32.decode (toBf x)) (fp32.decode (toBf y)) (fp32.decode (toBf z)))
      else fFma x y z))) ∧
    Runs w (.vsfnExp w d a 0 (if bf then 2 else 0)) s (one (Sfn.exp.eval bf)) ∧
    Runs w (.vsfnLog w d a 0 (if bf then 2 else 0)) s (one (Sfn.log.eval bf)) ∧
    Runs w (.vsfnRsqrt w d a 0 (if bf then 2 else 0)) s (one (Sfn.rsqrt.eval bf)) ∧
    Runs w (.vsfnTanh w d a 0 (if bf then 2 else 0)) s (one (Sfn.tanh.eval bf)) ∧
    Runs w (.vsfnSigmoid w d a 0 (if bf then 2 else 0)) s (one (Sfn.sigmoid.eval bf)) ∧
    Runs w (.vsfnErf w d a 0 (if bf then 2 else 0)) s (one (Sfn.erf.eval bf))

/-- VLD and VST (R97): 64 lanes between X[D] and a 64-byte aligned place, in FP32, BF16 or FP16. -/
def Obligations.VectorLoadStore : Prop :=
  ∀ (s : State) (w : Who) (d a : Nat) (imm : BitVec 16) (f : Fmt), s.issues w = true → d < 16 → a < 32 →
    vecFmt imm = some f → (s.thread w.c w.t w.n).addrV a imm % 64 = 0 →
    (s.readable w ((s.thread w.c w.t w.n).addrV a imm) (8 * f.width) = true →
      Runs w (.vld w d a imm) s (fun t => WritesV s.toDevice t w d (unpackVec f ((List.range (8 * f.width)).map (fun i =>
        s.sramByte w.c w.t ((s.thread w.c w.t w.n).addrV a imm + i)))))) ∧
    ((s.sramMap w.c w.t).writeOk ((s.thread w.c w.t w.n).addrV a imm) (8 * f.width) = true →
      Runs w (.vst w d a imm) s (fun t =>
        Counted ((s.toDevice.advance w).modTile w.c w.t (fun x =>
          { x.store (s.sramMap w.c w.t) ((s.thread w.c w.t w.n).addrV a imm) (packVec f (s.vreg w d)) with
            stored := ((s.sramMap w.c w.t).at_ ((s.thread w.c w.t w.n).addrV a imm)).map (fun r =>
              (s.cycles w.c, r.2, packVec f (s.vreg w d))) })) t w.c w.t))

/-- VRED (R98), while no descriptor holds the vector EWA registers (R122): SUM adds the lanes of X[A] into one of them, LANES adds
lane i into VE[i], CVT brings them to FP32 in X[D], CLR clears them. -/
def Obligations.VectorReductions : Prop :=
  ∀ (s : State) (w : Who) (d a b : Nat) (hi : BitVec 9), s.issues w = true → d < 16 → a < 16 → b < 32 →
    ((s.tile w.c w.t).slots.any (fun e => isEwaKind (sdKind e.w0) && sdVe e.w0)) = false →
    let anchor := (s.tile w.c w.t).anchors.get 0 (vredAnch hi)
    (Runs w (.vredSum w 0 a b hi) s (fun t =>
      (t.tile w.c w.t).ve.get {} (b + 32 * vredK hi) =
        (s.vreg w a).foldl (fun e v => e.add (Ewa.ofFp32 v anchor)) ((s.tile w.c w.t).ve.get {} (b + 32 * vredK hi)) ∧
      ∀ k, k ≠ b + 32 * vredK hi → (t.tile w.c w.t).ve.get {} k = (s.tile w.c w.t).ve.get {} k)) ∧
    (vredK hi = 0 → Runs w (.vredLanes w 0 a 0 hi) s (fun t =>
      (∀ i, i < 64 → (t.tile w.c w.t).ve.get {} i =
        ((s.tile w.c w.t).ve.get {} i).add (Ewa.ofFp32 ((s.thread w.c w.t w.n).lane a i) anchor)) ∧
      ∀ k, 64 ≤ k → (t.tile w.c w.t).ve.get {} k = (s.tile w.c w.t).ve.get {} k)) ∧
    (vredK hi = 0 → Runs w (.vredCvt w d 0 0 hi) s (fun t =>
      (∀ i, i < 64 → (t.thread w.c w.t w.n).lane d i =
        (((s.tile w.c w.t).ve.get {} i).toFloat fp32 anchor).1 % 2 ^ 32) ∧
      (∀ r, r ≠ d → t.vreg w r = s.vreg w r) ∧ (t.tile w.c w.t).ve = (s.tile w.c w.t).ve)) ∧
    Runs w (.vredClr w 0 0 0 0) s (fun t => ∀ k, (t.tile w.c w.t).ve.get {} k = {})

/-- Remote loads and stores (R99, R100) enter the tracker while it has room, and the request holds what the instruction named: in
native mode the thread goes on; what an SST stores is noted at the tile's outstanding loads (R342); in M2 mode an SLD that misses the read cache waits in WAIT_MEM, an SST goes on with one store more
unacknowledged, and with 16 of them it waits in WAIT_UNIT and stores nothing. -/
def Obligations.RemoteInstructionsEnterTracker : Prop :=
  ∀ (s : State) (w : Who) (d a b : Nat) (fn : BitVec 11), s.issues w = true → d < 32 → a < 32 → b < 32 →
    s.trackerFull w.c w.t = false →
    let ga := (s.reg w a).toNat
    let la := (s.reg w b).toNat
    let n := 8 * 2 ^ fn.toNat
    let th := s.thread w.c w.t w.n
    let entered (r : Req) (t : Device) : Prop :=
      t.reqs = s.reqs ++ [{ r with id := s.nextId, c := w.c, t := w.t, n := w.n, pc := th.pc }] ∧ t.nextId = s.nextId + 1
    let stored (r : Req) (t : Device) : Prop :=
      t.reqs = s.reqs.map (Req.patched w.c w.t ga r.pkt.payload) ++ [{ r with id := s.nextId, c := w.c, t := w.t, n := w.n, pc := th.pc }] ∧
        t.nextId = s.nextId + 1
    (th.m2 = false → fn.toNat < 6 → d < 16 → ga % n = 0 → la % 8 = 0 →
      (({ s.sramMap w.c w.t with outWrite := true } : SramMap).writeOk la n = true → (s.tile w.c w.t).cacheHit ga n = none →
        Runs w (.sld w d a b fn) s (fun t =>
          entered { kind := .sld, gaddr := ga, len := n, loc := la, d := d } t ∧
          (t.thread w.c w.t w.n).st = .ready ∧ ∀ k, t.reg w k = s.reg w k)) ∧
      (s.readable w la n = true → Runs w (.sst w d a b fn) s (fun t =>
        stored { kind := .sst, gaddr := ga, len := n, loc := la, d := d,
                 pkt := { blankPkt with payload := (List.range n).map (fun i => s.sramByte w.c w.t (la + i)) } } t ∧
        (t.thread w.c w.t w.n).st = .ready ∧ ∀ k, t.reg w k = s.reg w k))) ∧
    (th.m2 = true → ga % 8 = 0 →
      ((s.tile w.c w.t).cacheHit ga 8 = none → Runs w (.sld w d a 0 0) s (fun t =>
        entered { kind := .m2ld, gaddr := ga, len := 8, d := d } t ∧
        (t.thread w.c w.t w.n).st = .waitMem ∧ ∀ k, t.reg w k = s.reg w k)) ∧
      (∀ bs, (s.tile w.c w.t).cacheHit ga 8 = some bs → Runs w (.sld w d a 0 0) s (fun t =>
        t.reqs = s.reqs ∧ t.reg w d = if d = 0 then 0 else BitVec.ofNat 64 (leNat bs))) ∧
      (th.stores < 16 → Runs w (.sst w 0 a b 0) s (fun t =>
        stored { kind := .m2st, gaddr := ga, len := 8,
                 pkt := { blankPkt with payload := leBytes 8 (s.reg w b).toNat } } t ∧
        (t.thread w.c w.t w.n).stores = th.stores + 1 ∧ (t.thread w.c w.t w.n).st = .ready)) ∧
      (16 ≤ th.stores → Runs w (.sst w 0 a b 0) s (fun t =>
        t = s.toDevice.modThread w.c w.t w.n (fun th => { th with st := .waitUnit, wait := (Wait.unit .stores), last := th.pc }))))

/-- SATM (R101, R336): each operation, of 8 bytes or 16 as it takes them, enters the tracker with its operands, and the thread waits
in WAIT_MEM for the prior value. -/
def Obligations.AtomicsWaitForPriorValue : Prop :=
  ∀ (s : State) (w : Who) (d a b : Nat) (wide : Bool), s.issues w = true → d < 32 → a < 32 → b < 32 →
    s.trackerFull w.c w.t = false →
    let ga := (s.reg w a).toNat
    let hi : BitVec 7 := if wide then 1 else 0
    let th := s.thread w.c w.t w.n
    let waits (op : Nat) (t : Device) : Prop :=
      t.reqs = s.reqs ++ [{ kind := .atomic, c := w.c, t := w.t, n := w.n, pc := th.pc, gaddr := ga, len := if wide then 16 else 8, d := d,
                            op := op + (if wide then 16 else 0), id := s.nextId,
                            pkt := { blankPkt with payload := atomicPayload th op wide b } }] ∧
      (t.thread w.c w.t w.n).st = .waitMem ∧ ∀ n, t.reg w n = s.reg w n
    ga % (if wide then 16 else 8) = 0 → (wide = true → d % 2 = 0 ∧ b % 2 = 0) →
    (wide = false → Runs w (.fetchAddInt64 w d a b hi) s (waits 0)) ∧
    (wide = true → Runs w (.fetchAddEwa96 w d a b hi) s (waits 1)) ∧
    Runs w (.swap w d a b hi) s (waits 2) ∧
    ((if wide then b % 4 = 0 else b ≤ 30) → Runs w (.compareSwap w d a b hi) s (waits 3)) ∧
    Runs w (.atomicMin w d a b hi) s (waits 4) ∧ Runs w (.atomicMax w d a b hi) s (waits 5) ∧
    Runs w (.atomicAnd w d a b hi) s (waits 6) ∧ Runs w (.atomicOr w d a b hi) s (waits 7) ∧
    Runs w (.atomicXor w d a b hi) s (waits 8)

/-- SGO (R95, R119–R121): a good descriptor of each of the eight kinds takes a slot while one is free, last in order. -/
def Obligations.DescriptorsTakeSlots : Prop :=
  ∀ (s : State) (w : Who) (a : Nat) (imm : BitVec 16) (w0 w1 w2 w3 : Word), s.issues w = true → a < 32 →
    (s.tile w.c w.t).slots.length < 16 → (s.thread w.c w.t w.n).addrB a imm % 32 = 0 →
    s.readable w ((s.thread w.c w.t w.n).addrB a imm) 32 = true →
    descWords ((List.range 32).map (fun i => s.sramByte w.c w.t ((s.thread w.c w.t w.n).addrB a imm + i))) = (w0, w1, w2, w3) →
    s.sdOk w w0 w1 w2 w3 = true → (isRemoteKind (sdKind w0) = true → (s.thread w.c w.t w.n).m2 = false) →
    let placed (k : Nat) (i : Instr) : Prop := sdKind w0 = k → Runs w i s (fun t =>
      (t.tile w.c w.t).slots = (s.tile w.c w.t).slots ++ [newSlot w (s.thread w.c w.t w.n).pc (s.tile w.c w.t).serial w0 w1 w2 w3] ∧
      (t.tile w.c w.t).serial = (s.tile w.c w.t).serial + 1 ∧ ∀ n, t.reg w n = s.reg w n)
    placed 0 (.send w 0 a imm) ∧ placed 1 (.receive w 0 a imm) ∧ placed 2 (.sendEwa w 0 a imm) ∧
    placed 3 (.receiveEwaAdd w 0 a imm) ∧ placed 4 (.lbRead w 0 a imm) ∧ placed 5 (.lbWrite w 0 a imm) ∧
    placed 6 (.remoteGet w 0 a imm) ∧ placed 7 (.remotePut w 0 a imm)

/-- MMA, MCVT and MCLR (R107, R108, R111): a good operation joins the matrix queue while it holds fewer than four. -/
def Obligations.MatrixOperationsQueue : Prop :=
  ∀ (s : State) (w : Who) (a : Nat) (imm : BitVec 16) (w0 w1 w2 w3 : Word), s.issues w = true → a < 32 →
    (s.tile w.c w.t).queue.length < 4 →
    let op (k : MatKind) : MatOp :=
      { kind := k, w0 := w0, w1 := w1, w2 := w2, w3 := w3, thread := w.n, pc := (s.thread w.c w.t w.n).pc,
        order := (s.tile w.c w.t).serial }
    let queues (o : MatOp) (t : Device) : Prop :=
      (t.tile w.c w.t).queue = (s.tile w.c w.t).queue ++ [o] ∧ (t.tile w.c w.t).serial = (s.tile w.c w.t).serial + 1 ∧
      ∀ n, t.reg w n = s.reg w n
    Runs w (.mclr w 0 0 0) s (queues
      { kind := .mclr, thread := w.n, pc := (s.thread w.c w.t w.n).pc, order := (s.tile w.c w.t).serial }) ∧
    ((s.thread w.c w.t w.n).addrB a imm % 32 = 0 → s.readable w ((s.thread w.c w.t w.n).addrB a imm) 32 = true →
      descWords ((List.range 32).map (fun i => s.sramByte w.c w.t ((s.thread w.c w.t w.n).addrB a imm + i))) = (w0, w1, w2, w3) →
      (mmaOk w0 w1 w2 w3 = true → (mdKeep w0 = true → (s.tile w.c w.t).actFmt = some (mdShape w0)) →
        Runs w (.mma w 0 a imm) s (fun t => queues (op .mma) t ∧ (t.tile w.c w.t).actFmt = some (mdShape w0))) ∧
      (mcvtOk w0 w1 w2 w3 = true →
        Runs w (.mcvt w 0 a imm) s (fun t => queues (op .mcvt) t ∧ (t.tile w.c w.t).actFmt = (s.tile w.c w.t).actFmt)))

/-- Faults of an instruction (R94, R95, R97, R104): an address or target that is not aligned, a field that must be zero and is not,
a register field out of range, a word of undefined OP or FN. The thread stops in FAULTED and none of its registers changes. -/
def Obligations.InstructionFaults : Prop :=
  ∀ (s : State) (w : Who) (d a b : Nat) (imm : BitVec 16) (hi : BitVec 7), s.issues w = true → d < 32 → a < 32 → b < 32 →
    ((s.thread w.c w.t w.n).addrB a imm % 8 ≠ 0 →
      Runs w (.ld w d a imm) s (fun t => Faults s.toDevice t w) ∧ Runs w (.st w d a imm) s (fun t => Faults s.toDevice t w)) ∧
    ((s.thread w.c w.t w.n).addrB a imm % 4 ≠ 0 → Runs w (.jr w d a imm) s (fun t => Faults s.toDevice t w)) ∧
    (a ≠ 0 → Runs w (.lui w d a imm) s (fun t => Faults s.toDevice t w) ∧ Runs w (.spr w d a imm) s (fun t => Faults s.toDevice t w)) ∧
    (16383 < (s.reg w a).toNat → Runs w (.ccwait w d a 0) s (fun t => Faults s.toDevice t w)) ∧
    (bit imm.toNat w.n = false → Runs w (.tbar w 0 0 imm) s (fun t => Faults s.toDevice t w)) ∧
    (16 ≤ d → Runs w (.vopAdd w d a b hi) s (fun t => Faults s.toDevice t w) ∧
      Runs w (.vld w d a imm) s (fun t => Faults s.toDevice t w)) ∧
    (definedWord (s.wordAt w) = false → Does (.add w d a b) s (fun t => Faults s.toDevice t w) ∧
      Does (.vopAdd w d a b hi) s (fun t => Faults s.toDevice t w)) ∧
    ((s.thread w.c w.t w.n).m2 = false → 16 ≤ d →
      Runs w (.sld w d a b 0) s (fun t => Faults s.toDevice t w) ∧ Runs w (.sst w d a b 0) s (fun t => Faults s.toDevice t w))

/-- A fault of a thread (R104, R134) stops it in FAULTED at its PC; while TILE_FAULT holds no fault, it records the code, the thread
and the PC, and COUNT counts it. -/
def Obligations.ThreadFaultRecord : Prop :=
  ∀ (s : Device) (c i code n pc : Nat), s.flag F.tileFaultValid (272 * c + i) = false →
    s.fget F.tileFaultCount (272 * c + i) < 2 ^ F.tileFaultCount.w - 1 →
    (s.logTileFault c i code n pc).fget F.tileFaultCode (272 * c + i) = code % 2 ^ F.tileFaultCode.w ∧
    (s.logTileFault c i code n pc).fget F.tileFaultThread (272 * c + i) = n % 2 ^ F.tileFaultThread.w ∧
    (s.logTileFault c i code n pc).fget F.tileFaultPc (272 * c + i) = pc % 2 ^ F.tileFaultPc.w ∧
    (s.logTileFault c i code n pc).flag F.tileFaultValid (272 * c + i) = true ∧
    (s.logTileFault c i code n pc).fget F.tileFaultCount (272 * c + i) = s.fget F.tileFaultCount (272 * c + i) + 1 ∧
    (∀ off, off ≠ RegKind.tileFault.addr (272 * c + i) 0 → (s.logTileFault c i code n pc).regs.get 0 off = s.regs.get 0 off) ∧
    { s.logTileFault c i code n pc with regs := s.regs } = s

/-! ## Events of a tile -/

/-- WATCHDOG, COUNTER_WRAP, RELEASE_SLOT (R91, R105, R140, R175): a thread that waits too long faults unless WDOG is 0, or the resource
it waits for is free; an enabled counter
that wraps sets OVF, and with SAMPLE diverts its thread; from its release slot a tile's threads may issue. -/
def Obligations.TileTimersAndRelease : Prop :=
  ∀ (s : State) (c i n : Nat), c < 16 → i < 272 → n < 8 →
    let b := 272 * c + i
    let st := s.tstate c i n
    ((st = .waitMem ∨ st = .waitCount ∨ st = .waitSync ∨ st = .waitUnit) →
      (s.fget F.tileCtlWdog b ≠ 0 → Does (.watchdog c i n) s (fun t =>
        (t.thread c i n).st = .faulted ∧ (t.thread c i n).pc = (s.thread c i n).pc ∧ ∀ r, (t.thread c i n).gr r = (s.thread c i n).gr r)) ∧
      (s.fget F.tileCtlWdog b = 0 → Does (.watchdog c i n) s (fun t => t = s.toDevice))) ∧
    (∀ r, (s.thread c i n).st = .waitUnit → (s.thread c i n).wait = .unit r → s.unitFull c i n r = false →
      Does (.watchdog c i n) s (fun t => t = s.toDevice)) ∧
    (s.flag F.tilePmctlEnable b = true → Does (.counterWrap c i n) s (fun t =>
      t.fget F.tilePmcCount b n = 0 ∧ t.flag F.tilePmselOvf b n = true ∧
      (s.flag F.tilePmselSample b n = true → (s.thread c i (s.fget F.tilePmselThread b n)).divertible = true →
        t.thread c i (s.fget F.tilePmselThread b n) =
          { s.thread c i (s.fget F.tilePmselThread b n) with
            epc := (s.thread c i (s.fget F.tilePmselThread b n)).pc, pc := s.fget F.tilePmctlHandler b, inHandler := true }))) ∧
    Does (.releaseSlot c i) s (fun t => (t.tile c i).released = true) ∧
    (s.engineCold c i = false → Does (.releaseSlot c i) s (fun t =>
      t = s.toDevice.modTile c i (fun x => { x with released := true })))

/-- The matrix queue at work (R60, R62, R107, R110, R111): an MCLR at the head clears every matrix register; an MMA whose operands
are read begins with its sums; a finished MMA adds them within its rows and channels to the old values, or to none with CLEAR, and
leaves every other register; a finished MCVT writes its rows; each leaves the queue, and an MMA with TC_EN increments its counter. -/
def Obligations.MatrixEngine : Prop :=
  ∀ (s : State) (c i : Nat) (up : Option Nat) (o : MatOp) (rest : List MatOp), c < 16 → i < 272 →
    let x := s.tile c i
    let m := s.sramMap c i
    x.queue = o :: rest →
    (o.begun = false → (∀ q ∈ rest, q.begun = false) → x.opBlocked o = false → s.engineCold c i = false →
      (o.kind = .mclr → Does (.matrixOpBegin c i up) s (fun t => (t.tile c i).mregs = [] ∧ ∀ k, (t.tile c i).mregs.get {} k = {})) ∧
      (o.kind = .mcvt → Does (.matrixOpBegin c i up) s (fun t =>
        (t.tile c i).queue = { o with begun := true, delta := [] } :: rest)) ∧
      (o.kind = .mma → mdKeep o.w0 = false → s.flipArmed ptSram c i = false →
        (x.readAll m up (actPieces o.w0 o.w1)).fault = 0 → (x.readAll m up (weightPieces o.w0 o.w2 o.w3)).fault = 0 →
        Does (.matrixOpBegin c i up) s (fun t =>
          let acts := (x.readAll m up (actPieces o.w0 o.w1)).data
          let sums := (x.loadAct o.w0 acts).sums o.w0 (x.readAll m up (weightPieces o.w0 o.w2 o.w3)).data
          (t.tile c i).queue = { o with begun := true, delta := sums } :: rest ∧ (t.tile c i).mregs = x.mregs))) ∧
    (o.begun = true → (∀ q ∈ rest, q.begun = false) →
      (o.kind = .mma → Does (.mmaComplete c i) s (fun t =>
        (mdN o.w0 ≤ 32 → ∀ k, (t.tile c i).mregs.get {} k =
          if k / 32 < mdM o.w0 ∧ k % 32 < mdN o.w0 then
            (if mdClear o.w0 then ({} : Ewa) else x.mregs.get {} k).add (o.delta.get {} k)
          else x.mregs.get {} k) ∧
        (t.tile c i).queue = rest ∧ (t.tile c i).sram = x.sram ∧
        (t.tile c i).tc.get 0 (mdTc o.w3) =
          (if mdTcEn o.w3 then (x.tc.get 0 (mdTc o.w3) + 1) % 2 ^ 32 else x.tc.get 0 (mdTc o.w3)))) ∧
      (o.kind = .mcvt →
        (x.convRows o).all (fun r => m.writeOk r.1 r.2.1.length && m.writeOk r.2.2.1 r.2.2.2.1.length) = true →
        Does (.mcvtComplete c i) s (fun t =>
          (t.tile c i).sram = ((x.convRows o).foldl (fun y r => (y.store m r.1 r.2.1).store m r.2.2.1 r.2.2.2.1) x).sram ∧
          (t.tile c i).queue = rest ∧
          (∀ k, (t.tile c i).mregs.get {} k =
            if cdClear o.w0 = true ∧ k / 32 < cdM o.w0 ∧ k % 32 < cdN o.w0 then {} else x.mregs.get {} k))))

/-- FLIT_INJECT (R112, R120, R121): with a credit, the SEND descriptor whose turn it is puts its next line, read from SRAM, behind the
injection FIFO with its tag and good parity, and the turn passes on; slot 16 injects the oldest request of the tile's tracker that may go. Without a credit nothing
is injected. -/
def Obligations.FlitInjection : Prop :=
  ∀ (s : State) (c i slot : Nat) (up : Option Nat) (d : Slot) (r : Req), c < 16 → i < 272 →
    let x := s.tile c i
    (x.injectRoom = false → slot ≤ 16 → Does (.flitInject c i slot up) s (fun t => t = s.toDevice)) ∧
    (x.injectRoom = true → slot < 16 → x.slots[slot]? = some d → sdKind d.w0 = kSend → x.nextSender = some d → s.flipArmed ptSram c i = false →
      (x.read (s.sramMap c i) up (sdPlace d.w0 d.w1 d.w2 d.moved).toNat 64).fault = 0 →
      Does (.flitInject c i slot up) s (fun t =>
        let l := lineOfBytes (x.read (s.sramMap c i) up (sdPlace d.w0 d.w1 d.w2 d.moved).toNat 64).data
        (t.tile c i).fifo.get [] 4 = x.fifo.get [] 4 ++ [{ tag := sdTag d.w0, data := l, parity := parityOf l, set := s.phase }] ∧
        (t.tile c i).slots = (x.movedFlit d.order).slots ∧ (t.tile c i).injected = some d.order)) ∧
    (x.injectRoom = true → s.nextTracked c i = some r → Does (.flitInject c i 16 up) s (fun t =>
      (t.tile c i).fifo.get [] 4 =
        x.fifo.get [] 4 ++ [{ tag := s.fget F.tileCtlReqTag (272 * c + i), ctl := some r.id, set := s.phase }] ∧
      t.reqs = s.reqs.map (fun q => if q.id = r.id then { q with stage := .mesh } else q)))

/-- R329: a request that the remote tracker of a tile sends is one of that tile's, and no earlier request of the same thread in its
256-byte granule is outstanding, whatever its kind or mode (each lies in one granule, R99). A remote descriptor's request goes
whatever is outstanding. -/
def Obligations.GranuleHoldsLaterRequests : Prop :=
  ∀ (s : State) (c i slot : Nat) (up : Option Nat) (d : Slot), c < 16 → i < 272 →
    let x := s.tile c i
    let sent (id : Nat) (t : Device) : Prop :=
      (t.tile c i).fifo.get [] 4 =
        x.fifo.get [] 4 ++ [{ tag := s.fget F.tileCtlReqTag (272 * c + i), ctl := some id, set := s.phase }]
    Does (.flitInject c i 16 up) s (fun t => t = s.toDevice ∨
      ∃ r ∈ s.reqs, r.c = c ∧ r.t = i ∧ r.stage = .tracker ∧ sent r.id t ∧
        (r.n < 8 → ∀ q ∈ s.reqs, q.c = c → q.t = i → q.n = r.n → q.id < r.id → q.gaddr / 256 ≠ r.gaddr / 256)) ∧
    (slot < 16 → x.injectRoom = true → x.slots[slot]? = some d → sdKind d.w0 = kGet → d.allMoved = false →
      x.slotBlocked d = false → s.trackerFull c i = false → Does (.flitInject c i slot up) s (sent s.nextId))

/-- FLIT_ARRIVE (R113–R117): a flit alone at input k, whose valid entry sends it out of one port to a neighbouring stage with a
credit, leaves its FIFO and enters the neighbour's with the tag its entry gives; one without a valid entry is discarded; a stage whose
outputs are forced idle does nothing. -/
def Obligations.FlitForwarding : Prop :=
  ∀ (s : State) (c i k d x y x' y' : Nat) (f : Flit), c < 16 → i < 272 → k < 5 → d < 4 →
    ((s.tile c i).outputsIdle = true → Does (.flitArrive c i [k]) s (fun t => t = s.toDevice)) ∧
    ((s.tile c i).outputsIdle = false → (s.tile c i).fifo.get [] k = [f] → reValid ((s.tile c i).entryOf f) = false →
      Does (.flitArrive c i [k]) s (fun t => (t.tile c i).fifo.get [] k = [])) ∧
    ((s.tile c i).outputsIdle = false → (s.tile c i).fifo.get [] k = [f] → f.gone = 0 →
      let e := (s.tile c i).entryOf f
      reValid e = true → reJoin e = false → reOut e = 2 ^ d → s.logicalOf c i = some (x, y) → neighbour x y d = some (x', y') →
      s.physicalOf c x' y' ≠ i → s.portRoom c x y d { f with tag := reTag e } = true →
      Does (.flitArrive c i [k]) s (fun t =>
        (t.tile c i).fifo.get [] k = [] ∧
        (t.tile c (s.physicalOf c x' y')).fifo.get [] ((d + 2) % 4) =
          (s.tile c (s.physicalOf c x' y')).fifo.get [] ((d + 2) % 4) ++ [{ f with tag := reTag e, set := s.phase }]))

/-- DESCRIPTOR_COMPLETE, STREAM_ENGINE_REQUEST, REMOTE_RESPONSE (R102, R103, R121, R323): a descriptor whose work is over frees its
slot and increments its counter; an engine, having sent the responses it holds, takes the request of the flit at its input if it has
room, and discards a flit that carries none; a response that matches a tile's request goes on as a flit on the tile's RSP_TAG, and delivered there it completes the request. -/
def Obligations.StreamAndRemoteEvents : Prop :=
  ∀ (s : State) (c i slot e k : Nat) (d : Slot) (p : Pkt) (r : Req) (f : Flit), c < 16 → i < 272 → slot < 16 → e < 8 → k < 5 →
    ((s.tile c i).slots[slot]? = some d → d.over = true → Does (.descriptorComplete c i slot) s (fun t =>
      (t.tile c i).slots = dropAt (s.tile c i).slots slot ∧
      (t.tile c i).tc.get 0 (sdTc d.w0) =
        if sdTcEn d.w0 then ((s.tile c i).tc.get 0 (sdTc d.w0) + 1) % 2 ^ 32 else (s.tile c i).tc.get 0 (sdTc d.w0))) ∧
    (∀ (rest : List (Nat × Flit)), let u := s.toDevice.sendAnswers c e
      (u.die c).engineIn.get [] e = (i, f) :: rest →
      (u.reqs.find? (fun q => f.ctl == some q.id && q.stage == .mesh) = some r → u.engineBusy c e < 512 →
        Does (.streamEngineRequest c e) s (fun t =>
          (t.die c).engineIn.get [] e = rest ∧
          t.reqs = u.reqs.map (fun q => if q.id = r.id then
            { q with stage := if u.settling && q.outward then .withheld else .engine, edge := i } else q))) ∧
      (u.reqs.find? (fun q => f.ctl == some q.id && q.stage == .mesh) = none → Does (.streamEngineRequest c e) s (fun t =>
        (t.die c).engineIn.get [] e = rest ∧ t.reqs = u.reqs))) ∧
    (p.ok = true → isResponse p = true → isDoorbell p = false → p.typ ≠ tMbxReject → respLenOk p r = true →
      s.reqs.find? (fun q => q.stage == .sent && matchesReq p q) = some r → (r.kind = .m2ld ∨ r.kind = .sst ∨ r.kind = .atomic) →
      (∀ q ∈ s.reqs, q.stage ≠ .answered) → (s.reqs.map Req.id).Nodup →
      let d := s.fget F.tileCtlEngine (272 * r.c + r.t) / 2
      ((s.tile r.c r.edge).fifo.get [] d).length < 32 →
      Does (.remoteResponse p) s (fun t =>
        (t.tile r.c r.edge).fifo.get [] d = (s.tile r.c r.edge).fifo.get [] d ++
          [{ tag := s.fget F.tileCtlRspTag (272 * r.c + r.t), ctl := some r.id, set := s.phase }] ∧
        t.reqs = s.reqs.map (fun q => if q.id = r.id then
          { q with stage := .returning, status := p.arg, answer := p.payload } else q))) ∧
    ((s.tile c i).outputsIdle = false → (s.tile c i).fifo.get [] k = [f] → f.gone = 0 → f.ctl = some r.id →
      let re := (s.tile c i).entryOf f
      reValid re = true → reJoin re = false → reOut re = 16 → reTag re = s.fget F.tileCtlRspTag (272 * c + i) →
      s.reqs.find? (fun q => q.id == r.id && q.c == c && q.t == i && q.stage == .returning) = some r → r.status = stOk →
      Does (.flitArrive c i [k]) s (fun t => (t.tile c i).fifo.get [] k = [] ∧ t.reqs = s.reqs.filter (fun q => q.id != r.id) ∧
        (r.kind = .m2ld → (t.thread c i r.n).gr r.d = (if r.d = 0 then 0 else BitVec.ofNat 64 (leNat (r.answer.take 8))) ∧
          (t.thread c i r.n).st = .ready) ∧
        (r.kind = .sst → (t.tile c i).tc.get 0 r.d = ((s.tile c i).tc.get 0 r.d + 1) % 2 ^ 32) ∧
        (r.kind = .atomic → (t.thread c i r.n).st = .ready)))

/-- TILE_FAILURE and TILE_ACCESSION (R126, R128, R129, R434) complete: a tile in service that fails has its outputs forced idle, and in a
row with its spare the work of its accession begins, while a row that cannot absorb the failure loses the stack at the coming tick; the
accession, in a held period or with no job running, by an active Curator core, moves each position from the failed column on to the next
one, with route memory from the resident copy, names the column in FAIL_COL and ends the work; where a carry bank cannot be read the
device withdraws. -/
def Obligations.TileSparing : Prop :=
  ∀ (s : State) (c i row f : Nat), c < 16 → i < 272 → row < 16 → f < 17 →
    (s.fget F.tileIdState (272 * c + i) = tsInService → (s.tile c i).outputsIdle = false →
      Does (.tileFailure c i) s (fun t => (t.tile c i).outputsIdle = true ∧
        (s.rowRepairable c (i / 17) = true → workTile c i ∈ t.fr.work) ∧
        (s.rowRepairable c (i / 17) = false → c ∈ t.fr.lossPending))) ∧
    (s.running = false ∨ s.fr.held = true → s.coreless = false →
      (List.range 17).find? (fun k => s.fr.work.contains (workTile c (17 * row + k))) = some f →
      Does (.tileAccession c row true) s (fun t =>
        t.fget F.cmpSpareFailCol c row = f ∧ t.fr.work = s.fr.work.filter (· != workTile c (17 * row + f)) ∧
        t.fget F.tileIdState (272 * c + 17 * row + f) = tsDeacc ∧
        (∀ k, f ≤ k → k < 16 → (t.tile c (17 * row + k + 1)).route = routeOf (s.positionCopy c (17 * row + k)) ∧
          t.fget F.tileIdState (272 * c + 17 * row + k + 1) = tsInService ∧
          t.fget F.tileIdLx (272 * c + 17 * row + k + 1) = s.fget F.tileIdLx (272 * c + 17 * row + k) ∧
          t.fget F.tileIdLy (272 * c + 17 * row + k + 1) = s.fget F.tileIdLy (272 * c + 17 * row + k))) ∧
      Does (.tileAccession c row false) s (fun t =>
        t.fr.work = s.fr.work.filter (· != workTile c (17 * row + f)) ∧
        (s.running = true → s.fr.withdraw = 0 → t.fr.withdraw = wCarryLost)))

/-! ## Power, reset and start-up -/

/-- An assertion of MOD_RST_N and a loss of the input leave nothing but what is non-volatile or kept by the standby controller and
the annex (R450, R509, R515): registers, memories, queues and tiles are gone, the flash, the flash log, the floor, the lost regulator phases
(R424) and the counts since power-up stay, and of a flash write in progress at least its first page (which page is the current one, is the
model's free value, log entry 139); and the cause is registered unless one is. A low level below 1 µs does nothing. POWER_UP clears the counts since
power-up and the phases (R424) and, after 1 s without input, the thermal latch (R397). -/
def Obligations.ResetKeepsOnlyNonVolatile : Prop :=
  ∀ (s : State) (lowNs lowMs : Nat),
    let kept (t : Device) : Prop :=
      t.now = 0 ∧ t.regs = [] ∧ t.tiles = [] ∧ t.dies = [] ∧ t.ports = [] ∧ t.reqs = [] ∧ t.fr = {} ∧ t.pln = {} ∧ t.fab = {} ∧
      t.pwr = { derate := s.pwr.derate, phaseLoss := s.pwr.phaseLoss } ∧ t.energy = [] ∧ t.thm = {} ∧ t.ctl = {} ∧ t.cds = {} ∧ t.mem.bytes = [] ∧ t.mem.softRows = s.mem.softRows ∧
      t.led = { flashLog := s.led.flashLog, wearEver := s.led.wearEver, pastTotals := t.led.pastTotals } ∧
      t.led.pastTotals = s.led.pastTotals ++ (if s.led.totals = [] then [] else [s.led.totals]) ∧
      (s.boot.writing = none → t.boot.flash = s.boot.flash) ∧ t.boot.writing = none ∧
      (∀ j a, s.boot.writing = some j → (a < j.addr + j.page ∨ j.addr + j.len ≤ a) → t.boot.flash.get 0xFF a = s.boot.flash.get 0xFF a) ∧
      t.boot.i3cRefused = s.boot.i3cRefused ∧ t.boot.floorSeen = s.boot.floorSeen ∧
      t.boot.starts = s.boot.starts ∧ t.boot.bootCount = s.boot.bootCount ∧ t.boot.shutdown = s.boot.shutdown ∧ t.out = s.out
    (10000 ≤ lowNs → Does (.modRstNAssert lowNs) s (fun t =>
      kept t ∧ t.boot.resetLow = true ∧ t.boot.pwrgd = s.boot.pwrgd ∧
      t.boot.cause = if s.boot.pwrgd then some (s.boot.cause.getD rcModRst) else s.boot.cause)) ∧
    (lowNs < 1000 → Does (.modRstNAssert lowNs) s (fun t => { t with free := s.free } = s.toDevice)) ∧
    Does .inputLoss s (fun t =>
      kept t ∧ t.boot.pwrgd = false ∧ t.boot.resetLow = s.boot.resetLow ∧
      t.boot.cause = if s.flag F.glbStatusReady then some (s.boot.cause.getD rcInputLoss) else s.boot.cause) ∧
    (s.boot.pwrgd = false → (s.boot.shutdown = none ∨ 1000 ≤ lowMs) → Does (.powerUp lowMs) s (fun t =>
      t.boot.starts = 0 ∧ t.boot.takeovers = 0 ∧ t.boot.shutdown = none ∧
      t.boot.tripped = (if s.boot.shutdown.isSome then s.boot.shutdown else s.boot.tripped) ∧
      t.pwr = { s.pwr with derate := none, phaseLoss := [] } ∧ { t with boot := s.boot, pwr := s.pwr } = s.toDevice)) ∧
    (s.boot.pwrgd = false → s.boot.shutdown.isSome = true → lowMs < 1000 → Does (.powerUp lowMs) s (fun t => t = s.toDevice))

/-- Start-up (R448, R449, R466, R468, R514): it begins when the power-good line is first high with MOD_RST_N released, or at its
release with the line high; without a working core it fails in step 0; a step past its limit fails; firmware that does not report
marks its slot and the other is taken, or start-up fails in step 1; the identity keys end the wait of step 5. -/
def Obligations.StartUpRunsItsSteps : Prop :=
  ∀ (s : State) (b : BootIn),
    let begun (u t : Device) : Prop :=
      t = u.startUp b ∧ (b.overrun = some 0 → u.bootStep = 0 → t.bootStep = 0) ∧
      (b.core0 = false → b.core1 = false → u.bootStep = 0 → b.overrun ≠ some 0 →
        t.bootStep = stFailed ∧ t.fget F.curBootFailCode = fcCores ∧ t.fget F.curBootFailStep = 0 ∧ t.boot.lasersOn = false ∧
        Out.uart fcCores ∈ t.out)
    (s.boot.pwrgd = false → s.boot.shutdown = none → s.boot.resetLow = false →
      Does (.powerGood b) s (begun { s.toDevice with boot := { s.boot with pwrgd := true } })) ∧
    (s.boot.pwrgd = true → s.boot.resetLow = true →
      Does (.modRstNRelease b) s (begun { s.toDevice with boot := { s.boot with resetLow := false } })) ∧
    (s.boot.input.isSome = true → s.bootStep ≤ 5 → Does .startUpStepTimeout s (fun t =>
      t.bootStep = stFailed ∧ t.fget F.curBootFailCode = fcStepTimeout ∧ t.fget F.curBootFailStep = s.bootStep ∧
      t.boot.lasersOn = false ∧ t.fab.bypassOpen = [] ∧ Out.uart fcStepTimeout ∈ t.out ∧
      (∀ q, q < 4 → t.fget F.plnStatusSource q = 0) ∧
      (t.led.recs.getLast?.map Record.cause) = some (4 * 256 + fcStepTimeout))) ∧
    (s.boot.input = some b → s.bootStep = 1 → b.overrun ≠ some 1 → s.fget F.curCatSlot = 0 →
      (s.fget F.curCatBResult ≠ 0 → Does .firmwareTimeout s (fun t =>
        t.fget F.curCatAResult = resFirmware ∧ t.flag F.curCatFallback = true ∧ t.bootStep = stFailed ∧
        t.fget F.curBootFailCode = fcNoCatalogue ∧ t.fget F.curBootFailStep = 1)) ∧
      (s.fget F.curCatBResult = 0 → b.fwOkB = false → Does .firmwareTimeout s (fun t =>
        t.fget F.curCatAResult = resFirmware ∧ t.flag F.curCatFallback = true ∧ t.bootStep = 1 ∧ t.fget F.curCatSlot = 1))) ∧
    (s.boot.input = some b → s.fget F.curCatIdent = 0 → s.bootStep ≠ stFailed → Does .identityKeysReady s (fun t =>
      t.fget F.curCatIdent = 1 ∧ t.rd .curIdent = deviceId ∧ t.boot.attestWaiting = [] ∧
      (s.bootStep = 5 → b.overrun ≠ some 5 →
        t.bootStep = stReady ∧ t.flag F.glbStatusReady = true ∧ t.boot.bootCount = s.boot.bootCount + 1)))

/-- Laser cartridges (R23–R25, R222–R224): an opened latch shows, and moves the quadrant of an active cartridge to its spare; without
a spare, a cartridge that leaves takes the comb with it, and the device withdraws; a cartridge inserted beside an active one becomes
the spare, or is failed by its self-check; a condition of R223 shows in its register and starts the switch, or without a spare
deaccessions its lines; the switch's end makes the spare the source. -/
def Obligations.LaserCartridges : Prop :=
  ∀ (s : State) (lu hours value : Nat) (ok leaves : Bool) (lines healthy : List Nat) (unlocked : List (Nat × Nat × Nat)), lu < 8 →
    let q := lu / 2
    let k := lu % 2
    let n := ((List.range 64).filter lines.contains).length
    let spare := s.fget F.plnLaserState q (1 - k) = lsStandby
    Does (.cartridgeLatchOpen lu leaves) s (fun t => t.flag F.plnLaserLatch q k = true ∧
      (leaves = true → t.fget F.plnLaserState q k = lsAbsent ∧ t.flag F.plnLaserSeated q k = false) ∧
      (s.fget F.plnStatusSource q = k + 1 → s.flag F.plnStatusSwitching q = false →
        (spare → t.flag F.plnStatusSwitching q = true ∧
          ((s.running = false ∨ s.roomForHolds (s.holdsNeeded (workUs (workCart q))) = true) → workCart q ∈ t.fr.work)) ∧
        (¬ spare → leaves = true → t.fget F.plnStatusSource q = 0 ∧ (s.running = true → s.coreless = false → t.fr.withdraw ≠ 0)))) ∧
    (s.fget F.plnLaserState q k ≠ lsActive → hours < 2 ^ 32 → Does (.cartridgeInserted lu ok hours) s (fun t =>
      t.fget F.plnLaserState q k = (if ok then lsStandby else lsFailed) ∧ t.flag F.plnLaserSeated q k = true ∧
      t.flag F.plnLaserLatch q k = false ∧ t.fget F.plnLaserOnHours q k = hours ∧ t.fget F.plnLaserLinesLow q k = 0 ∧
      t.fget F.plnStatusSource q = s.fget F.plnStatusSource q)) ∧
    (s.fget F.plnStatusSource q = k + 1 → value < 63 →
      Does (.cartridgeSwitchCondition q 0 value lines) s (fun t => t.fget F.plnLaserPwrDrop q k = value) ∧
      Does (.cartridgeSwitchCondition q 1 value lines) s (fun t => t.fget F.plnLaserLinesLow q k = min 63 n) ∧
      Does (.cartridgeSwitchCondition q 2 value lines) s (fun t => t.fget F.plnLaserTonesBad q k = min 63 n) ∧
      (s.flag F.plnStatusSwitching q = false → spare →
        (15 < value → Does (.cartridgeSwitchCondition q 0 value lines) s (fun t => t.flag F.plnStatusSwitching q = true)) ∧
        (2 < n → Does (.cartridgeSwitchCondition q 1 value lines) s (fun t => t.flag F.plnStatusSwitching q = true)) ∧
        (1 ≤ n → Does (.cartridgeSwitchCondition q 2 value lines) s (fun t => t.flag F.plnStatusSwitching q = true))) ∧
      (s.flag F.plnStatusSwitching q = false → ¬ spare → 2 < n →
        (n < 64 → Does (.cartridgeSwitchCondition q 1 value lines) s (fun t =>
          ∀ l ∈ lines, l < 64 → ∀ i, i < 56 → t.lineDead (busOf q i) l = true)) ∧
        (n = 64 → Does (.cartridgeSwitchCondition q 1 value lines) s (fun t => t.fget F.plnStatusSource q = 0)))) ∧
    (s.fget F.plnStatusSource q = k + 1 → s.flag F.plnStatusSwitching q = true → (s.running = false ∨ s.fr.held = true) →
      Does (.cartridgeSwitchComplete q ok healthy unlocked) s (fun t =>
        t.fget F.plnStatusSource q = 2 - k ∧ t.flag F.plnStatusSwitching q = false ∧
        (s.fget F.plnLaserState q k = lsActive → t.fget F.plnLaserState q k = (if ok then lsFailed else lsDegraded)) ∧
        t.fget F.plnLaserState q (1 - k) = lsActive ∧
        workCart q ∉ t.fr.work ∧ ∀ l ∈ healthy, l < 64 → ∀ i, i < 56 → t.lineDead (busOf q i) l = false))

/-! ## Clocks, crossings and stacks -/

/-- The reference and the tick (R365, R366): losing the reference switches to the internal one and counts, its return switches
back; a locked device that is not the master goes into tick holdover; its time limit ends it, with the tick no longer disciplined (log entry
70), and withdraws a running device with an active Curator core. -/
def Obligations.ReferenceAndHoldover : Prop :=
  ∀ s : State,
    Does .refclkInvalid s (fun t => t.flag F.clkStatusRef = true ∧ t.flag F.clkStatusRefOk = false ∧
      t.fget F.clkStatusRefLosses = min (2 ^ F.clkStatusRefLosses.w - 1) (s.fget F.clkStatusRefLosses + 1)) ∧
    (s.flag F.clkStatusRef = true → Does .refclkRestored s (fun t =>
      t.flag F.clkStatusRef = false ∧ t.flag F.clkStatusRefOk = true ∧
      t.fget F.clkStatusRefLosses = s.fget F.clkStatusRefLosses)) ∧
    (s.fget F.prtTickState = tkLocked → s.flag F.prtStatusMaster = false → Does .tickHoldover s (fun t =>
      t.flag F.clkStatusTickHo = true ∧ t.fab.hoSince = s.now ∧ ∀ p, p < 4 → t.fget F.prtTickState p = tkHoldover)) ∧
    (s.flag F.clkStatusTickHo = true → Does .tickHoldoverTimeout s (fun t =>
      t.flag F.clkStatusTickHo = false ∧ (∀ p, p < 4 → t.fget F.prtTickState p = tkUnlocked) ∧
      (s.running = true → s.fr.withdraw = 0 → s.coreless = false → t.fr.withdraw = wTickLost)))

/-- Clock domains (R358, R360, R362–R364, R395, R396, R506): a droop stretches the clock and suspends the step timer; its release
ends the stretch; a change moves STEP one step toward TARGET and ends there, upward only once the regulator has the voltage of the new
step, downward with the voltage 2 µs behind; a change past its limit ends with TIMEOUT and the voltage of its step; a legal
write of the Curator sets TARGET, and with RESET isolates the stack; cool sensors end the division by 4. -/
def Obligations.ClockDomains : Prop :=
  ∀ (s : State) (c permille k : Nat) (v : Word), c < 16 →
    let x := s.die c
    (bits v.toNat 6 6 ≤ s.fget F.clkDomFmaxStep 0 c →
      (bit v.toNat 26 = false → Does (.clkDomTarget .curator c v) s (fun t =>
        t.fget F.clkDomTarget 0 c = bits v.toNat 6 6 ∧ (t.die c).newTarget = true ∧ t.domStep c = s.domStep c ∧
        t.out = s.out ++ [.response .curator true 0])) ∧
      (bit v.toNat 26 = true → x.isolated = false → Does (.clkDomReset .curator c v) s (fun t =>
        t.fget F.clkDomTarget 0 c = bits v.toNat 6 6 ∧ (t.die c).isolated = true ∧ t.domState c = cdIsolated))) ∧
    (s.flag F.clkDomDiv4 0 c = true → (∀ n ∈ actingHard c, s.gov n + 20 ≤ hardOf n) → Does (.divisionEnd c) s (fun t =>
      t.flag F.clkDomDiv4 0 c = false ∧ t.flag F.thmStackDiv4 0 c = false ∧ t.die c = x)) ∧
    (30 < permille → Does (.droop c permille) s (fun t =>
      (t.die c).stretch = (if 60 < permille then 2 else 1) ∧ (t.die c).suspended = true ∧ t.flag F.clkDomStretch 0 c = true ∧
      (x.stretched = false → t.fget F.clkStretchEvents 0 c = min (2 ^ F.clkStretchEvents.w - 1) (s.fget F.clkStretchEvents 0 c + 1)) ∧
      ∀ d, d ≠ c → t.die d = s.die d)) ∧
    (permille ≤ 30 → Does (.droop c permille) s (fun t => t = s.toDevice)) ∧
    Does (.stretchRelease c) s (fun t => t.die c = { x with stretch := 0 } ∧
      t.flag F.clkDomStretch 0 c = decide (x.testLeft ≠ 0) ∧ ∀ d, d ≠ c → t.die d = s.die d) ∧
    (s.flag F.tstCtlActive = true → s.flag F.tstStretchEn = true → s.fget F.tstStretchStack = c →
      Does (.periodicStretch c) s (fun t => (t.die c).testLeft = 960000 * s.fget F.tstStretchLen ∧ (t.die c).suspended = true)) ∧
    (x.stretched = false → s.flag F.clkDomDiv4 0 c = false → x.isolated = false →
      Does (.suspensionEnd c) s (fun t =>
        t.die c = (if x.changeTo.any (fun k => decide (s.domStep c < k)) then
          { x with suspended := false, volt := s.domStep c + 1, lowerIn := 0 } else { x with suspended := false }) ∧
        ∀ d, d ≠ c → t.die d = s.die d)) ∧
    (x.changeTo = some k → k ≤ 36 → s.domStep c ≤ 36 → x.suspended = false → s.domState c ≠ cdReset → s.domState c ≠ cdIsolated →
      (s.domStep c < k → x.volt ≤ s.domStep c → Does (.frequencyMove c) s (fun t => t = s.toDevice)) ∧
      (s.domStep c < k → s.domStep c < x.volt → Does (.frequencyMove c) s (fun t =>
        t.domStep c = s.domStep c + 1 ∧ t.fget F.clkDomMhz 0 c = 750 + 25 * (s.domStep c + 1) ∧
        (s.domStep c + 1 < k → (t.die c).volt = s.domStep c + 2) ∧
        (s.domStep c + 1 = k → (t.die c).changeTo = none ∧ t.fget F.clkDomResult 0 c = crDone ∧ t.domState c = cdSteady))) ∧
      (k < s.domStep c → Does (.frequencyMove c) s (fun t =>
        t.domStep c = s.domStep c - 1 ∧ t.fget F.clkDomMhz 0 c = 750 + 25 * (s.domStep c - 1) ∧
        (t.die c).volt = s.domStep c ∧ (t.die c).lowerIn = 2000 ∧
        (s.domStep c - 1 = k → (t.die c).changeTo = none ∧ t.fget F.clkDomResult 0 c = crDone)))) ∧
    (x.changeTo = some k → Does (.frequencyChangeTimeout c) s (fun t =>
      (t.die c).changeTo = none ∧ t.fget F.clkDomResult 0 c = crTimeout ∧ t.domStep c = s.domStep c ∧
      (t.die c).volt = s.domStep c))

/-- Stacks that are reset and come back, crossings and vertical lanes (R353–R359, R426–R430): a reset isolates the stack and starts
its return, which ends with its clock locked, its crossing and retimers aligned, and an active Curator core; a PLL that does not lock loses
the stack at the coming tick; the third failed attempt or slip fails a crossing, and a slipped buffer stands empty or full; a lane that
passes its sweep samples at the centre of its window, and one that fails takes a spare of its group; a test slot begins for the group
whose turn it is. -/
def Obligations.StacksAndCrossings : Prop :=
  ∀ (s : State) (c x g l m k : Nat) (v full : Bool) (sweeps : List (Nat × Nat)), c < 16 → x < 24 →
    ((s.die c).isolated = false → Does (.stackReset c) s (fun t =>
      (t.die c).isolated = true ∧ t.domState c = cdIsolated ∧ t.flag F.clkDomLocked 0 c = false ∧ t.fget F.clkXingState 0 c = 0 ∧
      (t.die c).retimed = false ∧ t.fr.fault = true ∧ (t.die c).changeTo = none ∧
      ((s.running = false ∨ s.roomForHolds (s.holdsNeeded (workUs (workStack c))) = true) → workStack c ∈ t.fr.work) ∧
      (∀ i n, i < 272 → (t.thread c i n).st = .idle) ∧
      ∀ d i, d ≠ c → d < 16 → i < 272 → t.tile d i = s.tile d i)) ∧
    (s.domState c = cdIsolated → workStack c ∈ s.fr.work → Does (.clockPresent c) s (fun t => t.domState c = cdReset)) ∧
    (s.domState c = cdReset → s.flag F.clkDomLocked 0 c = true → s.carries c = true → (s.die c).retimed = true → s.coreless = false →
      Does (.stackRejoin c) s (fun t =>
        (t.die c).isolated = false ∧ t.flag F.clkDomLocked 0 c = true ∧ t.fget F.clkXingState 0 c = 2 ∧
        ((s.die c).changeTo = none → t.domState c = cdSteady) ∧ workStack c ∉ t.fr.work)) ∧
    (s.carries c = false → Does (.stackRejoin c) s (fun t => t = s.toDevice)) ∧
    (s.domState c = cdReset → s.flag F.clkDomLocked 0 c = false → Does (.stackPllTimeout c) s (fun t =>
      c ∈ t.fr.lossPending ∧ workStack c ∉ t.fr.work)) ∧
    (s.fget F.clkXingState 0 x < 2 → (x < 16 → s.domState x ≠ cdIsolated) → Does (.crossingAlignment x [] v) s (fun t =>
      t.fget F.clkXingState 0 x = (if v then 2 else 1) ∧ (v = true → t.fget F.clkXingLatency 0 x = (if x < 16 then 12 else 8)) ∧
      (x < 16 → s.domState x = cdReset → t.flag F.clkDomLocked 0 x = true) ∧ (x < 16 → v = true → (t.die x).retimed = true))) ∧
    (s.fget F.clkXingState 0 x < 2 → s.pln.aligns.get 0 x < 2 → Does (.alignmentAttemptTimeout x) s (fun t =>
      t.pln.aligns.get 0 x = s.pln.aligns.get 0 x + 1 ∧ t.fget F.clkXingState 0 x = 1)) ∧
    (s.fget F.clkXingState 0 x < 2 → 2 ≤ s.pln.aligns.get 0 x → Does (.alignmentAttemptTimeout x) s (fun t =>
      t.fget F.clkXingState 0 x = 3)) ∧
    (k < 2 * xGroups x → Does (.slip x (k, full)) s (fun t =>
      (s.thirdSlip x = true → t.fget F.clkXingState 0 x = 3) ∧
      (s.thirdSlip x = false → 16 ≤ x → t.fget F.clkXingState 0 x = 1) ∧
      (s.thirdSlip x = false → x < 16 → (t.die x).isolated = true) ∧
      t.fget F.clkXingSlips 0 x = min (2 ^ F.clkXingSlips.w - 1) (s.fget F.clkXingSlips 0 x + 1) ∧
      t.occupancy x k = (if full then 8 else 0))) ∧
    (s.fget F.clkXingState 0 c < 2 → s.domState c ≠ cdIsolated → g < 200 → l < 68 → s.laneOut c g l = false → (s.die c).lost.get 0 g < 4 →
      ((∃ a, a ≤ 24 ∧ ∀ i, i < 8 → bit m (a + i) = true) → Does (.crossingAlignment c [(g, l, m)] v) s (fun t =>
        (t.die c).lost = (s.die c).lost ∧ t.laneOut c g l = false ∧
        ∃ a r, 8 ≤ r ∧ a + r ≤ 32 ∧ (∀ i, i < r → bit m (a + i) = true) ∧ (t.die c).laneDelay.get 16 (vLane g l) = a + r / 2)) ∧
      ((¬ ∃ a, a ≤ 24 ∧ ∀ i, i < 8 → bit m (a + i) = true) → Does (.crossingAlignment c [(g, l, m)] v) s (fun t =>
        (t.die c).lost.get 0 g = (s.die c).lost.get 0 g + 1 ∧ t.laneOut c g l = true ∧
        t.fget F.curWearAccessions 0 3 = min (2 ^ F.curWearAccessions.w - 1) (s.fget F.curWearAccessions 0 3 + 1)))) ∧
    (let n := slotGroup (s.die c).testNext;
      s.idleLanes c n ≠ [] → Does (.testSlot c n sweeps) s (fun t =>
        (t.die c).testNext = (s.die c).testNext + 1 ∧ (t.die c).slot.map TestSlot.group = some n ∧
        (t.die c).slot.map TestSlot.left = some ((List.range 68).filter (fun l => !s.laneOut c n l)) ∧ (t.die c).lost = (s.die c).lost)) ∧
    (g < 4552 → g ≠ slotGroup (s.die c).testNext → Does (.testSlot c g sweeps) s (fun t => t = s.toDevice))

/-! ## Lanes and bypass elements -/

/-- Lanes (R278–R285, R302, R304, R316): training ends UP with its peer, or DOWN and MISWIRED, and a miswired lane trains again only after
its light was lost; the third failed attempt fails the lane, as does the corrected symbol rate; codewords within the limit only count; an interruption, which loses what the lane was sending, the return of
light, a lasting interruption and a wake move the lane's state and no other lane's; a bypass element opens, when its turn has come,
with a notice to both neighbours, and closes again with its lanes FAILED. -/
def Obligations.Lanes : Prop :=
  ∀ (s : State) (z peer role group pos side index rt k n : Nat) (b : Bool), z < 64 → k < 8 → peer < 1024 →
    let p := z / 16
    let j := z % 16
    let others (t : Device) : Prop := ∀ y, y < 64 → y ≠ z → t.laneState y = s.laneState y
    let missed := s.flag F.prtLaneMiswired p j = true ∧ z ∉ s.fab.lightLost
    ((s.laneState z = lDown ∨ s.laneState z = lTraining) → missed → Does (.laneTraining z peer role group side index rt pos) s (fun t =>
      t = s.toDevice)) ∧
    ((s.laneState z = lDown ∨ s.laneState z = lTraining) → s.laneRole z ≠ 3 → ¬ missed →
      (s.peerOk z role group side index = true → Does (.laneTraining z peer role group side index rt pos) s (fun t =>
        t.laneState z = lUp ∧ t.fget F.prtLanePeer p j = (if role = 1 then 0x3FF else peer) ∧ t.flag F.prtLaneMiswired p j = false ∧
        t.fab.roundTrip.get 0 z = rt ∧ t.fget F.prtLaneDelay p j = min 4095 (rt / 2) ∧ z ∈ t.fab.fullLevel ∧
        t.fab.attempts.get 0 z = 0 ∧ t.fab.peerPos.get 0 z = (if role = 0 then pos + 1 else 0) ∧
        ((s.port p).spareOn = some j → t.fget F.prtLaneState p 16 = lUp ∧ t.fget F.prtLaneDelay p 16 = min 4095 (rt / 2)) ∧ others t)) ∧
      (s.peerOk z role group side index = false → Does (.laneTraining z peer role group side index rt pos) s (fun t =>
        t.laneState z = lDown ∧ t.flag F.prtLaneMiswired p j = true ∧ z ∉ t.fab.lightLost ∧ others t)) ∧
      (s.fab.attempts.get 0 z < 2 → Does (.trainingAttemptTimeout z) s (fun t =>
        t.laneState z = lTraining ∧ t.fab.attempts.get 0 z = s.fab.attempts.get 0 z + 1 ∧ others t)) ∧
      (2 ≤ s.fab.attempts.get 0 z → (s.port p).spareUsed = true → Does (.trainingAttemptTimeout z) s (fun t =>
        t.laneState z = lFailed ∧ z ∉ t.fab.fullLevel ∧ others t)) ∧
      (2 ≤ s.fab.attempts.get 0 z → (s.port p).spareUsed = false → s.running = false → Does (.trainingAttemptTimeout z) s (fun t =>
        t.laneState z = lDown ∧ (t.port p).spareUsed = true ∧ (t.port p).spareOn = some j ∧ others t))) ∧
    (n ≤ 16 → Does (.laneErrorRateExceeded z b ⟨n, false⟩) s (fun t =>
      t.laneState z = s.laneState z ∧ t.fget F.prtLaneUncorr p j = min (2 ^ F.prtLaneUncorr.w - 1) (s.fget F.prtLaneUncorr p j + n) ∧ others t)) ∧
    ((s.laneState z = lUp ∨ s.laneState z = lDimmed ∨ s.laneState z = lInterrupted) → Does (.laneErrorRateExceeded z true ⟨n, true⟩) s (fun t =>
      t.laneState z = lFailed ∧ t.fget F.prtLaneUncorr p j = min (2 ^ F.prtLaneUncorr.w - 1) (s.fget F.prtLaneUncorr p j + n) ∧ z ∉ t.fab.fullLevel ∧ (t.port p).spareUsed = (s.port p).spareUsed ∧ others t)) ∧
    ((s.laneState z = lUp ∨ s.laneState z = lDimmed) → Does (.laneInterrupted z) s (fun t =>
      t.laneState z = lInterrupted ∧ t.fab.txq = s.fab.txq ∧ t.fab.sending.get 0 z = 0 ∧
      t.fab.laneQ.get 0 z = s.fab.laneQ.get 0 z - s.fab.sending.get 0 z ∧ others t)) ∧
    (s.laneState z = lDown → s.flag F.prtLaneMiswired p j = true → Does (.laneInterrupted z) s (fun t => z ∈ t.fab.lightLost)) ∧
    (s.laneState z = lInterrupted →
      Does (.laneLightReturn z) s (fun t => t.laneState z = lUp ∧ others t) ∧
      Does (.laneDown z) s (fun t => t.laneState z = lDown ∧ z ∉ t.fab.fullLevel ∧ others t)) ∧
    (s.laneState z = lDimmed → s.fab.laneQ.get 0 z ≠ 0 → Does (.laneWake z) s (fun t =>
      t.laneState z = lUp ∧ t.fab = s.fab ∧ others t)) ∧
    (s.laneState z = lUp → Does (.linkDelayMeasurement z rt) s (fun t =>
      t.fab.roundTrip.get 0 z = rt ∧ t.fget F.prtLaneDelay p j = min 4095 (rt / 2) ∧ t.laneState z = lUp ∧ others t)) ∧
    (s.mayOpen k = false → Does (.bypassElementOpen k) s (fun t => t = s.toDevice)) ∧
    (s.mayOpen k = true → s.fab.txq.get [] (westLane k) = [] → s.fab.txq.get [] (eastLane k) = [] →
      Does (.bypassElementOpen k) s (fun t =>
        t.fab.bypassOpen = s.fab.bypassOpen ++ [k] ∧ t.out = s.out ++ [.quiesce k] ∧
        t.laneState (westLane k) = lDown ∧ t.laneState (eastLane k) = lDown)) ∧
    (k ∈ s.fab.bypassOpen → s.laneState (westLane k) ≠ lUp → Does (.bypassLaneTimeout k) s (fun t =>
      k ∉ t.fab.bypassOpen ∧ t.laneState (westLane k) = lFailed ∧ t.laneState (eastLane k) = lFailed)) ∧
    Does (.laneQuiesceNotice k b) s (fun t => (k, b) ∈ t.fab.quiesced ∧ { t with fab := s.fab } = s.toDevice)

/-! ## The Plinth -/

/-- POOL_GRANT (R208, R209) completes in every state, and changes only the grants that wait for the boundary. Every grant of the next
phase names a pool channel of some site there and a unit of another site that has demand from it; the grants take no more receivers
of a site or an edge, and no more rings of a site on a bus, than the phase's static map leaves; a channel stays without a grant only
where every unit with demand is out of receivers or rings; and of the candidates the one with the largest d / (g + 1) is chosen, the
lowest unit of equals. -/
def Obligations.PoolGrants : Prop :=
  (∀ s : State, ∃ t : State, exec .poolGrant s = .next t ∧ t.pending = s.pending ∧
    { t with pln := { t.pln with nextGrants := s.pln.nextGrants } } = s ∧ (s.running = false → t = s) ∧
    (s.running = true →
      let m := s.mapOf s.nextPhase
      let got (f : Nat → Nat → Bool) : Nat := (t.pln.nextGrants.filter (fun g => f g.1 (g.2 - 1))).length
      (∀ k, t.pln.nextGrants.get 0 k ≠ 0 →
        ∃ site, site < 40 ∧ k ∈ poolChans m site ∧ t.pln.nextGrants.get 0 k ≤ 88 ∧
          unitSite (t.pln.nextGrants.get 0 k - 1) ≠ site ∧ s.pln.demand.get 0 (88 * site + (t.pln.nextGrants.get 0 k - 1)) ≠ 0) ∧
      (∀ site, got (fun _ u => unitSite u == site) ≤ s.rxLimit site - staticRx m site) ∧
      (∀ u, u < 64 → got (fun _ v => v == u) ≤ s.rxEdge (unitSite u) (u % 4) - staticRxEdge m (unitSite u) (u % 4)) ∧
      (∀ site b, b < 224 → got (fun k u => unitSite u == site && k / 64 == b) ≤ s.ringsIn site b - staticRings m site b) ∧
      (∀ site k u, site < 40 → k ∈ poolChans m site → t.pln.nextGrants.get 0 k = 0 → u < 88 → unitSite u ≠ site →
        s.pln.demand.get 0 (88 * site + u) ≠ 0 →
        s.rxLimit (unitSite u) - staticRx m (unitSite u) ≤ got (fun _ v => unitSite v == unitSite u) ∨
        (u < 64 ∧ s.rxEdge (unitSite u) (u % 4) - staticRxEdge m (unitSite u) (u % 4) ≤ got (fun _ v => v == u)) ∨
        s.ringsIn (unitSite u) (k / 64) - staticRings m (unitSite u) (k / 64) ≤
          got (fun c v => unitSite v == unitSite u && c / 64 == k / 64)))) ∧
  (∀ (s : Device) (m : List MapEnt) (a : Arb) (site b u v : Nat), s.bestUnit m a site b = some u →
    let d (x : Nat) := s.pln.demand.get 0 (88 * site + x)
    v < 88 → unitSite v ≠ site → d v ≠ 0 → s.rxFree m a v ≠ 0 → s.ringFree m a (unitSite v) b ≠ 0 →
      d v * (a.g.get 0 u + 1) ≤ d u * (a.g.get 0 v + 1) ∧ (d v * (a.g.get 0 u + 1) = d u * (a.g.get 0 v + 1) → u ≤ v))

/-- Cells (R195–R204, R220): a receiver undoes the scrambler; an ASSIGN's channel sends the next line of its window when its turn has come; a receiver counts corrected
bytes, and a cell of a static entry goes to the landing buffer, the memory site or the port die; one that does not decode, or whose
header fails, is lost and counted, one with another channel's identity is counted and left; a receiver without block boundaries
takes nothing new and counts good blocks; one that a crossing cuts off gets nothing; a dark channel loses its cells; a fetch whose read is served sends its next line to every
destination; a window line is stored in memory, and no byte outside it changes, or waits for its controller. -/
def Obligations.CellsAndLines : Prop :=
  (∀ reg ds, descramble reg (scramble reg ds) = ds) ∧
  ∀ (s : State) (site b k i : Nat) (e : MapEnt) (q : SendLine) (qs : List SendLine) (c : Cell) (rest : List Cell)
    (errors : List (Nat × Nat)) (headerOk tickClear : Bool),
    b < 224 → k < 60 → site < 40 → passes b site = true →
    let rx := rxKey site b k
    (s.lit b k = true → s.entryAt b k = some (i, e) → b < 128 → e.typ = tAssign → s.rotation i e = some k →
      takeLine ((s.die (srcSite b)).sendQ.get [] (busEdge b)) i = some (q, qs) →
      Does (.cellSend b k) s (fun t =>
        (t.die (srcSite b)).sendQ.get [] (busEdge b) = qs ∧ t.pln.rot.get 0 i = k + 1 ∧
        t.pln.flight.get [] (chKey b k) = s.pln.flight.get [] (chKey b k) ++
          [{ phase := s.phase, entry := i, index := q.line - e.srcLine,
             data := ((s.die (srcSite b)).lbRead (lbKey (busEdge b) q.line)).1,
             parity := ((s.die (srcSite b)).lbRead (lbKey (busEdge b) q.line)).2, dst := e.dsts.getD 0 0 }])) ∧
    (s.pln.sync.get 0 rx ≠ 0 → s.reaches b site = true → (takeCell (s.pln.flight.get [] (chKey b k)) site).any (fun h => h.1.started) = false →
      Does (.cellReceive site b k b k errors headerOk tickClear) s (fun t =>
        t.pln.sync.get 0 rx = (if zeroSyndrome (errorPattern errors) then s.pln.sync.get 0 rx - 1 else syncBlocks) ∧
        t.pln.wrongRun.get 0 rx = s.pln.wrongRun.get 0 rx + 1 ∧ t.dies = s.dies)) ∧
    (s.reaches b site = false → Does (.cellReceive site b k b k errors headerOk tickClear) s (fun t =>
      t.dies = s.dies ∧ t.pln.heldLines = s.pln.heldLines ∧ t.pln.toPort = s.pln.toPort)) ∧
    (s.pln.sync.get 0 rx = 0 → s.reaches b site = true → takeCell (s.pln.flight.get [] (chKey b k)) site = some (c, rest) →
      ((correctable errors = false ∨ headerOk = false) → Does (.cellReceive site b k b k errors headerOk tickClear) s (fun t =>
        t.pln.flight.get [] (chKey b k) = rest ∧
        t.fget F.plnErrUncorr (siteQuad site) = min (2 ^ F.plnErrUncorr.w - 1) (s.fget F.plnErrUncorr (siteQuad site) + 1))) ∧
      (correctable errors = true → c.dst = site → c.dyn = none → (s.mapOf c.phase)[c.entry]? = some e →
        let done (t : Device) : Prop := t.pln.flight.get [] (chKey b k) = rest ∧
          t.fget F.plnFecCorrBytes (busQuad b) =
            min (2 ^ F.plnFecCorrBytes.w - 1) (s.fget F.plnFecCorrBytes (busQuad b) + wrongBytes errors)
        (site < 16 → s.lbRoom site e.edge (e.dstLine + c.index) = true →
          Does (.cellReceive site b k b k errors true false) s (fun t => done t ∧
            (t.die site).lbRead (lbKey e.edge (e.dstLine + c.index)) = (c.data, c.parity) ∧
            t.mem.cc.get 0 e.cc = if e.ccEn then min (2 ^ 32 - 1) (s.mem.cc.get 0 e.cc + 1) else s.mem.cc.get 0 e.cc) ∧
          Does (.cellReceive site b k b k errors true true) s (fun t => done t ∧
            (t.die site).lbLate = (s.die site).lbLate + 1 ∧ (t.die site).lb = (s.die site).lb)) ∧
        (isMemSite site = true → Does (.cellReceive site b k b k errors true tickClear) s (fun t =>
          done t ∧ t.pln.heldLines = s.pln.heldLines ++ [c])) ∧
        (36 ≤ site → Does (.cellReceive site b k b k errors true tickClear) s (fun t => done t ∧
          t.pln.toPort.get [] (4096 * c.phase + c.entry) =
            s.pln.toPort.get [] (4096 * c.phase + c.entry) ++ [(c.index, c.data)])))) ∧
    (∀ sb sk, sb < 224 → sk < 60 → chKey sb sk ≠ chKey b k → s.pln.sync.get 0 rx = 0 → s.reaches b site = true → correctable errors = true →
      Does (.cellReceive site b k sb sk errors true tickClear) s (fun t =>
        t.pln = { s.pln with wrongRun := s.pln.wrongRun.upd 0 rx (· + 1) } ∧
        t.fget F.plnErrWrongId (siteQuad site) = min (2 ^ F.plnErrWrongId.w - 1) (s.fget F.plnErrWrongId (siteQuad site) + 1))) ∧
    Does (.darkChannel site b k) s (fun t => chKey b k ∈ t.pln.dark ∧ t.pln.flight.get [] (chKey b k) = []) ∧
    (∀ (ch key : Nat) (u : Device), s.mapNow[i]? = some e → e.typ = tFetch → s.pln.fetched.get 0 i < e.lines → s.pln.guard = false →
      s.rotation i e = some ch → s.fetchAccess (e.gaddr + 64 * s.pln.fetched.get 0 i) = some (key, u) →
      Does (.fetchLineRead i) s (fun t =>
        let n := s.pln.fetched.get 0 i
        let d := (u.lineOut (e.gaddr + 64 * n) key).1
        t.pln.fetched.get 0 i = n + 1 ∧ t.pln.rot.get 0 i = ch + 1 ∧
        t.pln.flight.get [] (chKey e.bus ch) = s.pln.flight.get [] (chKey e.bus ch) ++
          e.dsts.map (fun x => { phase := s.phase, entry := i, index := n, data := d.1, parity := d.2, dst := x }))) ∧
    (∀ home : Nat × Nat, isMemSite site = true → s.settling = false → takeCell s.pln.heldLines site = some (c, rest) →
      (s.mapOf c.phase)[c.entry]? = some e → s.accessStatus false false .write (e.gaddr + 64 * c.index) 64 = stOk →
      s.locate (e.gaddr + 64 * c.index) = some home → c.parity = parityOf c.data →
      (s.accessFor true (home.2 / 64) (some (.window site)) = none → Does (.windowLineApply site) s (fun t => t = s.toDevice)) ∧
      ((s.accessFor true (home.2 / 64) (some (.window site))).isSome = true → s.mem.lost (home.2 / 64) = false →
        s.mem.migrating.get 0 (lineChan (home.2 / 64)) = 0 →
        Does (.windowLineApply site) s (fun t =>
          t.pln.heldLines = rest ∧ t.mem.lineAt (home.2 / 64) = c.data ∧
          (∀ a, (a < 64 * (home.2 / 64) ∨ 64 * (home.2 / 64) + 64 ≤ a) → t.mem.bytes.get 0 a = s.mem.bytes.get 0 a) ∧
          t.mem.cc.get 0 e.cc = if e.ccEn then min (2 ^ 32 - 1) (s.mem.cc.get 0 e.cc + 1) else s.mem.cc.get 0 e.cc)))

/-- Drop rings (R218–R221): a ring in service begins to acquire a line from its preset; the tone of its line at least 10 dB above the
others locks it; a second failed check, or no lock in time, deaccessions it; a lost lock makes its channel dark while it acquires
again. -/
def Obligations.DropRings : Prop :=
  ∀ (s : State) (site b r line k : Nat) (tones : List Int), site < 40 → b < 224 → r < 8 → line < 64 → passes b site = true →
    let x := s.ring site b r
    (x.state ≠ rDeacc → Does (.ringAcquisition site b r line) s (fun t =>
      t.ring site b r = { x with state := rAcquiring, line := line, fails := 0 } ∧ t.lockOffset site b r = 0 ∧
      ∀ u, u ≠ ringKey site b r → t.pln.rings.get none u = s.pln.rings.get none u)) ∧
    (tones.length = 64 → (toneOk line tones = true ↔ ∀ n, n < 64 → n ≠ line → tones.getD n 0 + 100 ≤ tones.getD line 0)) ∧
    (x.state = rAcquiring →
      (toneOk x.line tones = true → Does (.identityCheck site b r tones) s (fun t =>
        t.ring site b r = { x with state := rLocked, fails := 0 })) ∧
      (toneOk x.line tones = false → x.fails = 0 → Does (.identityCheck site b r tones) s (fun t =>
        t.ring site b r = { x with fails := 1 } ∧
        t.fget F.plnErrWrongId (siteQuad site) = min (2 ^ F.plnErrWrongId.w - 1) (s.fget F.plnErrWrongId (siteQuad site) + 1))) ∧
      (toneOk x.line tones = false → x.fails ≠ 0 → Does (.identityCheck site b r tones) s (fun t =>
        (t.ring site b r).state = rDeacc)) ∧
      Does (.ringLockTimeout site b r) s (fun t =>
        (t.ring site b r).state = rDeacc ∧
        t.fget F.plnSiteRingsDeacc (siteQuad site) (siteLocal site) =
          (s.fget F.plnSiteRingsDeacc (siteQuad site) (siteLocal site) + 1) % 2 ^ F.plnSiteRingsDeacc.w)) ∧
    (x.state = rLocked → (s.chansInto site b).find? (fun c => s.lineOf b c == x.line) = some k → Does (.lockLoss site b r) s (fun t =>
      t.ring site b r = { x with state := rAcquiring, fails := 0 } ∧ chKey b k ∈ t.pln.dark ∧
      t.fget F.plnErrLockLoss (siteQuad site) = min (2 ^ F.plnErrLockLoss.w - 1) (s.fget F.plnErrLockLoss (siteQuad site) + 1)))

/-- Calibration (R213–R215, R217, R222): a pass with three plausible windows adopts the bias with the best eye figure, unless that
breaks a bound, and renews its line's time; other windows are measured again; a stale working line shows; a live update, at most
one every 100 µs for a ring, takes the value its statistics give within its bounds, one beyond them or with a worse eye is rejected; the heaters take the temperature predicted for their stack; a line is
deaccessioned on all 56 buses of its quadrant. -/
def Obligations.CalibrationAndLines : Prop :=
  ∀ (s : State) (b line site r q c activity : Nat) (base up down h : List Nat) (dither : Int),
    b < 224 → line < 64 → site < 40 → r < 8 → q < 4 → c < 16 →
    let trials := [base, up, down]
    let cal := lineKey b (s.calLineOf b)
    let best := bestTrial trials (s.monitorThreshold b)
    let new := s.pln.bias.get 0 cal + best.1
    let y := s.pln.corr.get {} (ringKey site b r)
    let last := s.pln.liveAt.get 0 (ringKey site b r)
    let v (n : Nat) := liveValue n y.threshold.toNat h dither
    let eye (n : Nat) := liveEye n y.threshold.toNat h
    (s.trialsOk b trials = true → best.1 ∈ trialSteps ∧ ∀ h ∈ trials, eyeFigure h (s.monitorThreshold b) ≤ best.2) ∧
    (s.trialsOk b trials = false → Does (.calibrationPass b (s.calLineOf b) base up down) s (fun t => t = s.toDevice)) ∧
    (s.lineDead b (s.calLineOf b) = false → s.trialsOk b trials = true →
      Does (.calibrationPass b (s.calLineOf b) base up down) s (fun t =>
        t.pln.passAt.get 0 cal = s.now ∧ cal ∈ t.pln.passed ∧ cal ∉ t.pln.stale ∧
        (new.natAbs ≤ 25 → s.pln.eye.get 0 cal ≤ best.2 → t.pln.bias.get 0 cal = new ∧ t.pln.eye.get 0 cal = best.2) ∧
        ((25 < new.natAbs ∨ best.2 < s.pln.eye.get 0 cal) → t.pln.bias = s.pln.bias ∧ t.pln.eye = s.pln.eye ∧
          t.fget F.plnErrPlausReject (busQuad b) =
            min (2 ^ F.plnErrPlausReject.w - 1) (s.fget F.plnErrPlausReject (busQuad b) + 1)))) ∧
    (line ∈ s.workLines b → Does (.calStale b line) s (fun t =>
      lineKey b line ∈ t.pln.stale ∧ t.flag F.plnBusCalStale (busQuad b) (busLocal b) = true)) ∧
    (hasRing site b r = true →
      (∀ n, n < 4 → last ≠ 0 → s.now + 1 < last + 100000 → Does (.liveUpdate site b r n h dither) s (fun t => t = s.toDevice)) ∧
      ((last = 0 ∨ last + 100000 ≤ s.now + 1) →
        (y.eye ≤ eye 0 → liveOk 0 y.offset (v 0) = true → Does (.liveUpdate site b r 0 h dither) s (fun t =>
          t.pln.corr.get {} (ringKey site b r) = { y with offset := v 0, eye := eye 0 })) ∧
        (y.eye ≤ eye 1 → liveOk 1 y.gain (v 1) = true → Does (.liveUpdate site b r 1 h dither) s (fun t =>
          t.pln.corr.get {} (ringKey site b r) = { y with gain := v 1, eye := eye 1 })) ∧
        (y.eye ≤ eye 2 → liveOk 2 y.threshold (v 2) = true → Does (.liveUpdate site b r 2 h dither) s (fun t =>
          t.pln.corr.get {} (ringKey site b r) = { y with threshold := v 2, eye := eye 2 })) ∧
        (y.eye ≤ eye 3 → liveOk 3 (s.lockOffset site b r) (v 3) = true → Does (.liveUpdate site b r 3 h dither) s (fun t =>
          t.lockOffset site b r = v 3 ∧ t.pln.rings = s.pln.rings)) ∧
        ((liveOk 0 y.offset (v 0) = false ∨ eye 0 < y.eye) → Does (.liveUpdate site b r 0 h dither) s (fun t =>
          t.pln = { s.pln with liveAt := s.pln.liveAt.set 0 (ringKey site b r) (s.now + 1) } ∧
          t.fget F.plnErrPlausReject (siteQuad site) =
            min (2 ^ F.plnErrPlausReject.w - 1) (s.fget F.plnErrPlausReject (siteQuad site) + 1))))) ∧
    (s.thm.fast.any (fun g => g == 16 + c / 4 || (decide (g < 16) && g / 4 == c / 4)) = true → Does (.feedForward c activity) s (fun t =>
      t.die c = { s.die c with heater := some (Config.predictedTemp ((List.range 28).map (fun i =>
        ((s.thm.sensors.get {} (28 * c + i)).gov, (s.thm.sensors.get {} (28 * c + i)).rate))) activity) } ∧
      ∀ d, d ≠ c → t.die d = s.die d)) ∧
    (s.combDead q line = false → Does (.lineDeaccession q line) s (fun t =>
      (∀ i, i < 56 → t.lineDead (busOf q i) line = true) ∧
      t.fget F.plnStatusLinesDeacc q = (s.fget F.plnStatusLinesDeacc q + 1) % 2 ^ F.plnStatusLinesDeacc.w))

/-! ## Frames -/

/-- How an attempt ends at tick k (R163, R169–R173, R420, R431): a stop that governs the device ends the job and is recorded, unless it
is one that a withdrawal raised and the device itself withdraws (log entry 62); a device with a cause of withdrawal leaves the job; a timely hold repeats the frame; with its work ended and no hold of its own it commits, the frame
number rises and every committed length becomes the pending one; without, it idles and holds, and treats the tick that follows as
held. A job that ends is shown with no dynamic traffic waiting on the Plinth. -/
def Obligations.AttemptEnds : Prop :=
  ∀ (s : Device) (k : Nat) (h : HoldRec),
    let stop := s.fr.holds.find? (s.stops k)
    let timely := s.fr.holds.any (fun g => g.target == k && !g.late && !g.stop)
    let own := s.fr.holds.find? (s.governs k)
    let t := s.endAttempt k
    (stop = none → s.fr.withdraw ≠ 0 → s.pln.waiting = [] → t.jobState = jWithdrawn ∧ t.flag F.frmWithdrawValid = true ∧
      t.fget F.frmWithdrawCause = s.fr.withdraw % 16 ∧ t.fget F.frmWithdrawTick = k % 2 ^ 48 ∧ t.fr.withdraw = 0 ∧ t.fr.holds = [] ∧
      t.fab.bypassOpen = []) ∧
    (stop = some h → s.pln.waiting = [] → t.jobState = jStopped ∧ t.flag F.frmFaultValid = true ∧
      t.fget F.frmFaultCause = h.reason % 16 ∧ t.fget F.frmFaultDevice = h.raiser % 1024 ∧ t.fr.holds = [] ∧ t.frame = s.frame) ∧
    (s.fr.withdraw = 0 → stop = none → timely = true → t.frame = s.frame ∧ t.jobState = s.jobState ∧
      t.fget F.frmHoldConsec = min 15 (s.fget F.frmHoldConsec + 1) ∧ t.fr.held = true ∧ t.fr.provisional = false ∧ t.fr.idle = false ∧
      (s.lastHold k = some h → t.fget F.frmHoldLastReason = h.reason % 16 ∧ t.fget F.frmHoldLastRaiser = h.raiser % 1024 ∧
        t.flag F.frmHoldLastLate = h.late)) ∧
    (s.fr.withdraw = 0 → stop = none → timely = false → s.fr.replay = true → t.frame = s.frame ∧ t.fr.held = true ∧
      t.fget F.frmHoldConsec = min 15 (s.fget F.frmHoldConsec + 1) ∧ t.fr.provisional = false ∧ t.fr.idle = false ∧
      t.fr.replay = false) ∧
    (s.fr.withdraw = 0 → stop = none → timely = false → s.fr.replay = false → own = none → (s.fr.eowMet = true ∨ s.resyncing = true) →
      t.frame = (s.frame + 1) % 2 ^ 64 ∧ t.fr.provisional = true ∧ t.fr.held = false ∧ t.jobState = s.jobState ∧
      (NMap.wf 0 s.regs → ∀ n, n < 2048 → t.fget F.frmLenCommitLength 0 n = s.fget F.frmLenPendLength 0 n) ∧
      (∀ c i n, c < 16 → i < 272 → (t.thread c i n).st = .idle) ∧ t.mem.cc = []) ∧
    (s.fr.withdraw = 0 → stop = none → timely = false → s.fr.replay = false → (own ≠ none ∨ (s.fr.eowMet = false ∧ s.resyncing = false)) →
      t.frame = s.frame ∧ t.fr.held = true ∧ t.fr.idle = true ∧ t.fr.replay = true ∧ t.fr.provisional = false ∧
      t.fget F.frmHoldConsec = min 15 (s.fget F.frmHoldConsec + 1))

/-- TICK (R142–R145, R162, R163, R443): a running job passes its deadline if it has not, its attempt ends, the tick counts up, and unless that ended the job a new attempt begins,
with its settle interval, at phase 0 of the program of its frame; without a running job only the tick counts up, but for a device
that enters the job. A partner out of lockstep begins to copy, up to three restarts; a lease holder's journal only loses its oldest
records; any other device keeps its state. -/
def Obligations.TickBeginsAttempt : Prop :=
  (∀ s : State,
    let u := (if s.running then s.toDevice.deadlineNow.endAttempt s.nextTick else s.toDevice.copyArith).atTick s.nextTick s.running
      s.pwr.toSustained
    u.fr.tick = s.nextTick ∧ u.fr.tickAt = s.now ∧ u.fr.past = false ∧ (s.fr.rejoin = false → s.nextTick = s.fr.tick + 1) ∧
    Does .tick s (fun t => t =
      if u.running then (u.repairTiles !s.fr.idle).lease.resync.startAttempt else if u.fr.rejoin then u.enterJob.startAttempt else u)) ∧
  (∀ s : Device, ∃ v : Device,
    s.startAttempt = (if v.fr.idle then v.freeTraffic else v.startThreads).retryAll.noteEow ∧
    v.fr.idle = (s.fr.idle || s.resyncing || !s.fr.work.isEmpty) ∧ v.fr.settle = true ∧ v.fr.eowMet = false ∧ v.fr.missed = false ∧
    v.fr.firstPend = [] ∧ v.fr.tick = s.fr.tick ∧ v.phase = 0 ∧ v.frame = s.frame ∧
    v.program = s.frame % max 1 s.job.programs % 16) ∧
  (∀ s : Device,
    (s.resyncing = false → (s.fget F.frmMirrorRole = 1 → s.copying = false) → s.resync = s) ∧
    (s.resyncing = true → s.fget F.frmMirrorSync = syUnsynced →
      s.resync.fget F.frmMirrorSync = (if s.fget F.frmResyncRestarts < 3 then syCopying else syUnsynced)) ∧
    (s.fget F.frmMirrorRole = 1 → s.copying = true → ∃ j, s.resync.fr.journal = s.fr.journal.drop j))

/-- DEADLINE, JOB_START, PHASE_BOUNDARY, RETUNE_GUARD_END, BEACON_DUE, REGULATOR_WARNING (R142–R144, R162, R177, R206, R220, R438, R440): end of
work that is not met by the deadline is a miss; an accepted start becomes tick 0 of a running job on a device whose tick is LOCKED; a phase boundary begins the next
phase with its grants; where a receiver of a moved channel has seen 16 wrong blocks at the end of the guard, its ring acquires again and
the channel is dark; a standby whose holder's beacon has not come sends its own and holds; a load-step warning raises the
setpoint for 20 µs. -/
def Obligations.PointsOfFrame : Prop :=
  ∀ s : State,
    (s.running = true → s.fr.past = false →
      (s.fr.eowMet = true ∨ s.fr.idle = true → Does .deadline s (fun t =>
        t.fr = { s.fr with past := true } ∧ t.fget F.frmStateStep = (if s.fget F.frmStateStep = 3 then 3 else 1) ∧
        t.fget F.frmTimingMisses = s.fget F.frmTimingMisses)) ∧
      (s.fr.eowMet = false → s.fr.idle = false → s.workEnded = false → s.fget F.frmStateStep ≠ 3 → Does .deadline s (fun t =>
        t.fr.past = true ∧ t.fr.missed = true ∧ t.fget F.frmStateStep = 1 ∧ t.fget F.frmTimingEowLast = 0xFFFF ∧
        t.fget F.frmTimingMisses = min 0xFFFF (s.fget F.frmTimingMisses + 1)))) ∧
    (s.jobState = jReady → s.fr.startAt.isSome = true → s.fget F.prtTickState = tkLocked →
      (∀ h, s.fr.holds.find? (fun g => g.target == 0 && g.stop) = some h → s.pln.waiting = [] → Does .jobStart s (fun t =>
        t.jobState = jStopped ∧ t.fget F.frmFaultCause = h.reason % 16 ∧ t.flag F.frmFaultValid = true)) ∧
      (s.fr.holds.find? (fun g => g.target == 0 && g.stop) = none →
        ∃ u : Device, u.jobState = jRunning ∧ u.fr.tick = 0 ∧ u.fr.tickAt = s.now ∧ u.fr.jobTime = 0 ∧ u.fr.startAt = none ∧
          (s.job.mirrorPartner ≠ 0xFFFF → u.fget F.frmMirrorSync = sySynced ∧
            u.fget F.frmMirrorRole = if u.self < s.job.mirrorPartner then 1 else 2) ∧
          Does .jobStart s (fun t => t = if u.startAttempt.flag F.prtStatusMaster then
            u.startAttempt.sendTree (u.startAttempt.tickPkt 0) none else u.startAttempt))) ∧
    (s.running = true → s.phase + 1 < s.fget F.frmConfigPhases → Does .phaseBoundary s (fun t =>
      t.phase = (s.phase + 1) % 16 ∧ t.pln.grants = (if s.fr.idle then [] else s.pln.nextGrants) ∧ t.pln.nextGrants = [] ∧
      t.pln.fetched = [] ∧ t.pln.dark = [] ∧ t.frame = s.frame)) ∧
    (s.running = true → (∀ key ∈ s.pln.moved, ∀ i, i < 40 → s.pln.wrongRun.get 0 (rxKey i (key / 64) (key % 64)) < 16) →
      Does .retuneGuardEnd s (fun t => t = { s.toDevice with pln := { s.pln with guard := false } })) ∧
    (∀ i b k r, s.running = true → s.pln.moved = [chKey b k] → i < 40 → k < 64 → k ∈ s.chansInto i b →
      16 ≤ s.pln.wrongRun.get 0 (rxKey i b k) → s.pln.flight.get [] (chKey b k) = [] →
      (List.range 8).find? (fun r => (s.ring i b r).line == s.lineOf b k && (s.ring i b r).state == rLocked) = some r →
      (∀ j, j < 40 → j ≠ i → k ∉ s.chansInto j b) → Does .retuneGuardEnd s (fun t =>
        t.ring i b r = { state := rAcquiring, line := s.lineOf b k } ∧ chKey b k ∈ t.pln.dark ∧ t.pln.guard = false)) ∧
    (s.running = true → s.fget F.frmMirrorRole = 2 → s.fr.beaconHolder = false → Does .beaconDue s (fun t =>
      (∃ p, Out.toGateway p ∈ t.out ∧ p.typ = tLease ∧ p.dst = s.fget F.frmMirrorPartner) ∧
      (s.synced = true → s.fr.withdraw = 0 → s.fget F.frmHoldConsec < s.fget F.frmHoldLimit →
        ∃ h ∈ t.fr.holds, h.target = s.fr.tick + 1 ∧ h.reason = hFabric ∧ h.stop = false))) ∧
    Does .regulatorWarning s (fun t => t = { s.toDevice with pwr := { s.pwr with raisedUntil := s.now + 20000 } })

/-- Every step keeps what a provisional commit saves within the committed lengths (R163), so that rescinding it restores nothing
else. -/
def Obligations.StepKeepsSavedLengths : Prop :=
  ∀ s t : State, s.lensSaved → step s = .next t → t.lensSaved

/-- CONFIRM_POINT (R164, R165, R171, R173): without a hold for its tick the commit becomes final; a hold rescinds it, the frame number
returns and the device idles; a stop ends the job. -/
def Obligations.ConfirmPoint : Prop :=
  ∀ s : State, s.running = true → s.fr.settle = true →
    (s.fr.provisional = true → s.fr.holds.find? (fun h => h.target == s.fr.tick) = none →
      ∃ u : Device, u.fget F.frmCommittedCount = s.frame ∧ u.fget F.frmHoldConsec = 0 ∧ u.fr.provisional = false ∧ u.fr.settle = false ∧
        u.fget F.frmStateStep = 0 ∧ u.frame = s.frame ∧ (s.fget F.frmMirrorRole ≠ 1 → u.fr.journal = s.fr.journal) ∧
        Does .confirmPoint s (fun t => t = u.releaseOutward.confirmBeacon)) ∧
    (∀ h, s.lensSaved → s.fr.provisional = true → s.fr.holds.find? (fun g => g.target == s.fr.tick && g.stop) = none →
      s.fr.holds.find? (fun g => g.target == s.fr.tick) = some h → Does .confirmPoint s (fun t =>
        t.frame = (s.frame + 2 ^ 64 - 1) % 2 ^ 64 ∧ t.fr.provisional = false ∧ t.fr.held = true ∧ t.fr.idle = true ∧
        t.fr.settle = false ∧ t.fget F.frmHoldConsec = min 15 (s.fget F.frmHoldConsec + 1) ∧
        t.fget F.frmCommittedCount = s.fget F.frmCommittedCount)) ∧
    (∀ h, s.fr.holds.find? (fun g => g.target == s.fr.tick && g.stop) = some h → s.pln.waiting = [] → Does .confirmPoint s (fun t =>
        t.jobState = jStopped ∧ t.flag F.frmFaultValid = true ∧ t.fget F.frmFaultCause = h.reason % 16 ∧
        t.fget F.frmFaultDevice = h.raiser % 1024 ∧ t.fr.settle = false))

/-! ## Power and temperature -/

/-- Power (R372–R383, R424): a sample enters its windows, the hundredth ends the millisecond's average, a mean of ten samples 20 % over
the limit brakes the stacks; the budget's shares are those of the three classes, from the draws that the energy model counts, and hand out exactly what is there; an ordered
return to the sustained limit is done at a tick; a second phase failure of a rail derates it. -/
def Obligations.PowerManagement : Prop :=
  (∀ (s : State) (w : Nat),
    let l := (s.pwr.last10 ++ [w]).drop (s.pwr.last10.length + 1 - 10)
    let blk := s.pwr.block ++ [w]
    (blk.length ≠ 100 → Does (.powerSample w) s (fun t =>
      t.pwr.block = blk ∧ t.pwr.last10 = l ∧ t.pwr.excursion = s.pwr.excursion ∧
      (l.length = 10 → 12 * s.limit ≤ l.sum → t.pwr.brake = true ∧
        ∀ c, s.fget F.glbSiteStatus 0 c = siInService → 12 ≤ t.skipOf c) ∧
      (¬ (l.length = 10 ∧ 12 * s.limit ≤ l.sum) → t.pwr.brake = s.pwr.brake))) ∧
    (blk.length = 100 → Does (.powerSample w) s (fun t =>
      t.pwr.block = [] ∧ t.pwr.last10 = l ∧ t.fget F.pwrStatusP1ms = blk.sum / 100 % 2 ^ 12 ∧
      t.pwr.excursion = if 100 * s.limit < blk.sum then s.pwr.excursion + 1 else 0))) ∧
  (∀ s : State,
    let x := s.draws
    let avail : Int := (s.inputBudgetW * s.coef 11 / 1000 : Nat) - (x.fixedW : Int) - (x.fM + x.fC + x.fL : Nat)
    let r := extras x s.powerOrder avail
    Does (.inputBudget ()) s (fun t =>
      t.fget F.pwrShareBudget = s.inputBudgetW % 2 ^ 11 ∧ t.fget F.pwrShareCompute = shareOf x r.1 1 % 2 ^ 11 ∧
      t.fget F.pwrShareMemory = shareOf x r.1 0 % 2 ^ 11 ∧ t.fget F.pwrShareLinks = shareOf x r.1 2 % 2 ^ 11 ∧
      t.pwr.floor = decide (r.2 < 0) ∧ t.pwr.dyn = x.stackDyn)) ∧
  (∀ (x : Draws) (ks : List Nat) (avail : Int),
    ((extras x ks avail).1.map Prod.snd).sum + (extras x ks avail).2 = avail ∧
    (0 ≤ avail → (∀ k, k < 3 → floorOf x k ≤ demandOf x k) → 0 ≤ (extras x ks avail).2)) ∧
  (∀ s : Device, s.pwr.assigned = none → s.pwr.derate = none → (s.applyLimit true).limit = s.fget F.pwrLimitSustained ∧
    (s.applyLimit true).pwr.toSustained = false ∧ (s.applyLimit true).pwr.lowered = false) ∧
  (∀ (s : State) (rail w : Nat),
    (s.pwr.phaseLoss.get 0 rail = 0 → Does (.regulatorPhaseFailure rail w) s (fun t =>
      t.pwr.phaseLoss.get 0 rail = 1 ∧ t.pwr.derate = s.pwr.derate)) ∧
    (0 < s.pwr.phaseLoss.get 0 rail → Does (.regulatorPhaseFailure rail w) s (fun t =>
      t.pwr.phaseLoss.get 0 rail = s.pwr.phaseLoss.get 0 rail + 1 ∧ t.pwr.derate = some (min w (s.pwr.derate.getD w)))))

/-- Coordination (R386–R389). POWER_REPORT, POWER_COORDINATION and COORDINATION_TIMEOUT complete in every state: a member of a running
set reports to its coordinator and starts its window afresh; the coordinator writes every member, a raise only
once its giver shows the lowered limit; every pair takes from a giver with more than twice the slack; a member without assignments
returns to its sustained limit at the next tick, a lowered one only after the further wait; what is not in the set changes nothing. -/
def Obligations.PowerCoordination : Prop :=
  (∀ s : State, ∃ t : State, exec .powerReport s = .next t ∧ t.pending = s.pending ∧
    ((s.running = false ∨ s.inSet = false) → t = s) ∧
    (s.running = true → s.inSet = true →
      t.pwr.slackMin = 0xFFFF ∧ t.pwr.throttled = s.throttling ∧ t.pwr.rptSeq = s.pwr.rptSeq + 1 ∧
      (s.coordinating = true → t.rd .pwrRpt 0 s.myPos = s.reportValue % 2 ^ 64) ∧
      (s.coordinating = false → ∃ r ∈ t.reqs, r.kind = .reg ∧ r.op = opReport ∧ r.pkt.typ = tWrite ∧ r.pkt.seng = 132 ∧
        r.pkt.len = 1 ∧ r.pkt.arg = 8 ∧ r.pkt.dst = s.job.powerCoord ∧
        r.pkt.addr = gAddr s.job.powerCoord 3 (RegKind.pwrRpt.addr 0 s.myPos) ∧
        r.pkt.payload = leBytes 16 (s.reportValue % 2 ^ 64)))) ∧
  (∀ s : State, ∃ t : State, exec .powerCoordination s = .next t ∧ t.pending = s.pending ∧
    ((s.running = false ∨ s.coordinating = false) → t = s) ∧
    (s.running = true → s.coordinating = true →
      t.pwr.asgSeq = s.pwr.asgSeq + 1 ∧
      ∀ i m, i < 32 → s.member i = some m → i ≠ s.myPos →
        let l := m.limit + 20 * (s.pwr.raises.filter (fun e => e.1 == i && decide (s.fget F.pwrRptLimit 0 e.2.1 ≤ e.2.2))).length
        ∃ r ∈ t.reqs, r.kind = .reg ∧ r.op = opAssign ∧ r.pkt.typ = tWrite ∧ r.pkt.seng = 132 ∧ r.pkt.dst = m.no ∧
          ∃ v, (v = l ∨ v = l - 20) ∧
            r.pkt.payload = leBytes 16 ((v + (s.pwr.asgSeq + 1) % 2 ^ 16 * 2 ^ 16) % 2 ^ 64))) ∧
  (∀ (p : List Member) (fuel i j n : Nat), (pairMembers p fuel i j n).length ≤ 8 - n ∧
    ∀ e ∈ pairMembers p fuel i j n, 2 * e.1.slack < e.2.slack ∧ e.1.throttled = false ∧ e.1.limit + 20 ≤ e.1.ceiling ∧
      920 ≤ e.2.limit) ∧
  (∀ (s : State) (further : Bool), ∃ t : State, exec (.coordinationTimeout further) s = .next t ∧ t.pending = s.pending ∧
    let coord := s.flag F.pwrLimitCoord
    let sustained := s.fget F.pwrLimitSustained
    (further = false → coord = false → t = s) ∧
    (further = true → (coord = true ∨ s.pwr.lowered = false) → t = s) ∧
    (further = false → coord = true → t.flag F.pwrLimitCoord = false ∧
      (s.limit < sustained → t.pwr.lowered = true ∧ t.limit = s.limit) ∧
      (sustained ≤ s.limit → t.pwr.toSustained = true ∧ t.limit = s.limit)) ∧
    (further = true → coord = false → s.pwr.lowered = true → t.pwr.toSustained = true ∧ t.limit = s.limit))

/-- Sensors (R391–R397): a valid reading of a sensor that no estimate judges becomes its value and its governing value, and calls
for fast sampling near its threshold; a second sample at the shutdown threshold turns the device off and latches the sensor; a
third invalid reading in a row fails the sensor; fast sampling ends when no sensor of the group calls for it. -/
def Obligations.SensorSamples : Prop :=
  (∀ (s : State) (g : Group) (r : Reading), g.ok = true → r.sensor ∈ groupSensors g → isSramSensor r.sensor = false →
    (s.sensor r.sensor).state ≠ 2 → (s.sensor r.sensor).valid s.now r.temp = true →
    ((∀ n ∈ groupSensors g, (s.sensor n).hotRun = 0) → Does (.sensorSample g [r]) s (fun t =>
      (t.sensor r.sensor).temp = r.temp ∧ t.gov r.sensor = r.temp ∧ (t.sensor r.sensor).state = (s.sensor r.sensor).state ∧
      (t.sensor r.sensor).validAt = s.now ∧ (t.sensor r.sensor).bad = 0 ∧
      (softOf r.sensor - 40 ≤ r.temp → groupKey g ∈ t.thm.fast))) ∧
    (1 ≤ (s.sensor r.sensor).hotRun → shutOf r.sensor ≤ r.temp → Does (.sensorSample g [r]) s (fun t =>
      t.boot.shutdown.isSome = true ∧ t.boot.pwrgd = false ∧ t.tiles = [] ∧ t.mem.bytes = [] ∧ t.flag F.glbStatusAlert = true ∧
      t.boot.cause = some (s.boot.cause.getD rcThermal)))) ∧
  (∀ (x : Sensor) (now : Nat) (v : Int), x.state ≠ 2 → x.valid now v = false →
    (x.take now v).temp = x.temp ∧ (x.take now v).bad = x.bad + 1 ∧ ((x.take now v).state = 2 ↔ x.bad = 2)) ∧
  (∀ (s : State) (g : Group), g.ok = true → (groupSensors g).any s.callsFast = false → Does (.fastSamplingEnd g) s (fun t =>
    groupKey g ∉ t.thm.fast ∧ t.thm.sensors = s.thm.sensors))

/-! ## Memory -/

/-- HBM4 controllers (R246, R247, R249–R251, R253, R261–R265): a read joins a queued read of its line or queues; a write with good
parity stores its enabled bytes, waits behind earlier accesses to its line or for tokens, one with bad parity stores nothing and
counts; a response leaves after 16 cycles, to its requester and those joined reads that came 16 cycles ago, with its error recorded; an unreadable
line is acted on by its region's kind; a command that expires twice, or lost training, is a hard loss; a temperature sets the band. -/
def Obligations.MemoryControllers : Prop :=
  ∀ (s : State) (m h line : Nat), m < 20 → h < 32 → line < 2 ^ 25 →
    let ch := chanNo m h
    let l := chanLine m h line
    (∀ site bus id, site < 40 →
      (joinsAt s.now line (s.mem.waiting.get [] ch) = none → Does (.controllerRead m h line site id bus) s (fun t =>
        t.mem.waiting.get [] ch =
          ctlInsert { line := line, site := site, bus := bus, id := id, came := s.now } (s.mem.waiting.get [] ch) ∧
        t.regs = s.regs ∧ t.mem.bytes = s.mem.bytes)) ∧
      (∀ i, joinsAt s.now line (s.mem.waiting.get [] ch) = some i → Does (.controllerRead m h line site id bus) s (fun t =>
        t.mem.waiting.get [] ch =
          modAt (fun q => { q with joined := q.joined ++ [(site, id, s.now)] }) (s.mem.waiting.get [] ch) i ∧
        t.fget F.memStatsMerged m = (s.fget F.memStatsMerged m + 1) % 2 ^ 48 ∧ t.mem.bytes = s.mem.bytes))) ∧
    (∀ (site bus : Nat) (data : Line) (parity en : Word), site < 40 →
      let behind := (s.mem.waiting.get [] ch).any (fun q => q.line == line)
      let kept : CtlReq := { line := line, site := site, bus := bus, came := s.now, write := some (data, en) }
      let shut := (s.mem.shutJoins l).waiting.get [] ch
      (parity = parityOf data → behind = false → (s.access l).isSome = true → s.mem.lost l = false →
        Does (.controllerWrite m h line data parity en site bus) s (fun t =>
          (∀ i, i < 64 → bit en.toNat i = true →
            t.mem.bytes.get 0 (64 * l + i) = (bytesOfLine data).getD i 0) ∧
          (∀ a, (∀ i, i < 64 → bit en.toNat i = true → a ≠ 64 * l + i ∧
              (s.mem.migrating.get 0 ch ≠ 0 → a ≠ 64 * lineInChan l (s.mem.migrating.get 0 ch - 1) + i)) →
            t.mem.bytes.get 0 a = s.mem.bytes.get 0 a))) ∧
      (parity ≠ parityOf data → Does (.controllerWrite m h line data parity en site bus) s (fun t =>
        t.mem = s.mem ∧ t.fget F.memErrWparity m = min 0xFFFF (s.fget F.memErrWparity m + 1))) ∧
      (parity = parityOf data → behind = true → Does (.controllerWrite m h line data parity en site bus) s (fun t =>
        t.mem.bytes = s.mem.bytes ∧ t.mem.waiting.get [] ch = ctlInsert kept shut ∧
        ∀ q ∈ shut, q.line = line → q.shut = true)) ∧
      (parity = parityOf data → behind = false → s.access l = none →
        Does (.controllerWrite m h line data parity en site bus) s (fun t =>
          t.mem.bytes = s.mem.bytes ∧ t.mem.waiting.get [] ch = shut ++ [kept]))) ∧
    (∀ err i q, (s.mem.waiting.get [] ch).findIdx? (fun q => q.line == line) = some i → (s.mem.waiting.get [] ch)[i]? = some q →
      q.write = none →
      let leave (failed : Bool) : List (Nat × Nat × Nat) :=
        (q.site, q.id, q.came) :: q.joined.filter (fun r => !failed && decide (r.2.2 + 16 ≤ s.now))
      (s.now < q.came + 16 → Does (.readResponseLeave m h line err) s (fun t => t = s.toDevice)) ∧
      (∀ d, q.mark = none → q.got = some d → q.came + 16 ≤ s.now → (∀ e ∈ s.mem.waiting.get [] ch, e.write = none) →
        Does (.readResponseLeave m h line err) s (fun t =>
          t.regs = s.regs ∧ t.out = s.out ++ (leave (s.mem.failing.contains l)).map (fun r => Out.line r.1 r.2.1 d.1 d.2))) ∧
      (q.mark = none → q.got = none → q.came + 16 ≤ s.now → s.readHeld ((s.globalAt l).getD 0) (64 * l) = false → (s.access l).isSome = true →
        (∀ e ∈ s.mem.waiting.get [] ch, e.write = none) → Does (.readResponseLeave m h line err) s (fun t =>
          let failed := t.mem.failing.contains l
          t.mem.bytes = s.mem.bytes ∧
          (∃ d p, t.out = s.out ++ (leave failed).map (fun r => Out.line r.1 r.2.1 d p) ∧
            t.mem.waiting.get [] ch = (s.mem.waiting.get [] ch).take i ++ q.rest s.now failed (d, p) ++ (s.mem.waiting.get [] ch).drop (i + 1) ∧
            (err < 2 → s.mem.unreadable l = false → s.inPoison ((s.globalAt l).getD (gAddr s.self 3 0)) 64 = false →
              s.lineFlip l = false → d = s.mem.lineAt l ∧ p = parityOf d) ∧
            (2 ≤ err → s.mem.lost l = false → s.inPoison ((s.globalAt l).getD (gAddr s.self 3 0)) 64 = false →
              p = poisonedParity d)) ∧
          (err = 1 → t.fget F.memChanCorr m h = min (2 ^ 24 - 1) (s.fget F.memChanCorr m h + 1)) ∧
          (2 ≤ err → s.mem.lost l = false → s.inPoison ((s.globalAt l).getD (gAddr s.self 3 0)) 64 = false →
            l ∈ t.mem.bad ∧ rowKey m h (rowOf line) ∈ t.mem.rowsDue ∧ t.flag F.memErrAddrValid m = true ∧
            t.fget F.memErrAddrLine m = line)))) ∧
    (∀ a r, (l ∈ s.mem.bad ∨ l ∈ s.mem.flipped) → s.globalOf m h (64 * line) = some a → s.regionAt a 64 = some r →
      (r.kind = rgReadOnly → gSpace r.base ≠ 2 → Does (.unreadableLineReport m h line) s (fun t =>
        a / 4096 ∈ t.mem.heldPages ∧ t.mem.bytes = s.mem.bytes)) ∧
      (r.kind = rgBanked → r.bank a = s.frame % 2 → s.running = true → s.fr.withdraw = 0 → s.coreless = false →
        Does (.unreadableLineReport m h line) s (fun t => t.fr.withdraw = wStateLost ∧ t.mem.bytes = s.mem.bytes)) ∧
      (r.kind = rgAppend → r.slotOff a < s.fget F.frmLenCommitLength 0 (r.slot a) → r.slot a < 2048 →
        s.slotStack (r.slot a) < 20 → Does (.unreadableLineReport m h line) s (fun t =>
          bit (t.fget F.memPoisonSlot (s.slotStack (r.slot a)) (r.slot a / 64)) (r.slot a % 64) = true ∧
          t.mem.bytes = s.mem.bytes)) ∧
      (r.kind = rgScratch → s.mem.lost l = false → Does (.unreadableLineReport m h line) s (fun t =>
        t.mem.lineAt l = 0 ∧ l ∉ t.mem.bad))) ∧
    (∀ cmd, cmd < 65536 →
      (65536 * ch + cmd ∉ s.mem.reissued → Does (.hbmCommandTimeout m h cmd) s (fun t =>
        65536 * ch + cmd ∈ t.mem.reissued ∧ t.fget F.memErrTimeout m = min 0xFFFF (s.fget F.memErrTimeout m + 1) ∧
        t.mem.lostChans = s.mem.lostChans)) ∧
      (65536 * ch + cmd ∈ s.mem.reissued → Does (.hbmCommandTimeout m h cmd) s (fun t =>
        ch ∈ t.mem.lostChans ∧ (s.running = true → s.fr.withdraw = 0 → s.coreless = false →
          s.fget F.frmHoldConsec < s.fget F.frmHoldLimit → t.fr.withdraw = wHbmHard)))) ∧
    (∀ temp : Int, Does (.hbmTemperatureRead m temp) s (fun t =>
      t.fget F.memTempTemp m = unsigned 8 temp ∧ t.fget F.memStatusBand m = nextBand (s.fget F.memStatusBand m) temp ∧
      (105 ≤ temp → s.fget F.memStatusBand m ≠ 3 → s.running = true → s.fr.withdraw = 0 → s.coreless = false →
        t.fr.withdraw = wMemoryCritical))) ∧
    (∀ k temp, k < 8 → Does (.hbmTemperatureRead (20 + k) temp) s (fun t =>
      t.fget F.prtDdrStatusTemp (k / 2) (k % 2) = unsigned 8 temp ∧ t.mem = s.mem)) ∧
    (Does (.channelTrainingLoss m (some h)) s (fun t => ch ∈ t.mem.lostChans ∧ t.mem.bytes = s.mem.bytes ∧
      (s.running = true → s.coreless = false → t.fr.withdraw ≠ 0))) ∧
    Does (.channelTrainingLoss m none) s (fun t => t.fget F.memStatusState m = 3 ∧ (∀ k, k < 32 → chanNo m k ∈ t.mem.lostChans) ∧
      (s.running = true → s.coreless = false → t.fr.withdraw ≠ 0))

/-- Repair and loss of memory (R242, R250, R252, R253, R259, R263): a held weight page is rewritten from its canonical copy and served
again; a soft repair spends one of its channel; a migration takes the lowest spare, copies the channel, and writes the inactive half
of the table for the switch; a lost DDR5 tier ends the device's part in the job. -/
def Obligations.MemoryRepair : Prop :=
  ∀ s : State,
    (∀ page bs, page ∈ s.mem.heldPages → s.canonicalPage page = some bs → bs.length = 4096 → s.mem.lostChans = [] →
      s.mem.ddrLost = false → s.mem.migrating = [] →
        let t := s.toDevice.repairPage page
        Does (.pageRepair page) s (fun u => u = t.serveHeld) ∧
        (∀ p, p ∈ t.mem.heldPages ↔ p ∈ s.mem.heldPages ∧ p ≠ page) ∧
        (∀ l a, s.globalAt l = some a → a / 4096 = page → l ∈ s.mem.failing → l ∉ t.mem.failing ∧
          (l < 2 ^ 36 → rowKey (lineChan l / 32) (lineChan l % 32) (rowOf (l % 2 ^ 25)) ∉ t.mem.rowsDue)) ∧
        (∀ i d key, i < 16 → t.locate (4096 * page + 256 * i) = some (d, key) →
          (∀ j e k, i < j → j < 16 → t.locate (4096 * page + 256 * j) = some (e, k) → k ≠ key) →
          readBytes t.mem.bytes key 256 = (bs.drop (256 * i)).take 256) ∧
        (∀ a, (∀ i d key, i < 16 → t.locate (4096 * page + 256 * i) = some (d, key) → ¬ (key ≤ a ∧ a < key + 256)) →
          t.mem.bytes.get 0 a = s.mem.bytes.get 0 a)) ∧
    (∀ m h row, m < 20 → h < 32 → row < 2 ^ 21 → rowKey m h row ∈ s.mem.rowsDue → Does (.softRepair m h row) s (fun t =>
      rowKey m h row ∉ t.mem.rowsDue ∧ rowKey m h row ∈ t.mem.softRows ∧ t.mem.rowCorr = s.mem.rowCorr ∧
      t.fget F.memChanPprLeft m h = s.fget F.memChanPprLeft m h - 1 ∧ t.mem.bytes = s.mem.bytes ∧
      (s.fget F.memChanPprLeft m h = 1 → s.fget F.memChanState m h = chInService →
        t.fget F.memChanState m h = chDegraded))) ∧
    (∀ m h, m < 20 → h < 32 → s.fget F.memChanState m h = chDegraded → s.mem.migrating.get 0 (chanNo m h) = 0 →
      ((List.range 32).find? (fun i => s.fget F.memChanState m i == chSpare) = none →
        Does (.migration m h) s (fun t => t = s.toDevice)) ∧
      (∀ sp, (List.range 32).find? (fun i => s.fget F.memChanState m i == chSpare) = some sp →
        Does (.migration m h) s (fun t =>
          t.fget F.memChanState m sp = chMigrating ∧ t.flag F.memStatusMigrating m = true ∧
          t.fget F.memStatusSpares m = s.fget F.memStatusSpares m - 1 ∧
          t.mem.migrating.get 0 (chanNo m h) = chanNo m sp + 1 ∧ t.mem.bytes = s.mem.bytes))) ∧
    (∀ m old v, m < 20 → s.mem.wf →
      s.mem.migrating.find? (fun e => e.1 / 32 == m && !s.mem.switching.contains e.1 && !s.mem.switched.contains e.1) = some (old, v) →
      Does (.migrationCopyComplete m) s (fun t =>
        (∀ a, a < 1491615488 →
          t.mem.bytes.get 0 ((v - 1) * 2 ^ 31 + a) = s.mem.bytes.get 0 (old * 2 ^ 31 + a)) ∧
        (∀ a, ¬ ((v - 1) * 2 ^ 31 ≤ a ∧ a < (v - 1) * 2 ^ 31 + 1491615488) →
          t.mem.bytes.get 0 a = s.mem.bytes.get 0 a) ∧
        old ∈ t.mem.switching ∧ t.flag F.memCmtCtlPending 0 = true ∧
        ∀ j, j < s.nAll → t.rd .memCmt 0 (2048 * (1 - s.fget F.memCmtCtlHalf 0) + j) =
          let half := s.fget F.memCmtCtlHalf 0
          let e := s.rd .memCmt 0 (2048 * (if s.flag F.memCmtCtlPending 0 then 1 - half else half) + j)
          if s.cmtStack j = old / 32 ∧ s.cmtChan j = old % 32 then setBits e 0 5 ((v - 1) % 32) else e)) ∧
    Does (.patrolScrub []) s (fun t => t = { s.toDevice with mem := { s.mem with scrubs := s.mem.scrubs + 1 } }) ∧
    (∀ k line devices bits, k < 8 → line < 2 ^ 32 → 1 ≤ devices → 1 ≤ bits →
      Does (.patrolScrub [(k, line, devices, bits)]) s (fun t =>
        t.mem.bytes = s.mem.bytes ∧ t.mem.scrubs = s.mem.scrubs + 1 ∧
        (s.ddrCorrectable k devices bits = true →
          t.fget F.prtDdrErrCorr (k / 2) (k % 2) = min (2 ^ 24 - 1) (s.fget F.prtDdrErrCorr (k / 2) (k % 2) + 1)) ∧
        (s.ddrCorrectable k devices bits = false → dimmKey k (64 * line) / 64 ∈ t.mem.bad ∧
          t.flag F.prtDdrErrAddrValid (k / 2) (k % 2) = true ∧ t.fget F.prtDdrErrAddrLine (k / 2) (k % 2) = line))) ∧
    (∀ dimm, dimm < 8 → Does (.ddrHardLoss dimm) s (fun t =>
      t.fget F.prtDdrStatusState (dimm / 2) (dimm % 2) = 4 ∧ t.mem.ddrLost = true ∧
      (s.running = true → s.coreless = false → t.fr.withdraw ≠ 0) ∧ t.mem.bytes = s.mem.bytes))

/-! ## Packets -/

/-- Packets on a device lane (R286, R291, R293–R296, R298): one that fails a check is counted and recorded at its port die and has no
other effect on memory or tiles; one for another device goes on, one hop older, to the least queued eligible lane, which takes it up at
once if it is idle, else queues it, or it waits; an MCAST_WRITE for others is queued once on each distinct lane, with the bits routed
there; of what a lane holds, it sends a priority packet first, and nothing without credit of its virtual channel. -/
def Obligations.PacketsOnLanes : Prop :=
  (∀ (s : State) (z : Nat) (p : Pkt), z < 64 → p.ok = true → ∀ e ∈ packetRows, (p.typ = e.1 ∨ p.typ = 0 ∨ p.typ = 15) →
    let code := s.headerFault (s.laneRole z == rHost) p
    (code ≠ 0 → Does (e.2 (.lane z) p) s (fun t =>
      t.fget F.prtZfBadCode (z / 16) = code ∧ t.flag F.prtZfBadValid (z / 16) = true ∧ t.fget F.prtZfBadType (z / 16) = p.typ ∧
      t.fget F.prtZfBadLane (z / 16) = z ∧
      t.fget (zfField code) (z / 16) = min (2 ^ (zfField code).w - 1) (s.fget (zfField code) (z / 16) + 1) ∧
      t.mem = s.mem ∧ t.tiles = s.tiles ∧ t.ports = s.ports)) ∧
    (code = 0 → s.laneRole z ≠ rHost → s.flag F.tstCtlActive = false →
      (p.typ ≠ tTick → p.typ ≠ tHold → p.typ ≠ tMcast → (s.routeEntry p.epoch p.dst).isLocal = false →
        s.forPartner p.dst = false →
        (∀ y, s.pickLane (s.routeEntry p.epoch p.dst).lanes = some y → Does (e.2 (.lane z) p) s (fun t =>
          t.fab.laneQ.get 0 y = s.fab.laneQ.get 0 y + pktBytes p ∧ t.fab.held = s.fab.held ∧ t.mem = s.mem ∧ t.tiles = s.tiles ∧
          (s.takesUp y p = true → t.out = s.out ++ [.packet y (s.onLane y (hopped p))] ∧ t.fab.txq.get [] y = []) ∧
          (s.laneState y ≠ lUp ∨ s.fab.sending.get 0 y ≠ 0 →
            t.out = s.out ∧ t.fab.txq.get [] y = s.fab.txq.get [] y ++ [s.onLane y (hopped p)]))) ∧
        (s.pickLane (s.routeEntry p.epoch p.dst).lanes = none → Does (e.2 (.lane z) p) s (fun t =>
          t.out = s.out ∧ t.fab.held = s.fab.held ++ [hopped p] ∧ t.mem = s.mem ∧ t.tiles = s.tiles))) ∧
      (p.typ = tMcast → s.ownBits p = [] → s.partnerBits p = [] →
        let named := (List.range 32).filter (bit p.mask)
        let q := hopped (maskedPkt p named)
        let lanes := (named.filterMap (s.mcastLane p)).eraseDups
        let copy (y : Nat) : Pkt := s.onLane y (maskedPkt q (named.filter (fun i => s.mcastLane p i == some y)))
        Does (e.2 (.lane z) p) s (fun t =>
          (∀ y ∈ lanes, t.fab.laneQ.get 0 y = s.fab.laneQ.get 0 y + pktBytes p) ∧
          ((∀ y ∈ lanes, s.takesUp y p = true) → t.out = s.out ++ lanes.map (fun y => .packet y (copy y))) ∧
          ((∀ i ∈ named, (s.mcastLane p i).isSome = true) → t.fab.held = s.fab.held) ∧
          t.mem = s.mem ∧ t.tiles = s.tiles)))) ∧
  (∀ (s : Device) (z i : Nat) (p : Pkt), s.nextOn z = some i → (s.fab.txq.get [] z)[i]? = some p →
    s.credit z p.vc = true ∧
    (∀ q ∈ s.fab.txq.get [] z, isPriority q = true → s.credit z q.vc = true → isPriority p = true) ∧
    ∀ j q, j < i → (s.fab.txq.get [] z)[j]? = some q → s.credit z q.vc = true → isPriority q = false ∧ isPriority p = true)

/-- Requests at their home (R292, R318, R319, R325, R333, R336, R479, R480): a new store or atomic that passes the checks is
taken into its window and waits in the combiner, the memory behind it unchanged; a refused one is answered with its status and
not accepted; a READ is answered with the bytes; a store that finds no entry takes one with its bytes. An answer for a requester of this
device reaches it at once where no phase map is in force; else that to a READ of HBM4 waits at its memory site for a channel (R210). -/
def Obligations.PacketRequests : Prop :=
  ∀ (s : State) (p : Pkt), p.ok = true → s.fresh .own p = true → p.seng ≠ 133 → s.homePort .own p < 4 →
    let h := s.homePort .own p
    let st := s.memStatus p
    (∀ e ∈ [(tWrite, Instr.write), (tMcast, .mcastWrite), (tAtomic, .atomic), (tReduce, .reduce)], p.typ = e.1 →
      gSpace p.addr ≠ 3 →
      (st ≠ stOk → Does (e.2 .own p) s (fun t =>
        t.mem = s.mem ∧ t.port h = s.port h ∧ t.tiles = s.tiles ∧
        (p.src = s.self → s.mapped = false → t.out = s.out ++ [.request (respond p s.self st [] s.epoch)]) ∧
        (st = stOwnership → t.flag F.prtRmOwnValid h = true ∧ t.fget F.prtRmOwnSrc h = p.src))) ∧
      (st = stOk → s.settling = true → Does (e.2 .own p) s (fun t =>
        t = s.toDevice.modPort h (fun x => { x with held := x.held ++ [{ pkt := p, via := .own }] }))) ∧
      (st = stOk → s.settling = false → (p.typ = tAtomic → s.recordRoom h = true) →
        s.combRoom (s.homePieces p) = true → Does (e.2 .own p) s (fun t =>
          t.inWindow h p = true ∧ (s.homePieces p ≠ [] → t.owed p = true) ∧ t.mem = s.mem ∧ t.out = s.out ∧
          t.tiles = s.tiles ∧
          (∀ q, s.homePieces p = [q] → (s.port q.port).combs.any (fun c => c.line == q.key) = false →
            (p.typ = tWrite ∨ p.typ = tMcast → (t.port q.port).combs = (s.port q.port).combs ++
              [{ line := q.key, data := mergeLine 0 q.line q.en, enable := q.en, waiters := [{ pkt := q.pkt, via := .own }] }]) ∧
            (p.typ = tAtomic → (t.port q.port).combs = (s.port q.port).combs ++
              [{ line := q.key, ops := [({ p with addr := s.target p }, .own)] }]))))) ∧
    (p.typ = tRead → gSpace p.addr ≠ 3 → st = stOk → s.inPoison (s.target p) (reqLen p) = false →
      s.flag F.tstCtlActive = false → p.src = s.self → p.seng ≤ 127 →
      ∀ d key, s.locate (s.target p) = some (d, key) → s.readsHeld (s.target p) key (reqLen p) = false →
        (s.readAccess key (reqLen p) (some (readMark p))).isSome = true →
        (keyLines key (reqLen p)).any s.mem.unreadable = false → Does (.read .own p) s (fun t =>
          let r := respond p s.self stOk (readBytes s.mem.bytes key (reqLen p)) s.epoch
          (s.mapped = false → t.out = s.out ++ [.request r]) ∧
          (s.mapped = true → key < 2 ^ 42 →
            let k := 88 * (16 + lineChan (key / 64) / 32) + engineUnit p.seng
            t.pln.waiting.get [] k = s.pln.waiting.get [] k ++ [.response r]) ∧
          t.inWindow h p = true ∧ t.mem.bytes = s.mem.bytes ∧ t.tiles = s.tiles)) ∧
    (p.typ = tMbxWrite → gSpace p.addr = 3 → 2 ≤ s.jobState → ∀ n, mailboxAt (gOff p.addr) = some n →
      (s.mbxFull n = false → Does (.mbxWrite .own p) s (fun t =>
        t.mbxFull n = true ∧ (t.mbox n).word = BitVec.ofNat 64 (leNat (p.payload.take 8)) ∧ t.inWindow 0 p = true ∧
        (p.src = s.self → s.mapped = false → t.out = s.out ++ [.request (respond p s.self stOk [] s.epoch)]))) ∧
      (s.mbxFull n = true → Does (.mbxWrite .own p) s (fun t =>
        t.mbxFull n = true ∧ (t.mbox n).word = (s.mbox n).word ∧ t.ports = s.ports ∧
        t.fget F.mbxStatRejects 0 n = min (2 ^ F.mbxStatRejects.w - 1) (s.fget F.mbxStatRejects 0 n + 1) ∧
        (p.src = s.self → s.mapped = false → ∃ r, t.out = s.out ++ [.request r] ∧ r.typ = tMbxReject ∧ r.seq = p.seq ∧ r.seng = p.seng ∧
          r.xfer = p.xfer ∧ r.addr = p.addr))))

/-- Responses at their requester (R99–R103, R290, R291, R323, R324, R481): the first that matches a tile's request is kept with its
status and data for the tile, and when it gets there completes the request with its data or its count; one with another status, or an
MBX_REJECT, faults the thread; one whose request is gone, abandoned or answered already is late; one whose LEN does not fit is discarded and counted; a doorbell
reaches its waiter; one that comes over a lane while a phase map is in force waits for a channel to its stream engine. -/
def Obligations.PacketResponses : Prop :=
  (∀ (s : State) (p : Pkt), p.ok = true →
    let rows : List (Nat × (Via → Pkt → Instr)) :=
      [(tReadResp, .readResp), (tAtomicResp, .atomicResp), (tAck, .ack), (tMbxReject, .mbxReject)]
    let tileKinds := [ReqKind.sld, .sst, .m2ld, .m2st, .atomic, .get, .put]
    (isDoorbell p = false → ∀ r, s.reqs.find? (fun q => q.stage == .sent && matchesReq p q) = some r →
      (respLenOk p r = false → (p.typ = tReadResp → Does (.readResp .own p) s (fun t =>
          t.reqs = s.reqs ∧ t.fget F.prtZfErrHdr = min 0xFFFF (s.fget F.prtZfErrHdr + 1))) ∧
        (p.typ = tAtomicResp → Does (.atomicResp .own p) s (fun t =>
          t.reqs = s.reqs ∧ t.fget F.prtZfErrHdr = min 0xFFFF (s.fget F.prtZfErrHdr + 1)))) ∧
      (respLenOk p r = true → r.kind ∈ tileKinds → ∀ e ∈ rows, p.typ = e.1 → Does (e.2 .own p) s (fun t =>
        (∃ q ∈ t.reqs, q.id = r.id ∧ (q.stage = .answered ∨ q.stage = .returning) ∧
          q.status = (if p.typ = tMbxReject then stBusy else p.arg) ∧ q.answer = p.payload) ∧
        (∀ c i n k, (t.thread c i n).gr k = (s.thread c i n).gr k) ∧ t.mem = s.mem))) ∧
    (isDoorbell p = false → s.reqs.find? (fun q => q.stage == .sent && matchesReq p q) = none →
      ∀ r, (s.gone ++ s.reqs.filter (fun q => q.stage == .abandoned || q.stage == .answered || q.stage == .returning)).find?
          (matchesReq p) = some r → r.kind ∈ tileKinds → ∀ e ∈ rows, p.typ = e.1 →
          Does (e.2 .own p) s (fun t => t.reqs = s.reqs ∧ t.gone = s.gone ∧
            t.fget F.tileRemoteLate (272 * r.c + r.t) = min 0xFFFF (s.fget F.tileRemoteLate (272 * r.c + r.t) + 1))) ∧
    (isDoorbell p = true → 240 ≤ p.seng → Does (.mbxReject .own p) s (fun t =>
      t = s.toDevice.emit (.doorbell (.mgmt (p.seng - 240)) ((mailboxAt (gOff p.addr)).getD 0)))) ∧
    (∀ z, s.delivers z p = true → isDoorbell p = false → p.seng ≤ 127 → s.mapped = true → ∀ e ∈ rows, p.typ = e.1 →
      Does (e.2 (.lane z) p) s (fun t =>
        let k := 88 * (36 + z / 16) + engineUnit p.seng
        t.pln.waiting.get [] k = s.pln.waiting.get [] k ++ [.response p] ∧ t.reqs = s.reqs ∧ t.mem = s.mem))) ∧
  (∀ (u : Device) (r : Req) (status : Nat) (data : List Byte),
    let t := u.completeTileReq r status data
    (status = stOk →
      (r.kind = .m2ld → t.reqs = u.reqs.filter (fun q => q.id != r.id) ∧ (t.thread r.c r.t r.n).st = .ready ∧
        (t.thread r.c r.t r.n).gr r.d = (if r.d = 0 then 0 else BitVec.ofNat 64 (leNat (data.take 8))) ∧
        (∀ n, n ≠ r.d → (t.thread r.c r.t r.n).gr n = (u.thread r.c r.t r.n).gr n) ∧ t.mem = u.mem) ∧
      (r.kind = .atomic → r.d ≠ 0 → t.reqs = u.reqs.filter (fun q => q.id != r.id) ∧ (t.thread r.c r.t r.n).st = .ready ∧
        (t.thread r.c r.t r.n).gr r.d = BitVec.ofNat 64 (leNat (data.take 8)) ∧
        (r.len = 16 → (t.thread r.c r.t r.n).gr (r.d + 1) = BitVec.ofNat 64 (leNat ((data.drop 8).take 8))) ∧
        (r.len ≠ 16 → (t.thread r.c r.t r.n).gr (r.d + 1) = (u.thread r.c r.t r.n).gr (r.d + 1)) ∧ t.mem = u.mem) ∧
      (r.kind = .sst → t.reqs = u.reqs.filter (fun q => q.id != r.id) ∧
        (t.tile r.c r.t).tc.get 0 r.d = ((u.tile r.c r.t).tc.get 0 r.d + 1) % 2 ^ 32 ∧ t.mem = u.mem) ∧
      (r.kind = .m2st → t.reqs = u.reqs.filter (fun q => q.id != r.id) ∧
        (t.thread r.c r.t r.n).stores = (u.thread r.c r.t r.n).stores - 1 ∧ t.mem = u.mem)) ∧
    (status ≠ stOk → r.n < 8 → t.reqs = u.reqs.filter (fun q => q.id != r.id) ∧ (t.thread r.c r.t r.n).st = .faulted))

/-- Control packets (R297–R303, R307, R308, R437–R439): a HOLD is registered and passed on once; a TICK newer than the last sets the
offset, steps job time outside a job, and in a running job without its reference ends the device's part; a LEASE brings the partner's
digest or poison and tells a gateway the role; RT_WRITE fills the table not in use; RT_FLIP changes the stamping epoch; telemetry
leaves; a scheduled transfer sends its next eight lines. -/
def Obligations.ControlPackets : Prop :=
  ∀ (s : State) (p : Pkt), p.ok = true →
    (p.typ = tHold →
      (s.fr.forwarded.any (holdOf p).same = true → Does (.hold .own p) s (fun t => t = s.toDevice)) ∧
      (s.fr.forwarded.any (holdOf p).same = false → s.fr.holds.any (fun g => g.same (holdOf p) && g.raiser == s.self) = false →
        s.flag F.tstCtlActive = false → Does (.hold .own p) s (fun t =>
          t.fr.forwarded = s.fr.forwarded ++ [holdOf p] ∧
          (s.jobState = jReady ∨ s.running = true → holdOf p ∈ t.fr.holds) ∧
          (s.treeLanes.Nodup → (∀ z ∈ s.treeLanes, s.takesUp z p = true) →
            t.out = s.out ++ s.treeLanes.map (fun z => .packet z (s.onLane z (hopped p))) ++
              (if s.flag F.prtStatusRelay then [.tree (hopped p)] else []))))) ∧
    (p.typ = tTick →
      let o : Int := (p.addr * s.tickPeriod + leNat (p.payload.take 8) / 1000 : Nat) - (s.fr.jobTime : Int)
      let old := s.flag F.prtStatusMaster || s.fab.lastTick.any (fun k => decide (p.addr ≤ k))
      (old = true → Does (.tickPacket .own p) s (fun t => t = s.toDevice)) ∧
      (old = false → s.running = false → Does (.tickPacket .own p) s (fun t =>
        t.fab.lastTick = some p.addr ∧ t.fget F.prtTickState = tkLocked ∧
        (1000 < o.natAbs → (t.fr.jobTime : Int) = max 0 ((s.fr.jobTime : Int) + o)) ∧
        (o.natAbs ≤ 1000 → t.fr.jobTime = s.fr.jobTime ∧ t.fab.offset = o))) ∧
      (old = false → s.running = true → Does (.tickPacket .own p) s (fun t =>
        t.fab.lastTick = some p.addr ∧ t.fr.jobTime = s.fr.jobTime ∧
        (o.natAbs ≤ 1000 ∨ s.flag F.clkStatusTickHo = false → t.fab.offset = o) ∧
        (1000 < o.natAbs → s.flag F.clkStatusTickHo = true → s.fr.withdraw = 0 → s.coreless = false → t.fr.withdraw = wTickLost ∧
          t.fget F.prtTickState = tkUnlocked ∧ t.flag F.clkStatusTickHo = false)))) ∧
    (p.typ = tLease →
      (s.flag F.prtStatusGateway = true ∨ (s.fr.job.isSome = true ∧ s.job.mirrorPartner = p.src) → bit (bcFlags p) 5 = false → Does (.lease .own p) s (fun t =>
        t.ctl.roles.get 0 p.src = bits (bcFlags p) 0 2)) ∧
      (s.running = true → s.job.mirrorPartner = p.src → bit (bcFlags p) 5 = false → Does (.lease .own p) s (fun t =>
        t.fget F.frmPdigestDigest = leNat (p.payload.take 8) ∧ t.fr.beaconTick = bcTick p % 2 ^ 16)) ∧
      (s.running = true → s.job.mirrorPartner = p.src → bit (bcFlags p) 5 = true →
        ∀ n, n = leNat (p.payload.take 2) → n < 2048 → s.slotStack n < 20 → Does (.lease .own p) s (fun t =>
          bit (t.fget F.memPoisonSlot (s.slotStack n) (n / 64)) (n % 64) = true))) ∧
    (p.typ = tMgmt → s.fresh .own p = true →
      (p.arg = 1 → rtWriteOk p = true → rtVersion p ≠ b2n s.epoch → s.flag F.prtRouteGrace = false →
        Does (.rtWrite .own p) s (fun t => t.inWindow 0 p = true ∧
          (∀ i, i < rtCount p → t.fab.tables.get {} (1024 * rtVersion p + rtFirst p + i) =
            { lanes := BitVec.ofNat 64 (rtWord p i 0), valid := bit (rtWord p i 1) 0, isLocal := bit (rtWord p i 1) 1 }) ∧
          (∀ k, (∀ i, i < rtCount p → k ≠ 1024 * rtVersion p + rtFirst p + i) →
            t.fab.tables.get {} k = s.fab.tables.get {} k))) ∧
      (p.arg = 1 → (rtWriteOk p = false ∨ rtVersion p = b2n s.epoch ∨ s.flag F.prtRouteGrace = true) →
        Does (.rtWrite .own p) s (fun t => t.ports = s.ports ∧ t.fab.tables = s.fab.tables)) ∧
      (p.arg = 2 → p.len = 0 → s.fab.lastFlip = none →
        (s.running = false → p.addr = 0 → Does (.rtFlip .own p) s (fun t =>
          t.epoch = !s.epoch ∧ t.flag F.prtRouteGrace = true ∧ t.fab.lastFlip = some s.now ∧ t.inWindow 0 p = true)) ∧
        (s.running = true → s.fr.tick + 2 ≤ p.addr → Does (.rtFlip .own p) s (fun t =>
          t.epoch = s.epoch ∧ t.fab.flipAt = some (p.addr, 1 - b2n s.epoch) ∧ t.inWindow 0 p = true)))) ∧
    Does .epochGraceEnd s (fun t => ∀ q, q < 4 → t.flag F.prtRouteGrace q = false) ∧
    (s.flag F.prtTelemMode = false → s.fab.telemUntil ≤ s.now → s.flag F.prtStatusGateway = false →
      s.flag F.prtStatusAltGateway = false → Does .telemMap s (fun t =>
        t.fab.bins = [] ∧ ∃ a b, t.out = s.out ++ [.toGateway a, .toGateway b] ∧ a.typ = tMgmt ∧ a.arg = 3 ∧ b.arg = 3 ∧
          a.payload.drop 16 = (List.range 256).map (fun i => BitVec.ofNat 8 (s.fab.bins.get 0 i)) ∧
          b.payload.drop 16 = (List.range 256).map (fun i => BitVec.ofNat 8 (s.fab.bins.get 0 (256 + i))))) ∧
    (s.flag F.prtTelemMode = false → s.now < s.fab.telemUntil → Does .telemMap s (fun t =>
      t.fab.bins = [] ∧ t.out = s.out ∧ t.fget F.prtTelemDropped = min (2 ^ F.prtTelemDropped.w - 1) (s.fget F.prtTelemDropped + 2))) ∧
    (∀ z recv, z < 64 → s.flag F.prtTelemMode = true → s.fab.counted.get 0 (2 * z + b2n recv) ≠ 0 →
      s.fab.counted.get 0 (2 * z + b2n recv) % 2 ^ s.fget F.prtTelemK = 0 → s.fab.records.length < 9 →
      Does (.telemSample z recv p) s (fun t => ∃ r, t.fab.records = s.fab.records ++ [r] ∧ r.take 32 = hdrBytes p)) ∧
    (∀ n x, s.job.sched[n]? = some x → s.running = true → s.fr.idle = false → s.settling = false → x.phase ≤ s.phase →
      s.seqRoom (128 + x.port) x.dst = true →
      let i := s.fab.schedSent.get 0 n
      let ls := (List.range 8).filterMap (fun k => s.schedLine x (8 * i + k))
      8 * i < x.lines → ls.length = 8 → Does (.scheduledTransferPacket n) s (fun t =>
        t.fab.schedSent.get 0 n = i + 1 ∧ (s.mute = true → t.reqs = s.reqs) ∧
        (s.mute = false → ∃ r ∈ t.reqs, r.kind = .sched ∧ r.slot = n ∧ r.stage = .sent ∧ r.pkt.dst = x.dst ∧
          r.pkt.addr = x.daddr + 512 * i ∧ r.pkt.seng = 128 + x.port ∧ r.pkt.payload = ls.flatMap bytesOfLine)))

/-! ## Remote memory -/

/-- Requesters, windows and the combiner (R323, R324, R327, R331, R333–R338, R343, R344): a request is sent again four times at most; a
drain takes an entry's enabled bytes to the controller, over the Plinth while a phase map is in force, and once applied they stand in
memory and the waiting store is counted and answered; a fetch-add adds to the line and leaves a replay record, but is dropped where the
line cannot be read; windows and records are released; the control domain's accesses. -/
def Obligations.RemoteMemory : Prop :=
  (∀ (s : State) (id : Nat) (r : Req), s.reqs.find? (fun q => q.id == id && q.stage == .sent) = some r →
    (s.waitsGrant id = true → Does (.requestTimeout id) s (fun t => t = s.toDevice)) ∧
    (r.retries < 4 → s.waitsGrant id = false → Does (.requestTimeout id) s (fun t =>
      let p := sealPkt { r.pkt with epoch := s.epoch, hops := 0 }
      (s.mute = false → t.reqs = s.reqs.map (fun q => if q.id = id then { q with retries := q.retries + 1, pkt := p } else q)) ∧
      (r.pkt.dst = s.self → r.pkt.typ ≠ tMcast → s.mute = false → (r.c = 16 ∨ s.mapped = false) → t.out = s.out ++ [.request p]) ∧
      (r.c < 16 → s.mapped = true → t.pln.waiting.get [] (88 * r.c + s.reqUnit r) =
        s.pln.waiting.get [] (88 * r.c + s.reqUnit r) ++ [.request id p]) ∧
      (r.c < 16 → r.t < 272 → t.fget F.tileRemoteRetries (272 * r.c + r.t) = min 0xFFFF (s.fget F.tileRemoteRetries (272 * r.c + r.t) + 1)))) ∧
    (4 ≤ r.retries → s.waitsGrant id = false → r.kind ∈ [ReqKind.sld, .sst, .m2ld, .m2st, .atomic, .get, .put] → Does (.requestTimeout id) s (fun t =>
      t.reqs = s.reqs.map (fun q => if q.id = id then { q with stage := .abandoned } else q) ∧ t.fr.fault = true ∧
      (r.c < 16 → r.t < 272 → t.fget F.tileRemoteAbandoned (272 * r.c + r.t) = min 0xFFFF (s.fget F.tileRemoteAbandoned (272 * r.c + r.t) + 1))))) ∧
  (∀ (s : State) (p line : Nat), p < 4 →
    (∀ e, (s.port p).combs.find? (fun c => c.line == line) = some e → e.enable ≠ 0 → e.draining = false →
      Does (.drain p line) s (fun t =>
        t.mem.bytes = s.mem.bytes ∧ (2 ^ 36 ≤ line → t.mem = s.mem) ∧ (∃ c ∈ (t.port p).combs, c.line = line ∧ c.draining = true ∧ c.enable = 0 ∧ c.drainEn = e.enable ∧
          c.drainData = e.data ∧ c.ops = e.ops ∧ (∀ w ∈ c.waiters, w.inDrain = true) ∧
          (s.mapped = false ∨ 2 ^ 36 ≤ line → c.atCtl = true)) ∧
        (s.mapped = true → line < 640 * 2 ^ 25 →
          let k := 88 * (36 + p) + 64 + lineChan line / 32
          t.pln.waiting.get [] k = s.pln.waiting.get [] k ++ [.drain p line e.isStaged]))) ∧
    (∀ e, (s.port p).combs.find? (fun c => c.line == line) = some e → e.draining = true → e.atCtl = true →
      (s.accessFor true line (some (.drain p))).isSome = true →
      s.flag F.tstCtlActive = false → s.inputsEmpty → (∀ h, h < 4 → (s.port h).dups = []) → s.mem.lost line = false →
      let l := lineInChan line (s.mem.migrating.get 0 (lineChan line) - 1)
      Does (.drainApplied p line) s (fun t =>
        (∀ i, i < 64 → bit e.drainEn.toNat i = true →
          t.mem.bytes.get 0 (64 * line + i) = (bytesOfLine e.drainData).getD i 0) ∧
        (∀ a, (∀ i, i < 64 → bit e.drainEn.toNat i = true → a ≠ 64 * line + i ∧
            (s.mem.migrating.get 0 (lineChan line) ≠ 0 → a ≠ 64 * l + i)) → t.mem.bytes.get 0 a = s.mem.bytes.get 0 a) ∧
        (∀ w, NMap.wf {} s.ports → e.ops = [] → e.waiters = [w] → w.inDrain = true → w.pkt.typ ≠ tAtomic → w.pkt.src = s.self →
          s.mapped = false → e.cc = none →
          (∀ x ∈ s.ports, ∀ c ∈ x.2.combs, x.1 ≠ p ∨ c ≠ e → c.owes w.pkt = false) →
          t.out = s.out ++ [.request (respond w.pkt s.self stOk [] s.epoch)] ∧
          (w.pkt.ccEn = true → t.mem.cc.get 0 w.pkt.cc = min (2 ^ 32 - 1) (s.mem.cc.get 0 w.pkt.cc + 1))))) ∧
    (∀ e q v, (s.port p).combs.find? (fun c => c.line == line) = some e → e.ops = [(q, v)] → q.typ = tAtomic → q.arg = 0 →
      gOff q.addr % 64 ≤ 56 → s.mem.lost line = false →
      let here := e.draining = false ∧ (e.come = true ∨ (e.asked = false ∧ s.mapped = false)) ∧
        ((s.wantLine p line e).accessFor true line (some (.atomic p))).isSome = true
      (e.whole = false → here → line ∈ s.mem.bad → Does (.atomicExecute p line) s (fun t =>
        line ∈ t.mem.bad ∧ t.mem.bytes = s.mem.bytes ∧
        (∀ c ∈ (t.port p).combs, c.line = line → c.ops = []) ∧ ∀ h, (t.port h).replays = (s.port h).replays)) ∧
      ((e.whole = true ∨ (here ∧ s.mem.unreadable line = false)) →
      let base := if e.whole then e.data else mergeLine (s.mem.lineAt line) e.data e.enable
      let prior := leNat (((bytesOfLine base).drop (gOff q.addr % 64)).take 8)
      Does (.atomicExecute p line) s (fun t =>
        t.mem.bytes = s.mem.bytes ∧ (∃ x ∈ (t.port (s.homePort v q)).replays, x.src = q.src ∧ x.seng = q.seng ∧ x.dst = q.dst ∧
          x.seq = q.seq ∧ x.prior = leBytes 8 prior) ∧
        ∃ c ∈ (t.port p).combs, c.line = line ∧ c.whole = true ∧ c.ops = [] ∧
          leNat (((bytesOfLine c.data).drop (gOff q.addr % 64)).take 8) = (prior + leNat (q.payload.take 8)) % 2 ^ 64 ∧
          (∀ i, i < 8 → bit c.enable.toNat (gOff q.addr % 64 + i) = true) ∧
          ∃ w ∈ c.waiters, w.pkt = q ∧ w.prior = leBytes 8 prior))) ∧
    (∀ src seng dst, (seng ≤ 131 → Does (.windowEntryRelease p src seng dst) s (fun t => t = s.toDevice)) ∧
      (131 < seng → s.inputsEmpty → Does (.windowEntryRelease p src seng dst) s (fun t =>
        (t.port p).windows = (s.port p).windows.filter (fun e => !(e.src == src && e.seng == seng && e.dst == dst)) ∧
        (∀ h, h ≠ p → (t.port h).windows = (s.port h).windows) ∧ t.mem = s.mem))) ∧
    (∀ src seng dst seq, s.inputsEmpty → Does (.replayRecordRelease p src seng dst seq) s (fun t =>
      (t.port p).replays =
        (s.port p).replays.filter (fun r => !(r.src == src && r.seng == seng && r.dst == dst && r.seq == seq)) ∧
      (∀ h, h ≠ p → (t.port h).replays = (s.port h).replays) ∧ t.mem = s.mem))) ∧
  (∀ (s : State) (a off n : Nat), a < 19 → 0x1000000 ≤ off → off + n ≤ 0x2000000 →
    let o := off - 0x1000000
    let old := leNat (readBytes s.cds.bytes o n)
    let kept (t : Device) : Prop := ∀ k, ¬ (o ≤ k ∧ k < o + n) → t.cds.bytes.get 0 k = s.cds.bytes.get 0 k
    (∀ op, cdLegal op o n = false → Does (.controlDomainAccess (some a) off n op) s (fun t =>
      t = s.toDevice.emit (.cdValue (some a) false 0))) ∧
    (cdLegal .load o n = true → Does (.controlDomainAccess (some a) off n .load) s (fun t =>
      t.cds.bytes = s.cds.bytes ∧ t.out = s.out ++ [.cdValue (some a) true old] ∧ t.cds.copyOf (o / 64) a ≠ meInvalid)) ∧
    (∀ v, cdLegal (.store v) o n = true → Does (.controlDomainAccess (some a) off n (.store v)) s (fun t =>
      leNat (readBytes t.cds.bytes o n) = v % 2 ^ (8 * n) ∧ kept t ∧ t.cds.copyOf (o / 64) a = meModified ∧
      (∀ b, b < 19 → b ≠ a → t.cds.copyOf (o / 64) b = meInvalid) ∧ ∀ e ∈ t.cds.reserved, e.2 ≠ o / 64)) ∧
    (∀ v, cdLegal (.add v) o n = true → Does (.controlDomainAccess (some a) off n (.add v)) s (fun t =>
      t.out = s.out ++ [.cdValue (some a) true old] ∧ leNat (readBytes t.cds.bytes o n) = (old + v) % 2 ^ (8 * n) ∧ kept t)) ∧
    (∀ v, cdLegal (.sc v) o n = true →
      ((a, o / 64) ∈ s.cds.reserved → Does (.controlDomainAccess (some a) off n (.sc v)) s (fun t =>
        t.out = s.out ++ [.cdValue (some a) true 0] ∧ leNat (readBytes t.cds.bytes o n) = v % 2 ^ (8 * n) ∧ kept t)) ∧
      ((a, o / 64) ∉ s.cds.reserved → Does (.controlDomainAccess (some a) off n (.sc v)) s (fun t =>
        t.out = s.out ++ [.cdValue (some a) true 1] ∧ t.cds.bytes = s.cds.bytes))) ∧
    (cdLegal .lr o n = true → Does (.controlDomainAccess (some a) off n .lr) s (fun t =>
      t.out = s.out ++ [.cdValue (some a) true old] ∧ (a, o / 64) ∈ t.cds.reserved ∧ t.cds.bytes = s.cds.bytes)))

/-! ## Mailboxes and commands -/

/-- Mailboxes and the Curator's cores (R434, R478–R486): a write into an empty mailbox deposits its word, one into a full one is
rejected and its writer listed; a read takes the word and rings those that wait; a command is taken with its parameters and checked,
and completes with its code and result; a core that stops beating is replaced, and without a replacement the device withdraws. -/
def Obligations.Mailboxes : Prop :=
  ∀ s : State,
    (∀ g n v, n < 64 → s.pending.any (Instr.accesses n) = true →
      Does (.mbxDataWrite g n v) s (fun t => t = s.modCtl (fun c => { c with
        mbxNow := ({ agent := g, n := n, word := some v } : MbxAccess).rank c.mbxNow })) ∧
      Does (.mbxDataRead g n) s (fun t => t = s.modCtl (fun c => { c with
        mbxNow := ({ agent := g, n := n } : MbxAccess).rank c.mbxNow }))) ∧
    (∀ g g' n v, 16 ≤ n → n < 64 → s.pending.any (Instr.accesses n) = false → s.mbxFull n = true → s.mbxReach g = true →
      s.mbxReach g' = true → (s.mbox n).waiters = [] → s.ctl.mbxNow = [{ agent := g', n := n, word := some v }] →
      Does (.mbxDataRead g n) s (fun t => t.mbxFull n = true ∧ (t.mbox n).word = v ∧ t.ctl.mbxNow = [] ∧
        t.out = s.out ++ [.response g true (s.mbox n).word, .response g' true 0])) ∧
    (∀ g n v, n < 64 → s.ctl.mbxNow = [] → s.pending.any (Instr.accesses n) = false →
      (s.mbxReach g = false → Does (.mbxDataWrite g n v) s (fun t => t = s.toDevice.emit (.response g false 0)) ∧
        Does (.mbxDataRead g n) s (fun t => t = s.toDevice.emit (.response g false 0))) ∧
      (s.mbxReach g = true → s.mbxFull n = false → Does (.mbxDataWrite g n v) s (fun t =>
        t.mbxFull n = true ∧ (t.mbox n).word = v ∧ t.out = s.out ++ [.response g true 0] ∧
        t.fget F.mbxStatAccepts 0 n = (s.fget F.mbxStatAccepts 0 n + 1) % 2 ^ 14 ∧
        t.fget F.mbxStatWriter 0 n = (s.agentId g).1 % 2 ^ 10 ∧ t.fget F.mbxStatWseng 0 n = (s.agentId g).2 % 2 ^ 8 ∧
        ∀ k, k ≠ n → t.mbox k = s.mbox k)) ∧
      (s.mbxReach g = true → s.mbxFull n = true → Does (.mbxDataWrite g n v) s (fun t =>
        t.mbxFull n = true ∧ (t.mbox n).word = (s.mbox n).word ∧ t.out = s.out ++ [.response g false 0] ∧
        t.fget F.mbxStatRejects 0 n = min 0xFFFF (s.fget F.mbxStatRejects 0 n + 1) ∧
        (128 ≤ (s.agentId g).2 → s.agentId g ∉ (s.mbox n).waiters → (s.mbox n).waiters.length < 8 →
          (t.mbox n).waiters = (s.mbox n).waiters ++ [s.agentId g]))) ∧
      (s.mbxReach g = true → s.mbxFull n = true → 16 ≤ n → Does (.mbxDataRead g n) s (fun t =>
        t.mbxFull n = false ∧ (t.mbox n).waiters = [] ∧ (∃ l, t.out = s.out ++ l ++ [.response g true (s.mbox n).word]) ∧
        (∀ c, (s.mbox n).waiters = [(s.self, 240 + c)] →
          t.out = s.out ++ [.doorbell (.mgmt c) n, .response g true (s.mbox n).word]))) ∧
      (s.mbxFull n = false ∨ n < 16 → Does (.mbxDataRead g n) s (fun t => t = s.toDevice.emit (.response g false 0)))) ∧
    (∀ m, m < 16 →
      (s.mbxFull m = false → Does (.commandTake m) s (fun t => t = s.toDevice)) ∧
      (s.mbxFull m = true → s.fget F.curCmdState 0 m ≠ 1 →
        let c : Cmd := { word := (s.mbox m).word,
                         params := (List.range 8).map (fun k => BitVec.ofNat 64 (s.rd .curParam 0 (8 * m + k))) }
        Does (.commandTake m) s (fun t =>
          t.fget F.curCmdState 0 m = 1 ∧ t.fget F.curCmdOp 0 m = c.op ∧ t.fget F.curCmdTag 0 m = c.tag ∧ t.mbxFull m = true ∧
          (t.cmd m).word = c.word ∧ (t.cmd m).params = c.params ∧
          (s.checkCmd m c = ccOk → t.at m c.op = true) ∧
          (s.checkCmd m c ≠ ccOk → t.ended m (s.checkCmd m c) 0 ∧ ∀ op, t.at m op = false))) ∧
      (s.fget F.curCmdState 0 m = 1 → (s.cmd m).finished = true → Does (.commandComplete m) s (fun t =>
        t.fget F.curCmdState 0 m = 2 ∧ t.fget F.curCmdCode 0 m = (s.cmd m).code % 2 ^ 4 ∧
        t.fget F.curCmdResult 0 m = (s.cmd m).result % 2 ^ 32 ∧ t.mbxFull m = false ∧ t.cmd m = {}))) ∧
    (s.ctl.coreRuns = true → Does .curatorHeartbeat s (fun t => t.ctl.heartbeatAt = s.now ∧ t.ctl.takingOver = false ∧
      t.coreless = false ∧ t.fr.withdrawDue = 0 ∧ (s.fr.withdrawDue = 0 → t.regs = s.regs ∧ t.fr = s.fr) ∧
      (s.fr.withdrawDue ≠ 0 → s.running = true → s.fr.withdraw = 0 → t.fr.withdraw = s.fr.withdrawDue))) ∧
    (s.ctl.coreRuns = false → Does .curatorHeartbeat s (fun t => t = s.toDevice) ∧ Does .curatorTakeover s (fun t => t = s.toDevice)) ∧
    (s.ctl.coreRuns = true → s.flag F.curStatusStandbyOk = true → Does .curatorTakeover s (fun t =>
      t.fget F.curStatusActive = 1 - s.fget F.curStatusActive ∧ t.flag F.curStatusStandbyOk = false ∧
      t.fget F.curStatusTakeovers = min 255 (s.fget F.curStatusTakeovers + 1) ∧ t.ctl.heartbeatAt = s.now ∧
      s.fget F.curStatusActive ∈ t.ctl.coresLost ∧ t.ctl.coreRuns = true ∧
      t.ctl.takingOver = true ∧ t.coreless = true)) ∧
    (s.ctl.coreRuns = true → s.flag F.curStatusStandbyOk = false → Does .curatorTakeover s (fun t =>
      t.ctl.coreRuns = false ∧ (s.running = true → s.fr.withdraw = 0 → t.fr.withdraw = wCuratorLost)))

/-- Commands on a job (R142, R157, R169, R173, R178, R472, R473, R485, R488): holding, stopping, loading, admission, unloading,
starting with every device's answer, and rejoining, each with the code it ends in. -/
def Obligations.JobCommands : Prop :=
  ∀ (s : State) (m : Nat), m < 16 →
    (s.at m opHold = true → s.running = true → s.resyncing = false → s.fr.withdraw = 0 →
      s.fget F.frmHoldConsec < s.fget F.frmHoldLimit → Does (.hostHold m) s (fun t => t.ended m ccOk 0 ∧
        ∃ h ∈ t.fr.holds, h.target = s.fr.tick + 1 ∧ h.reason = hHost ∧ h.stop = false ∧ h.raiser = s.self)) ∧
    (s.at m opStop = true → s.running = true → Does (.stop m) s (fun t => t.ended m ccOk 0 ∧
        ∃ h ∈ t.fr.holds, h.target = s.fr.tick + 1 ∧ h.reason = jcHostStop ∧ h.stop = true)) ∧
    (s.at m opLoad = true → s.fget F.curBootStep ≠ stReady → Does (.load m) s (fun t => t.regs = s.regs ∧ t.ended m ccNotReady 0)) ∧
    (s.at m opLoad = true → s.fget F.curBootStep = stReady →
      (s.jobState = jNone → (s.cmd m).arg ≤ s.loadRoom → Does (.load m) s (fun t =>
        t.jobState = jLoading ∧ t.ctl.loadLen = (s.cmd m).arg ∧ t.ctl.loadArea = [] ∧ t.ended m ccOk 0)) ∧
      (s.jobState = jNone → s.loadRoom < (s.cmd m).arg → Does (.load m) s (fun t =>
        t.jobState = jNone ∧ t.ended m ccFailed 6)) ∧
      (s.jobState ≠ jNone → Does (.load m) s (fun t => t.regs = s.regs ∧ t.ended m ccBusy 0))) ∧
    (s.at m opLoadEnd = true → s.jobState = jLoading →
      (s.admission s.ctl.loadArea = none → Does (.loadEnd m) s (fun t =>
        t.jobState = jReady ∧ t.fr.job = some (readJob s.ctl.loadArea) ∧ t.ctl.loadLen = 0 ∧ t.ctl.loadArea = [] ∧
        t.ended m ccOk 0)) ∧
      (∀ r, s.admission s.ctl.loadArea = some r → Does (.loadEnd m) s (fun t =>
        t.jobState = jNone ∧ t.fr.job = s.fr.job ∧ t.mem = s.mem ∧ t.tiles = s.tiles ∧ t.ctl.loadArea = [] ∧
        t.ended m (if r.reason = 0 then ccOk else ccFailed) r.reason))) ∧
    (s.at m opUnload = true →
      (s.jobState = jLoading → Does (.unload m) s (fun t => t.jobState = jNone ∧ t.ctl.loadArea = [] ∧ t.ended m ccOk 0)) ∧
      ((s.jobState = jReady ∨ s.jobState = jStopped ∨ s.jobState = jWithdrawn) → Does (.unload m) s (fun t =>
        t.jobState = jNone ∧ t.fr.job = none ∧ t.mem.cc = [] ∧ t.ended m ccOk 0 ∧
        (∀ r ∈ s.job.regions, ∀ i d key, i < r.span / 256 → s.locate (r.base + 256 * i) = some (d, key) →
          ∀ k, k < 256 → t.mem.bytes.get 0 (key + k) = 0) ∧
        (∀ a, (∀ r ∈ s.job.regions, ∀ i d key, i < r.span / 256 → s.locate (r.base + 256 * i) = some (d, key) →
          ¬ (key ≤ a ∧ a < key + 256)) → t.mem.bytes.get 0 a = s.mem.bytes.get 0 a)))) ∧
    (s.at m opStart = true →
      (s.fr.startMbx = none → Does (.start m) s (fun t =>
        t.fr.startMbx = some m ∧ t.fr.startS = ceilDiv (s.fr.jobTime + 200000000) 1000 ∧ t.cmd m = s.cmd m ∧
        t.fr.startDevices = (List.range s.job.devices).map (fun d => (d, opParam0)) ∧
        ∀ d, d < s.job.devices → ∃ r ∈ t.reqs, r.kind = .reg ∧ r.op = opParam0 ∧ r.pkt.typ = tWrite ∧ r.pkt.dst = d ∧
          r.pkt.payload = leBytes 16 (s.job.jobId % 2 ^ 64))) ∧
      (s.fr.startMbx ≠ none → Does (.start m) s (fun t => t.ended m ccBusy 0)) ∧
      (s.fr.startMbx = some m → Does (.startTimeout m) s (fun t =>
        t.fr.startMbx = none ∧ t.fr.startDevices = [] ∧
        t.fr.abortLeft = (s.fr.startDevices.filter (fun e => opStartMbx ≤ e.2 && decide (e.2 ≤ sgAccepted))).map Prod.fst ∧
        (∀ e, s.fr.startDevices.find? (fun e => e.2 == sgRefused) = some e → t.ended m ccNotReady e.1) ∧
        (∀ e, s.fr.startDevices.find? (fun e => e.2 == sgRefused) = none →
          s.fr.startDevices.find? (fun e => e.2 != sgAccepted) = some e → t.ended m ccNotReady e.1)))) ∧
    (s.at m opStartAt = true →
      let may := s.jobState = jReady ∧ (s.cmd m).param 0 = s.job.jobId ∧ s.fget F.prtTickState = tkLocked ∧
        s.fget F.frmMirrorSync ≠ syMismatch
      (may → Does (.startAt m) s (fun t => t.fr.startAt = some ((s.cmd m).param 1) ∧ t.ended m ccOk 0)) ∧
      (¬ may → Does (.startAt m) s (fun t => t.fr.startAt = s.fr.startAt ∧ t.ended m ccNotReady 0))) ∧
    (s.at m opAbortStart = true →
      ((s.cmd m).param 0 = s.job.jobId → Does (.abortStart m) s (fun t => t.fr.startAt = none ∧ t.ended m ccOk 0)) ∧
      ((s.cmd m).param 0 ≠ s.job.jobId → Does (.abortStart m) s (fun t => t.fr.startAt = s.fr.startAt ∧ t.ended m ccArg 0))) ∧
    ((s.fr.abortLeft = [] → Does (.abortDeadline m) s (fun t => t = s.toDevice)) ∧
      (s.fr.abortLeft ≠ [] → Does (.abortDeadline m) s (fun t => t.fr.abortLeft = [] ∧
        ∃ h ∈ t.fr.holds, h.target = 0 ∧ h.stop = true ∧ h.reason = jcHostStop ∧ h.raiser = s.self))) ∧
    (s.at m opRejoin = true →
      let may := s.jobState = jReady ∧ s.job.mirrorPartner ≠ 0xFFFF ∧ s.ctl.roles.get 0 s.job.mirrorPartner = 1
      (may → Does (.rejoin m) s (fun t => t.fr.rejoin = true ∧ t.ended m ccOk 0)) ∧
      (¬ may → Does (.rejoin m) s (fun t => t.fr = s.fr ∧ t.ended m ccNotReady 0))) ∧
    ((s.jobState = jLoading → Does .loadTimeout s (fun t => t.jobState = jNone ∧ t.ctl.loadArea = [] ∧ t.ctl.loadLen = 0)) ∧
      (s.jobState ≠ jLoading → Does .loadTimeout s (fun t => t = s.toDevice)))

/-- Other commands of a host (R454, R469, R470, R485, R487, R500): alarms acknowledged, the transfer window claimed and released, a
report signed, the inactive slot erased and programmed, counters set, rings and maps read. The words of SUMMARY are free. -/
def Obligations.HostCommands : Prop :=
  ∀ (s : State) (m : Nat), m < 16 →
    let c := s.cmd m
    let slot := slotBase s.inactiveSlot
    (s.at m opAckAlarm = true → Does (.ackAlarm m) s (fun t => t.ended m ccOk 0 ∧
      (∀ a ∈ t.led.alarms ++ t.led.flashLog, c.arg = 0 ∨ a.seq = c.arg → a.acked = true) ∧
      t.fget F.glbStatusAlarmsUnack = min 0xFFF (t.led.alarms.filter (fun a => !a.acked)).length)) ∧
    (s.at m opXferClaim = true →
      ((s.flag F.curXferCtlHeld = false ∨ s.holdsWindow m = true) → Does (.xferClaim m) s (fun t =>
        t.holdsWindow m = true ∧ t.ended m ccOk 0)) ∧
      (s.flag F.curXferCtlHeld = true → s.holdsWindow m = false → Does (.xferClaim m) s (fun t =>
        t.regs = s.regs ∧ t.ended m ccBusy 0))) ∧
    (s.at m opXferRelease = true →
      (s.holdsWindow m = true → Does (.xferRelease m) s (fun t => t.flag F.curXferCtlHeld = false ∧ t.ended m ccOk 0)) ∧
      (s.holdsWindow m = false → Does (.xferRelease m) s (fun t => t.regs = s.regs ∧ t.ended m ccBusy 0))) ∧
    Does .xferClaimLapse s (fun t => t.flag F.curXferCtlHeld = false) ∧
    (s.at m opAttest = true →
      (s.holdsWindow m = false → Does (.attest m) s (fun t => t.ended m ccBusy 0)) ∧
      (s.holdsWindow m = true → s.fget F.curCatIdent = 0 → Does (.attest m) s (fun t =>
        m ∈ t.boot.attestWaiting ∧ t.cmd m = c)) ∧
      (s.holdsWindow m = true → s.fget F.curCatIdent = 2 → Does (.attest m) s (fun t => t.ended m ccFailed 0)) ∧
      (s.holdsWindow m = true → s.fget F.curCatIdent = 1 →
        let body := s.attestBody ((List.range 4).flatMap (fun k => leBytes 8 (c.param k)))
        let bs := body ++ signBlock body
        Does (.attest m) s (fun t => readBytes t.ctl.window 0 bs.length = bs ∧
          t.fget F.curXferCtlLength = bs.length % 2 ^ 16 ∧ t.ended m ccOk 0))) ∧
    (s.at m opCatErase = true →
      (s.flashAllows true slot imageArea = true → Does (.catErase m) s (fun t =>
        t.boot.holder = some true ∧ t.ended m ccOk 0 ∧
        (∀ a, slot ≤ a → a < slot + imageArea → t.boot.flash.get 0xFF a = 0xFF) ∧
        (∀ a, ¬ (slot ≤ a ∧ a < slot + imageArea) → t.boot.flash.get 0xFF a = s.boot.flash.get 0xFF a))) ∧
      (s.flashAllows true slot imageArea = false → Does (.catErase m) s (fun t => t.boot = s.boot ∧ t.ended m ccBusy 0))) ∧
    (s.at m opCatWrite = true →
      ((s.holdsWindow m && s.flashAllows true (slot + c.arg) 32768) = true → Does (.catWrite m) s (fun t =>
        (∀ i, i < 32768 → t.boot.flash.get 0xFF (slot + c.arg + i) =
          s.boot.flash.get 0xFF (slot + c.arg + i) &&& s.ctl.window.get 0 i) ∧
        (∀ a, ¬ (slot + c.arg ≤ a ∧ a < slot + c.arg + 32768) → t.boot.flash.get 0xFF a = s.boot.flash.get 0xFF a) ∧
        t.ended m (if t.flashBytes (slot + c.arg) 32768 = readBytes s.ctl.window 0 32768 then ccOk else ccFailed) 0)) ∧
      ((s.holdsWindow m && s.flashAllows true (slot + c.arg) 32768) = false → Does (.catWrite m) s (fun t =>
        t.boot = s.boot ∧ t.ended m ccBusy 0))) ∧
    (s.at m opSummary = true →
      (s.holdsWindow m = true → Does (.summary m) s (fun t =>
        t.fget F.curXferCtlLength = 32768 ∧ t.free = s.free + 4096 ∧ t.ended m ccOk 0)) ∧
      (s.holdsWindow m = false → Does (.summary m) s (fun t => t.ctl.window = s.ctl.window ∧ t.ended m ccBusy 0))) ∧
    (s.at m opPmcSet = true → ∀ sel ctl, c.pmcPlace = some (sel, ctl) →
      ((sel.1 = .tilePmsel ∧ bit (c.param 1) 12 = true ∧ s.flag F.tileCtlUcnt sel.2.1 = false) → Does (.pmcSet m) s (fun t =>
        t.regs = s.regs ∧ t.ended m ccPolicy 0)) ∧
      (¬ (sel.1 = .tilePmsel ∧ bit (c.param 1) 12 = true ∧ s.flag F.tileCtlUcnt sel.2.1 = false) → Does (.pmcSet m) s (fun t =>
        t.rd sel.1 sel.2.1 sel.2.2 = Right.all.apply sel.1 (s.rd sel.1 sel.2.1 sel.2.2) (c.param 1) % 2 ^ 64 ∧
        t.rd ctl.1 ctl.2.1 ctl.2.2 = Right.all.apply ctl.1 (s.rd ctl.1 ctl.2.1 ctl.2.2) c.pmctl % 2 ^ 64 ∧ t.ended m ccOk 0))) ∧
    (s.at m opRingRead = true → Does (.ringRead m) s (fun t =>
      t.rd .curRes 0 m = s.ringData (bits c.arg 0 6) (bits c.arg 6 8) % 2 ^ 64 ∧ t.ended m ccOk 0)) ∧
    (s.at m opMapRead = true → Does (.mapRead m) s (fun t =>
      t.rd .curRes 0 m = s.mapData (busOf (bits c.arg 0 2) (bits c.arg 2 6)) (bits c.arg 8 6) % 2 ^ 64 ∧ t.ended m ccOk 0)) ∧
    Does .flashHoldRelease s (fun t => t.boot = { s.boot with holder := none })

/-! ## Registers, logs, and the outside -/

/-- C-space, the Ledger and the I3C port (R14–R17, R167, R187, R373, R387, R408, R490, R494, R496–R500, R502–R504, R517): a legal
write by one who may write changes that register's fields and no other register, but for the bits that hardware updates in its
cycle; an illegal one nothing; reads return the value
and clear what they clear; lengths take the smaller; records are written, coalesced or dropped by their tokens; ALARMs reach the
flash log; bandwidth registers latch; I3C programs and erases what it may. -/
def Obligations.RegistersAndLogs : Prop :=
  (∀ (s : State) (g : Agent) (off n : Nat) (v hw : Word),
    (n ≠ 8 ∨ off % 8 ≠ 0 → Does (.registerWrite g off n v hw) s (fun t => t = s.toDevice.emit (.response g false 0))) ∧
    (∀ k b i, off % 8 = 0 → regAt off = some (k, b, i) → inTst off = false → k.place.block ≠ .mbx →
      (s.right g k i = .error → Does (.registerWrite g off 8 v hw) s (fun t => t = s.toDevice.emit (.response g false 0))) ∧
      (s.right g k i = .ignored → Does (.registerWrite g off 8 v hw) s (fun t => t = s.toDevice.emit (.response g true 0))) ∧
      (s.right g k i = .all → k ∉ [RegKind.frmLenPend, .curXfer, .curParam, .clkDom, .glbBwCtl, .pwrRpt, .pwrAssign] →
        (s.legal k b i v.toNat = true → Does (.registerWrite g off 8 v hw) s (fun t =>
          (∀ j, j < 64 → bit (t.rd k b i) j =
            if bit hw.toNat j then bit (s.rd k b i) j else bit (Right.all.apply k (s.rd k b i) v.toNat) j) ∧
          (∀ a, a ≠ k.addr b i → t.regs.get 0 a = s.regs.get 0 a) ∧ t.out = s.out ++ [.response g true 0])) ∧
        (s.legal k b i v.toNat = false → Does (.registerWrite g off 8 v hw) s (fun t =>
          t.regs = s.regs ∧ t.ctl.rejected = s.ctl.rejected + 1 ∧ t.out = s.out ++ [.response g false 0]))) ∧
      ((isThreadAgent g && isCounter k) = false → k.fields.any (fun f => f.acc == .rc) = true →
        ∀ counted, Does (.rcRead g off counted) s (fun t =>
          t.out = s.out ++ [.response g true (BitVec.ofNat 64 (s.peek k b i))] ∧
          (∀ f ∈ k.fields, f.acc = .rc → bits (t.rd k b i) f.lo f.w = b2n (counted == some f.lo)) ∧
          ∀ a, a ≠ k.addr b i → t.regs.get 0 a = s.regs.get 0 a))) ∧
    (s.right g .glbBwCtl 0 = .all → s.legal .glbBwCtl 0 0 v.toNat = true → Does (.glbBwCtlWrite g v) s (fun t =>
      t.fget F.glbBwCtlWindowUs = v.toNat % 2 ^ 10 ∧ t.fget F.glbBwCtlWindows = 0 ∧ t.ctl.bwBytes = [])) ∧
    (∀ r, r < 4 → isThreadAgent g = false → Does (.ledCurWrite g r v) s (fun t =>
      t.fget F.ledCurSeq 0 r = v.toNat % 2 ^ 48 ∧ t.out = s.out ++ [.response g true 0])) ∧
    (∀ k b i w, inTst off = true → off % 8 = 0 → regAt off = some (k, b, i) → k.place.block = .tst →
      (s.flag F.tstCtlPresent = false → Does (.tstWrite g off v w) s (fun t => t = s.toDevice.emit (.response g true 0))) ∧
      (s.flag F.tstCtlPresent = true → s.right g k i = .all → s.legal k b i v.toNat = true →
        (s.running = true → Does (.tstWrite g off v w) s (fun t => t.regs = s.regs ∧
          let kept (x : Word) : Prop := ∀ j, j < 64 → bit x.toNat j = if bit w.hw.toNat j then bit (s.rd k) j else bit v.toNat j
          (w.tickCycle = false → kept (t.ctl.staged.get 0 (k.addr 0 0)) ∧ t.ctl.stagedLate = s.ctl.stagedLate) ∧
          (w.tickCycle = true → kept (t.ctl.stagedLate.get 0 (k.addr 0 0)) ∧ t.ctl.staged = s.ctl.staged))) ∧
        (s.running = false → Does (.tstWrite g off v w) s (fun t =>
          t.rd k = Right.all.apply k (s.rd k) (keepBits w.hw (s.rd k) v.toNat) % 2 ^ 64)))) ∧
    (∀ slot r, slot < 2048 → s.slotRegion slot = some r →
      (r.slotSize < v.toNat % 2 ^ 48 → Does (.frmLenPendWrite g slot v false) s (fun t =>
        t.regs = s.regs ∧ t.ctl.rejected = s.ctl.rejected + 1)) ∧
      (v.toNat % 2 ^ 48 ≤ r.slotSize →
        (slot ∉ s.fr.firstPend → Does (.frmLenPendWrite g slot v false) s (fun t =>
          t.fget F.frmLenPendLength 0 slot = v.toNat % 2 ^ 48 ∧ slot ∈ t.fr.firstPend)) ∧
        (slot ∈ s.fr.firstPend → Does (.frmLenPendWrite g slot v false) s (fun t =>
          t.fget F.frmLenPendLength 0 slot = min (v.toNat % 2 ^ 48) (s.fget F.frmLenPendLength 0 slot))) ∧
        Does (.frmLenPendWrite g slot v true) s (fun t =>
          t.regs = s.regs ∧ t.fr.lateWrites = s.fr.lateWrites + 1)))) ∧
  (∀ (s : State) (z : Nat) (p : Pkt), s.delivers z p = true → s.fresh (.lane z) p = true → p.typ = tWrite → p.src ≠ s.self →
    p.seng = 132 → p.len = 1 → p.arg = 8 →
    let v := leNat (p.payload.take 8)
    (∀ i, i < 32 → gSpace p.addr = 3 → gOff p.addr = 0x40100 + 8 * i → s.coordinating = true → p.src = s.memberNo i →
      Does (.pwrRptWrite (.lane z) p) s (fun t =>
        t.rd .pwrRpt 0 i = Right.all.apply .pwrRpt 0 v % 2 ^ 64 ∧
        ∃ l, t.pwr.reports.get [] i = l ++ [(s.now, bits (Right.all.apply .pwrRpt 0 v) 0 16)])) ∧
    (gSpace p.addr = 3 → gOff p.addr = 0x40030 → s.fr.job.isSome = true → p.src = s.job.powerCoord →
      (900 ≤ bits v 0 11 → bits v 0 11 ≤ s.fget F.pwrLimitCeiling → Does (.pwrAssignWrite (.lane z) p) s (fun t =>
        t.pwr.assigned = some (bits v 0 11) ∧ t.pwr.toSustained = false ∧ t.limit = s.limit)) ∧
      ((bits v 0 11 < 900 ∨ s.fget F.pwrLimitCeiling < bits v 0 11) → Does (.pwrAssignWrite (.lane z) p) s (fun t =>
        t.pwr.assigned = s.pwr.assigned ∧ t.ctl.rejected = s.ctl.rejected + 1)))) ∧
  (∀ (s : State) (kind index prio cls cause unit detail : Nat), kind ≤ kTile → prio ≤ 3 → cls ≤ 6 →
    let key := srcKey kind index
    (prio = 0 → s.led.alarms.length < 4096 → Does (.recordPost kind index prio cls cause unit detail) s (fun t =>
      t.led.nextSeq = s.led.nextSeq + 1 ∧ t.flag F.glbStatusAlert = true ∧
      ∃ a ∈ t.led.alarms, a.seq = s.led.nextSeq ∧ a.cause = cause ∧ a.unit = unit ∧ a.acked = false)) ∧
    (1 ≤ prio → ¬ (prio = 3 ∧ s.led.traceOff = true) →
      (16 ≤ s.led.queues.get 0 key → Does (.recordPost kind index prio cls cause unit detail) s (fun t =>
        t.led.recs = s.led.recs ∧ t.fget F.ledDropQueue = min 0xFFFF (s.fget F.ledDropQueue + 1))) ∧
      (s.led.queues.get 0 key < 16 → s.led.spent.get 0 (bucketKey kind index prio) < s.led.burst.getD (prio - 1) 0 →
        Does (.recordPost kind index prio cls cause unit detail) s (fun t =>
          t.led.nextSeq = s.led.nextSeq + 1 ∧
          t.led.spent.get 0 (bucketKey kind index prio) = s.led.spent.get 0 (bucketKey kind index prio) + 1 ∧
          ∃ r ∈ t.led.recs, r.seq = s.led.nextSeq ∧ r.prio = prio ∧ r.cls = cls ∧ r.srcKind = kind ∧ r.srcIndex = index ∧
            r.cause = cause ∧ r.unit = unit ∧ r.detail = detail ∧ r.time = s.now / 2))) ∧
    (1 ≤ prio → s.led.tokenAt.get 0 (bucketKey kind index prio) ≤ s.now →
      (s.led.open_.any (fun e => e.1 == key) = false → Does (.ledgerToken kind index prio) s (fun t =>
        t.led.spent.get 0 (bucketKey kind index prio) = s.led.spent.get 0 (bucketKey kind index prio) - 1 ∧
        t.led.recs = s.led.recs)) ∧
      (s.led.open_.any (fun e => e.1 == key) = true → (s.led.open_.get {} key).prio = prio →
        Does (.ledgerToken kind index prio) s (fun t =>
          t.led.open_.any (fun e => e.1 == key) = false ∧ t.led.nextSeq = s.led.nextSeq + 1 ∧
          ∃ r ∈ t.led.recs, r.seq = s.led.nextSeq ∧ r.repeats = (s.led.open_.get {} key).repeats))) ∧
    (1 ≤ prio → s.now < s.led.tokenAt.get 0 (bucketKey kind index prio) →
      Does (.ledgerToken kind index prio) s (fun t => t.led = s.led))) ∧
  (∀ (s : State) (seq : Nat) (a : AlarmRec), s.led.alarms.find? (fun a => a.seq == seq && !a.inFlash) = some a →
    s.led.flashLog.length < 32768 → Does (.alarmFlashWrite seq) s (fun t =>
      t.led.flashLog = s.led.flashLog ++ [{ a with inFlash := true }] ∧
      ∀ x ∈ t.led.alarms, x.seq = seq → x.inFlash = true ∧ x.acked = false)) ∧
  (∀ (s : State) (k : RegKind) (b i : Nat), k ∈ [RegKind.plnBw, .memBw, .prtDdrBw, .prtLaneBw] → regAt (k.addr b i) = some (k, b, i) →
    NMap.wf 0 s.ctl.bwBytes → (∀ e ∈ s.ctl.bwBytes, isBandwidth (e.1 / 2) = true) → Does .bandwidthWindow s (fun t =>
      t.rd k b i = min (2 ^ 32 - 1) (s.ctl.bwBytes.get 0 (2 * k.addr b i)) +
        2 ^ 32 * min (2 ^ 32 - 1) (s.ctl.bwBytes.get 0 (2 * k.addr b i + 1)) ∧
      t.ctl.bwBytes = [] ∧ t.fget F.glbBwCtlWindows = (s.fget F.glbBwCtlWindows + 1) % 2 ^ 48)) ∧
  (∀ (s : State) (a : Nat) (data : List Byte),
    (∀ k b i, a % 8 = 0 → inTst a = false → regAt a = some (k, b, i) →
      (s.ctl.coreRuns = true ∨ k = .glbId ∨ k = .glbStatus ∨ k = .glbReset → Does (.i3cRegisterRead a) s (fun t =>
        t = s.toDevice.emit (.i3c (leBytes 8 (s.peek k b i))))) ∧
      (s.ctl.coreRuns = false → k ∉ [RegKind.glbId, .glbStatus, .glbReset] → Does (.i3cRegisterRead a) s (fun t =>
        t = s.toDevice.emit (.i3c (leBytes 8 0))))) ∧
    (a % 256 = 0 → data.length = 256 → s.flashAllows false a 256 = true → Does (.i3cPageProgram a data) s (fun t =>
      t.boot.holder = some false ∧ t.boot.i3cRefused = false ∧
      (∀ i, i < 256 → t.boot.flash.get 0xFF (a + i) = s.boot.flash.get 0xFF (a + i) &&& data.getD i 0xFF) ∧
      (∀ k, ¬ (a ≤ k ∧ k < a + 256) → t.boot.flash.get 0xFF k = s.boot.flash.get 0xFF k))) ∧
    (s.flashAllows false a 256 = false → Does (.i3cPageProgram a data) s (fun t =>
      t.boot = { s.boot with i3cRefused := true })) ∧
    (a % 65536 = 0 → s.flashAllows false a 65536 = true → Does (.i3cSectorErase a) s (fun t =>
      t.boot.holder = some false ∧ (∀ k, a ≤ k → k < a + 65536 → t.boot.flash.get 0xFF k = 0xFF) ∧
      (∀ k, ¬ (a ≤ k ∧ k < a + 65536) → t.boot.flash.get 0xFF k = s.boot.flash.get 0xFF k))) ∧
    (s.flashAllows false a 65536 = false → Does (.i3cSectorErase a) s (fun t => t.boot = { s.boot with i3cRefused := true })) ∧
    Does .i3cStatusRead s (fun t => t = s.toDevice.emit (.i3c [BitVec.ofNat 8
      ((if s.boot.i3cRefused then 2 else 0) + if s.ctl.coreRuns then 4 else 0)])))

/-- R321: a request from SENG 0–131 whose tick stamp differs from this device's tick number is discarded at its home and counted,
with nothing else changed: as it comes there, and by the command that brings it, but for a READ that crosses the Plinth first. -/
def Obligations.StaleRequestsDiscarded : Prop :=
  (∀ (s : Device) (v : Via) (p : Pkt), (∀ z, v = .lane z → s.laneRole z ≠ rHost) → p.seng ≤ 131 → p.seq / 2 ^ 20 ≠ s.fr.tick % 4096 →
    (s.port (s.homePort v p)).input.any (fun x => x.via == v) = false →
    s.serveHere v p = s.fsat F.prtRmSeqStale (s.homePort v p) 0 1) ∧
  ∀ (s : State) (p : Pkt), p.ok = true → p.seng ≤ 131 → p.seq / 2 ^ 20 ≠ s.fr.tick % 4096 →
    ∀ e ∈ [(tWrite, Instr.write), (tRead, .read), (tAtomic, .atomic), (tMcast, .mcastWrite), (tReduce, .reduce),
           (tMbxWrite, .mbxWrite)], p.typ = e.1 → (p.typ = tRead → s.mapped = false) →
      let stale (h : Nat) (t : Device) : Prop :=
        t.fget F.prtRmSeqStale h = min (2 ^ F.prtRmSeqStale.w - 1) (s.fget F.prtRmSeqStale h + 1)
      ((s.port (s.homePort .own p)).input.any (fun x => x.via == .own) = false → Does (e.2 .own p) s (fun t =>
        t = s.toDevice.fsat F.prtRmSeqStale (s.homePort .own p) 0 1 ∧ stale (s.homePort .own p) t)) ∧
      (∀ z, p.typ ≠ tMcast → s.delivers z p = true → s.homePort (.lane z) p < 4 →
        (s.port (s.homePort (.lane z) p)).input.any (fun x => x.via == .lane z) = false → Does (e.2 (.lane z) p) s (fun t =>
          t.out = s.out ∧ t.mem = s.mem ∧ t.ports = s.ports ∧ t.tiles = s.tiles ∧ t.reqs = s.reqs ∧ stale (s.homePort (.lane z) p) t))

/-- R352: a reset, a clock loss or a frequency change of one stack's domain leaves every other domain's state, frequency, target and
stretch, and the tiles of every other stack, as they were. -/
def Obligations.ClockDomainsIndependent : Prop :=
  ∀ (s : State) (c : Nat), c < 16 → ∀ (pm buf : Nat) (full : Bool) (g : Agent) (v : Word),
    ∀ i ∈ [Instr.stackReset c, .clockPresent c, .stackRejoin c, .stackPllTimeout c, .droop c pm, .stretchRelease c, .periodicStretch c,
           .frequencyMove c, .suspensionEnd c, .frequencyChangeTimeout c, .slip c (buf, full), .clkDomTarget g c v, .clkDomReset g c v],
      Does i s (fun t => ∀ d, d ≠ c →
        (d < 18 → t.rd .clkDom 0 d = s.rd .clkDom 0 d ∧ t.rd .clkStretch 0 d = s.rd .clkStretch 0 d) ∧
        (t.die d).changeTo = (s.die d).changeTo ∧ (t.die d).newTarget = (s.die d).newTarget ∧
        (t.die d).suspended = (s.die d).suspended ∧ (t.die d).stretch = (s.die d).stretch ∧
        (t.die d).testLeft = (s.die d).testLeft ∧ (t.die d).isolated = (s.die d).isolated ∧
        ∀ k, k / 272 = d → t.tiles.get {} k = s.tiles.get {} k)

/-- Every step keeps the registers canonical: no offset is listed twice, and none that reads as its reset value. -/
def Obligations.StepKeepsRegistersCanonical : Prop :=
  ∀ s t : State, NMap.wf 0 s.regs → step s = .next t → NMap.wf 0 t.regs
end

