-- ==== Sys2Proof/Laws/Sparse.lean ====
section
/-! SUPPORT. Laws of sparse maps: a read after a write, what a write leaves alone, and that every operation keeps the canonical
form. -/

namespace Sys2Proof.Machine

variable {ν : Type}

@[simp] theorem NMap.get_nil (d : ν) (k : Nat) : NMap.get d [] k = d := rfl

/-! ## Reads -/

theorem NMap.get_ins_same (d : ν) (m : NMap ν) (k : Nat) (v : ν) : NMap.get d (NMap.ins m k v) k = v := by
  induction m with
  | nil => simp [NMap.ins, NMap.get]
  | cons e m ih =>
    simp only [NMap.ins]
    split
    · simp [NMap.get]
    · split
      · simp [NMap.get]
      · rename_i h; simp [NMap.get, h, ih]

theorem NMap.get_ins_ne (d : ν) (m : NMap ν) {k j : Nat} (v : ν) (h : j ≠ k) :
    NMap.get d (NMap.ins m k v) j = NMap.get d m j := by
  induction m with
  | nil => simp [NMap.ins, NMap.get, Ne.symm h]
  | cons e m ih =>
    simp only [NMap.ins]
    split
    · simp [NMap.get, Ne.symm h]
    · split
      · rename_i he; simp [NMap.get, Ne.symm h, he]
      · simp [NMap.get, ih]

theorem NMap.get_del_same (d : ν) (m : NMap ν) (k : Nat) : NMap.get d (NMap.del m k) k = d := by
  induction m with
  | nil => rfl
  | cons e m ih =>
    by_cases h : e.1 = k
    · simpa [NMap.del, h] using ih
    · simpa [NMap.del, h, NMap.get] using ih

theorem NMap.get_del_ne (d : ν) (m : NMap ν) {k j : Nat} (h : j ≠ k) : NMap.get d (NMap.del m k) j = NMap.get d m j := by
  induction m with
  | nil => rfl
  | cons e m ih =>
    by_cases hk : e.1 = k
    · have : e.1 ≠ j := fun x => h (x.symm.trans hk)
      simpa [NMap.del, hk, NMap.get, this, Ne.symm h] using ih
    · by_cases hj : e.1 = j
      · simp [NMap.del, NMap.get, hj, h]
      · simpa [NMap.del, hk, NMap.get, hj] using ih

@[simp] theorem NMap.get_set_same [DecidableEq ν] (d : ν) (m : NMap ν) (k : Nat) (v : ν) :
    NMap.get d (NMap.set d m k v) k = v := by
  unfold NMap.set
  split
  · rename_i h; rw [NMap.get_del_same, h]
  · exact NMap.get_ins_same d m k v

theorem NMap.get_set_ne [DecidableEq ν] (d : ν) (m : NMap ν) {k j : Nat} (v : ν) (h : j ≠ k) :
    NMap.get d (NMap.set d m k v) j = NMap.get d m j := by
  unfold NMap.set
  split
  · exact NMap.get_del_ne d m h
  · exact NMap.get_ins_ne d m v h

@[simp] theorem NMap.get_upd_same [DecidableEq ν] (d : ν) (m : NMap ν) (k : Nat) (f : ν → ν) :
    NMap.get d (NMap.upd d m k f) k = f (NMap.get d m k) := NMap.get_set_same d m k _

theorem NMap.get_upd_ne [DecidableEq ν] (d : ν) (m : NMap ν) {k j : Nat} (f : ν → ν) (h : j ≠ k) :
    NMap.get d (NMap.upd d m k f) j = NMap.get d m j := NMap.get_set_ne d m _ h

/-- Values mapped in place. -/
theorem NMap.get_map_val (d : ν) (m : NMap ν) (f : ν → ν) (h : f d = d) (k : Nat) :
    NMap.get d (m.map (fun e => (e.1, f e.2))) k = f (NMap.get d m k) := by
  induction m with
  | nil => simpa [NMap.get] using h.symm
  | cons e m ih =>
    by_cases hk : e.1 = k
    · simp [NMap.get, hk]
    · simpa [NMap.get, hk] using ih

/-- A part of a map reads as the map where the part lies, and as nothing elsewhere. -/
theorem NMap.get_filter (d : ν) (m : NMap ν) (p : Nat → Bool) (k : Nat) :
    NMap.get d (m.filter (fun e => p e.1)) k = if p k then NMap.get d m k else d := by
  induction m with
  | nil => simp [NMap.get]
  | cons e m ih =>
    by_cases hp : p e.1 <;> by_cases hk : e.1 = k
    · subst hk; simp [NMap.get, hp]
    · simp [NMap.get, hp, hk, ih]
    · subst hk; simpa [NMap.get, hp] using ih
    · simp [NMap.get, hp, hk, ih]

theorem NMap.get_clear_in (d : ν) (m : NMap ν) {lo hi k : Nat} (h : lo ≤ k ∧ k < hi) :
    NMap.get d (NMap.clear m lo hi) k = d := by
  have := NMap.get_filter d m (fun k => !(decide (lo ≤ k ∧ k < hi))) k
  simpa [NMap.clear, h] using this

theorem NMap.get_clear_out (d : ν) (m : NMap ν) {lo hi k : Nat} (h : ¬ (lo ≤ k ∧ k < hi)) :
    NMap.get d (NMap.clear m lo hi) k = NMap.get d m k := by
  have := NMap.get_filter d m (fun k => !(decide (lo ≤ k ∧ k < hi))) k
  rw [NMap.clear, this, if_pos (by simp only [h, decide_false, Bool.not_false])]

/-! ## Canonical form -/

theorem NMap.mem_ins {m : NMap ν} {k : Nat} {v : ν} {e : Nat × ν} (h : e ∈ NMap.ins m k v) : e = (k, v) ∨ e ∈ m := by
  induction m with
  | nil => simpa [NMap.ins] using h
  | cons a m ih =>
    simp only [NMap.ins] at h
    split at h
    · simpa using h
    · split at h
      · rcases List.mem_cons.mp h with h | h
        · exact Or.inl h
        · exact Or.inr (List.mem_cons_of_mem _ h)
      · rcases List.mem_cons.mp h with h | h
        · exact Or.inr (h ▸ List.mem_cons_self)
        · exact (ih h).imp_right (List.mem_cons_of_mem _)

theorem NMap.wf_nil (d : ν) : NMap.wf d ([] : NMap ν) := ⟨List.Pairwise.nil, by simp⟩

/-- A part of a canonical map is canonical. -/
theorem NMap.wf_filter {d : ν} {m : NMap ν} (p : Nat × ν → Bool) (h : NMap.wf d m) : NMap.wf d (m.filter p) :=
  ⟨h.1.filter p, fun e he => h.2 e (List.mem_filter.mp he).1⟩

theorem NMap.wf_ins {d : ν} {m : NMap ν} {k : Nat} {v : ν} (hv : v ≠ d) (h : NMap.wf d m) : NMap.wf d (NMap.ins m k v) := by
  refine ⟨?_, fun e he => ?_⟩
  · obtain ⟨h, -⟩ := h
    induction m with
    | nil => simp [NMap.ins]
    | cons a m ih =>
      have ha := List.pairwise_cons.mp h
      simp only [NMap.ins]
      split
      · rename_i hk
        refine List.pairwise_cons.mpr ⟨fun b hb => ?_, h⟩
        rcases List.mem_cons.mp hb with rfl | hb
        · exact hk
        · exact Nat.lt_trans hk (ha.1 b hb)
      · split
        · rename_i hk
          exact List.pairwise_cons.mpr ⟨fun b hb => by simpa [hk] using ha.1 b hb, ha.2⟩
        · refine List.pairwise_cons.mpr ⟨fun b hb => ?_, ih ha.2⟩
          rcases NMap.mem_ins hb with rfl | hb
          · simp; omega
          · exact ha.1 b hb
  · rcases NMap.mem_ins he with rfl | he
    · exact hv
    · exact h.2 e he

theorem NMap.wf_set [DecidableEq ν] {d : ν} {m : NMap ν} (k : Nat) (v : ν) (h : NMap.wf d m) :
    NMap.wf d (NMap.set d m k v) := by
  unfold NMap.set
  split
  · exact NMap.wf_filter _ h
  · rename_i hv; exact NMap.wf_ins hv h

theorem NMap.wf_upd [DecidableEq ν] {d : ν} {m : NMap ν} (k : Nat) (f : ν → ν) (h : NMap.wf d m) :
    NMap.wf d (NMap.upd d m k f) := NMap.wf_set k _ h

theorem NMap.wf_clear {d : ν} {m : NMap ν} (lo hi : Nat) (h : NMap.wf d m) : NMap.wf d (NMap.clear m lo hi) :=
  NMap.wf_filter _ h

theorem NMap.wf_setAll [DecidableEq ν] {d : ν} (es : List (Nat × ν)) {m : NMap ν} (h : NMap.wf d m) :
    NMap.wf d (NMap.setAll d m es) := by
  unfold NMap.setAll
  induction es generalizing m with
  | nil => exact h
  | cons e es ih => exact ih (NMap.wf_set e.1 e.2 h)

theorem NMap.wf_copy [DecidableEq ν] {d : ν} {src dst : NMap ν} (a b n : Nat) (h : NMap.wf d dst) :
    NMap.wf d (NMap.copy d src dst a b n) := NMap.wf_setAll _ (NMap.wf_clear _ _ h)

/-! ## Byte strings -/

theorem writeBytes_wf (bs : List Byte) {m : NMap Byte} (a : Nat) (h : NMap.wf 0 m) : NMap.wf 0 (writeBytes m a bs) := by
  induction bs generalizing m a with
  | nil => exact h
  | cons b bs ih => exact ih (a + 1) (NMap.wf_set a b h)

/-- A byte that a write of a byte string leaves alone. -/
theorem get_writeBytes_out (bs : List Byte) (m : NMap Byte) (a : Nat) {k : Nat} (h : k < a ∨ a + bs.length ≤ k) :
    NMap.get 0 (writeBytes m a bs) k = NMap.get 0 m k := by
  induction bs generalizing m a with
  | nil => rfl
  | cons b bs ih =>
    simp only [List.length_cons] at h
    rw [writeBytes, ih _ (a + 1) (by omega), NMap.get_set_ne _ _ _ (by omega)]

/-- A byte that a write of a byte string writes. -/
theorem get_writeBytes_in (bs : List Byte) (m : NMap Byte) (a i : Nat) (h : i < bs.length) :
    NMap.get 0 (writeBytes m a bs) (a + i) = bs.getD i 0 := by
  induction bs generalizing m a i with
  | nil => simp at h
  | cons b bs ih =>
    cases i with
    | zero => rw [writeBytes, get_writeBytes_out _ _ _ (by omega)]; simp
    | succ i =>
      have := ih (m.set 0 a b) (a + 1) i (by simpa using h)
      rw [writeBytes, show a + (i + 1) = a + 1 + i by omega, this]; simp

end Sys2Proof.Machine
end

