-- ==== Sys2Proof/Laws/State.lean ====
section
/-! SUPPORT. What each named update of the device does to each of its fields. -/

namespace Sys2Proof.Machine

variable (s : Device)

@[simp] theorem Device.wr_now (k : RegKind) (b i v : Nat) : (s.wr k b i v).now = s.now := rfl
@[simp] theorem Device.wr_free (k : RegKind) (b i v : Nat) : (s.wr k b i v).free = s.free := rfl
@[simp] theorem Device.wr_energy (k : RegKind) (b i v : Nat) : (s.wr k b i v).energy = s.energy := rfl
@[simp] theorem Device.wr_tiles (k : RegKind) (b i v : Nat) : (s.wr k b i v).tiles = s.tiles := rfl
@[simp] theorem Device.wr_dies (k : RegKind) (b i v : Nat) : (s.wr k b i v).dies = s.dies := rfl
@[simp] theorem Device.wr_reqs (k : RegKind) (b i v : Nat) : (s.wr k b i v).reqs = s.reqs := rfl
@[simp] theorem Device.wr_gone (k : RegKind) (b i v : Nat) : (s.wr k b i v).gone = s.gone := rfl
@[simp] theorem Device.wr_nextId (k : RegKind) (b i v : Nat) : (s.wr k b i v).nextId = s.nextId := rfl
@[simp] theorem Device.wr_ports (k : RegKind) (b i v : Nat) : (s.wr k b i v).ports = s.ports := rfl
@[simp] theorem Device.wr_fr (k : RegKind) (b i v : Nat) : (s.wr k b i v).fr = s.fr := rfl
@[simp] theorem Device.wr_pln (k : RegKind) (b i v : Nat) : (s.wr k b i v).pln = s.pln := rfl
@[simp] theorem Device.wr_mem (k : RegKind) (b i v : Nat) : (s.wr k b i v).mem = s.mem := rfl
@[simp] theorem Device.wr_fab (k : RegKind) (b i v : Nat) : (s.wr k b i v).fab = s.fab := rfl
@[simp] theorem Device.wr_boot (k : RegKind) (b i v : Nat) : (s.wr k b i v).boot = s.boot := rfl
@[simp] theorem Device.wr_pwr (k : RegKind) (b i v : Nat) : (s.wr k b i v).pwr = s.pwr := rfl
@[simp] theorem Device.wr_thm (k : RegKind) (b i v : Nat) : (s.wr k b i v).thm = s.thm := rfl
@[simp] theorem Device.wr_ctl (k : RegKind) (b i v : Nat) : (s.wr k b i v).ctl = s.ctl := rfl
@[simp] theorem Device.wr_cds (k : RegKind) (b i v : Nat) : (s.wr k b i v).cds = s.cds := rfl
@[simp] theorem Device.wr_led (k : RegKind) (b i v : Nat) : (s.wr k b i v).led = s.led := rfl
@[simp] theorem Device.wr_out (k : RegKind) (b i v : Nat) : (s.wr k b i v).out = s.out := rfl

@[simp] theorem Device.fset_now (f : Fld) (b i v : Nat) : (s.fset f b i v).now = s.now := rfl
@[simp] theorem Device.fset_free (f : Fld) (b i v : Nat) : (s.fset f b i v).free = s.free := rfl
@[simp] theorem Device.fset_energy (f : Fld) (b i v : Nat) : (s.fset f b i v).energy = s.energy := rfl
@[simp] theorem Device.fset_tiles (f : Fld) (b i v : Nat) : (s.fset f b i v).tiles = s.tiles := rfl
@[simp] theorem Device.fset_dies (f : Fld) (b i v : Nat) : (s.fset f b i v).dies = s.dies := rfl
@[simp] theorem Device.fset_reqs (f : Fld) (b i v : Nat) : (s.fset f b i v).reqs = s.reqs := rfl
@[simp] theorem Device.fset_gone (f : Fld) (b i v : Nat) : (s.fset f b i v).gone = s.gone := rfl
@[simp] theorem Device.fset_nextId (f : Fld) (b i v : Nat) : (s.fset f b i v).nextId = s.nextId := rfl
@[simp] theorem Device.fset_ports (f : Fld) (b i v : Nat) : (s.fset f b i v).ports = s.ports := rfl
@[simp] theorem Device.fset_fr (f : Fld) (b i v : Nat) : (s.fset f b i v).fr = s.fr := rfl
@[simp] theorem Device.fset_pln (f : Fld) (b i v : Nat) : (s.fset f b i v).pln = s.pln := rfl
@[simp] theorem Device.fset_mem (f : Fld) (b i v : Nat) : (s.fset f b i v).mem = s.mem := rfl
@[simp] theorem Device.fset_fab (f : Fld) (b i v : Nat) : (s.fset f b i v).fab = s.fab := rfl
@[simp] theorem Device.fset_boot (f : Fld) (b i v : Nat) : (s.fset f b i v).boot = s.boot := rfl
@[simp] theorem Device.fset_pwr (f : Fld) (b i v : Nat) : (s.fset f b i v).pwr = s.pwr := rfl
@[simp] theorem Device.fset_thm (f : Fld) (b i v : Nat) : (s.fset f b i v).thm = s.thm := rfl
@[simp] theorem Device.fset_ctl (f : Fld) (b i v : Nat) : (s.fset f b i v).ctl = s.ctl := rfl
@[simp] theorem Device.fset_cds (f : Fld) (b i v : Nat) : (s.fset f b i v).cds = s.cds := rfl
@[simp] theorem Device.fset_led (f : Fld) (b i v : Nat) : (s.fset f b i v).led = s.led := rfl
@[simp] theorem Device.fset_out (f : Fld) (b i v : Nat) : (s.fset f b i v).out = s.out := rfl

@[simp] theorem Device.fsat_now (f : Fld) (b i v : Nat) : (s.fsat f b i v).now = s.now := rfl
@[simp] theorem Device.fsat_free (f : Fld) (b i v : Nat) : (s.fsat f b i v).free = s.free := rfl
@[simp] theorem Device.fsat_energy (f : Fld) (b i v : Nat) : (s.fsat f b i v).energy = s.energy := rfl
@[simp] theorem Device.fsat_tiles (f : Fld) (b i v : Nat) : (s.fsat f b i v).tiles = s.tiles := rfl
@[simp] theorem Device.fsat_dies (f : Fld) (b i v : Nat) : (s.fsat f b i v).dies = s.dies := rfl
@[simp] theorem Device.fsat_reqs (f : Fld) (b i v : Nat) : (s.fsat f b i v).reqs = s.reqs := rfl
@[simp] theorem Device.fsat_gone (f : Fld) (b i v : Nat) : (s.fsat f b i v).gone = s.gone := rfl
@[simp] theorem Device.fsat_nextId (f : Fld) (b i v : Nat) : (s.fsat f b i v).nextId = s.nextId := rfl
@[simp] theorem Device.fsat_ports (f : Fld) (b i v : Nat) : (s.fsat f b i v).ports = s.ports := rfl
@[simp] theorem Device.fsat_fr (f : Fld) (b i v : Nat) : (s.fsat f b i v).fr = s.fr := rfl
@[simp] theorem Device.fsat_pln (f : Fld) (b i v : Nat) : (s.fsat f b i v).pln = s.pln := rfl
@[simp] theorem Device.fsat_mem (f : Fld) (b i v : Nat) : (s.fsat f b i v).mem = s.mem := rfl
@[simp] theorem Device.fsat_fab (f : Fld) (b i v : Nat) : (s.fsat f b i v).fab = s.fab := rfl
@[simp] theorem Device.fsat_boot (f : Fld) (b i v : Nat) : (s.fsat f b i v).boot = s.boot := rfl
@[simp] theorem Device.fsat_pwr (f : Fld) (b i v : Nat) : (s.fsat f b i v).pwr = s.pwr := rfl
@[simp] theorem Device.fsat_thm (f : Fld) (b i v : Nat) : (s.fsat f b i v).thm = s.thm := rfl
@[simp] theorem Device.fsat_ctl (f : Fld) (b i v : Nat) : (s.fsat f b i v).ctl = s.ctl := rfl
@[simp] theorem Device.fsat_cds (f : Fld) (b i v : Nat) : (s.fsat f b i v).cds = s.cds := rfl
@[simp] theorem Device.fsat_led (f : Fld) (b i v : Nat) : (s.fsat f b i v).led = s.led := rfl
@[simp] theorem Device.fsat_out (f : Fld) (b i v : Nat) : (s.fsat f b i v).out = s.out := rfl

@[simp] theorem Device.finc_now (f : Fld) (b i v : Nat) : (s.finc f b i v).now = s.now := rfl
@[simp] theorem Device.finc_free (f : Fld) (b i v : Nat) : (s.finc f b i v).free = s.free := rfl
@[simp] theorem Device.finc_energy (f : Fld) (b i v : Nat) : (s.finc f b i v).energy = s.energy := rfl
@[simp] theorem Device.finc_tiles (f : Fld) (b i v : Nat) : (s.finc f b i v).tiles = s.tiles := rfl
@[simp] theorem Device.finc_dies (f : Fld) (b i v : Nat) : (s.finc f b i v).dies = s.dies := rfl
@[simp] theorem Device.finc_reqs (f : Fld) (b i v : Nat) : (s.finc f b i v).reqs = s.reqs := rfl
@[simp] theorem Device.finc_gone (f : Fld) (b i v : Nat) : (s.finc f b i v).gone = s.gone := rfl
@[simp] theorem Device.finc_nextId (f : Fld) (b i v : Nat) : (s.finc f b i v).nextId = s.nextId := rfl
@[simp] theorem Device.finc_ports (f : Fld) (b i v : Nat) : (s.finc f b i v).ports = s.ports := rfl
@[simp] theorem Device.finc_fr (f : Fld) (b i v : Nat) : (s.finc f b i v).fr = s.fr := rfl
@[simp] theorem Device.finc_pln (f : Fld) (b i v : Nat) : (s.finc f b i v).pln = s.pln := rfl
@[simp] theorem Device.finc_mem (f : Fld) (b i v : Nat) : (s.finc f b i v).mem = s.mem := rfl
@[simp] theorem Device.finc_fab (f : Fld) (b i v : Nat) : (s.finc f b i v).fab = s.fab := rfl
@[simp] theorem Device.finc_boot (f : Fld) (b i v : Nat) : (s.finc f b i v).boot = s.boot := rfl
@[simp] theorem Device.finc_pwr (f : Fld) (b i v : Nat) : (s.finc f b i v).pwr = s.pwr := rfl
@[simp] theorem Device.finc_thm (f : Fld) (b i v : Nat) : (s.finc f b i v).thm = s.thm := rfl
@[simp] theorem Device.finc_ctl (f : Fld) (b i v : Nat) : (s.finc f b i v).ctl = s.ctl := rfl
@[simp] theorem Device.finc_cds (f : Fld) (b i v : Nat) : (s.finc f b i v).cds = s.cds := rfl
@[simp] theorem Device.finc_led (f : Fld) (b i v : Nat) : (s.finc f b i v).led = s.led := rfl
@[simp] theorem Device.finc_out (f : Fld) (b i v : Nat) : (s.finc f b i v).out = s.out := rfl

@[simp] theorem Device.setFlag_now (f : Fld) (b i : Nat) (v : Bool) : (s.setFlag f b i v).now = s.now := rfl
@[simp] theorem Device.setFlag_free (f : Fld) (b i : Nat) (v : Bool) : (s.setFlag f b i v).free = s.free := rfl
@[simp] theorem Device.setFlag_energy (f : Fld) (b i : Nat) (v : Bool) : (s.setFlag f b i v).energy = s.energy := rfl
@[simp] theorem Device.setFlag_tiles (f : Fld) (b i : Nat) (v : Bool) : (s.setFlag f b i v).tiles = s.tiles := rfl
@[simp] theorem Device.setFlag_dies (f : Fld) (b i : Nat) (v : Bool) : (s.setFlag f b i v).dies = s.dies := rfl
@[simp] theorem Device.setFlag_reqs (f : Fld) (b i : Nat) (v : Bool) : (s.setFlag f b i v).reqs = s.reqs := rfl
@[simp] theorem Device.setFlag_gone (f : Fld) (b i : Nat) (v : Bool) : (s.setFlag f b i v).gone = s.gone := rfl
@[simp] theorem Device.setFlag_nextId (f : Fld) (b i : Nat) (v : Bool) : (s.setFlag f b i v).nextId = s.nextId := rfl
@[simp] theorem Device.setFlag_ports (f : Fld) (b i : Nat) (v : Bool) : (s.setFlag f b i v).ports = s.ports := rfl
@[simp] theorem Device.setFlag_fr (f : Fld) (b i : Nat) (v : Bool) : (s.setFlag f b i v).fr = s.fr := rfl
@[simp] theorem Device.setFlag_pln (f : Fld) (b i : Nat) (v : Bool) : (s.setFlag f b i v).pln = s.pln := rfl
@[simp] theorem Device.setFlag_mem (f : Fld) (b i : Nat) (v : Bool) : (s.setFlag f b i v).mem = s.mem := rfl
@[simp] theorem Device.setFlag_fab (f : Fld) (b i : Nat) (v : Bool) : (s.setFlag f b i v).fab = s.fab := rfl
@[simp] theorem Device.setFlag_boot (f : Fld) (b i : Nat) (v : Bool) : (s.setFlag f b i v).boot = s.boot := rfl
@[simp] theorem Device.setFlag_pwr (f : Fld) (b i : Nat) (v : Bool) : (s.setFlag f b i v).pwr = s.pwr := rfl
@[simp] theorem Device.setFlag_thm (f : Fld) (b i : Nat) (v : Bool) : (s.setFlag f b i v).thm = s.thm := rfl
@[simp] theorem Device.setFlag_ctl (f : Fld) (b i : Nat) (v : Bool) : (s.setFlag f b i v).ctl = s.ctl := rfl
@[simp] theorem Device.setFlag_cds (f : Fld) (b i : Nat) (v : Bool) : (s.setFlag f b i v).cds = s.cds := rfl
@[simp] theorem Device.setFlag_led (f : Fld) (b i : Nat) (v : Bool) : (s.setFlag f b i v).led = s.led := rfl
@[simp] theorem Device.setFlag_out (f : Fld) (b i : Nat) (v : Bool) : (s.setFlag f b i v).out = s.out := rfl

@[simp] theorem Device.resetRegs_now (lo hi : Nat) : (s.resetRegs lo hi).now = s.now := rfl
@[simp] theorem Device.resetRegs_free (lo hi : Nat) : (s.resetRegs lo hi).free = s.free := rfl
@[simp] theorem Device.resetRegs_regs (lo hi : Nat) : (s.resetRegs lo hi).regs = s.regs.clear lo hi := rfl
@[simp] theorem Device.resetRegs_energy (lo hi : Nat) : (s.resetRegs lo hi).energy = s.energy := rfl
@[simp] theorem Device.resetRegs_tiles (lo hi : Nat) : (s.resetRegs lo hi).tiles = s.tiles := rfl
@[simp] theorem Device.resetRegs_dies (lo hi : Nat) : (s.resetRegs lo hi).dies = s.dies := rfl
@[simp] theorem Device.resetRegs_reqs (lo hi : Nat) : (s.resetRegs lo hi).reqs = s.reqs := rfl
@[simp] theorem Device.resetRegs_gone (lo hi : Nat) : (s.resetRegs lo hi).gone = s.gone := rfl
@[simp] theorem Device.resetRegs_nextId (lo hi : Nat) : (s.resetRegs lo hi).nextId = s.nextId := rfl
@[simp] theorem Device.resetRegs_ports (lo hi : Nat) : (s.resetRegs lo hi).ports = s.ports := rfl
@[simp] theorem Device.resetRegs_fr (lo hi : Nat) : (s.resetRegs lo hi).fr = s.fr := rfl
@[simp] theorem Device.resetRegs_pln (lo hi : Nat) : (s.resetRegs lo hi).pln = s.pln := rfl
@[simp] theorem Device.resetRegs_mem (lo hi : Nat) : (s.resetRegs lo hi).mem = s.mem := rfl
@[simp] theorem Device.resetRegs_fab (lo hi : Nat) : (s.resetRegs lo hi).fab = s.fab := rfl
@[simp] theorem Device.resetRegs_boot (lo hi : Nat) : (s.resetRegs lo hi).boot = s.boot := rfl
@[simp] theorem Device.resetRegs_pwr (lo hi : Nat) : (s.resetRegs lo hi).pwr = s.pwr := rfl
@[simp] theorem Device.resetRegs_thm (lo hi : Nat) : (s.resetRegs lo hi).thm = s.thm := rfl
@[simp] theorem Device.resetRegs_ctl (lo hi : Nat) : (s.resetRegs lo hi).ctl = s.ctl := rfl
@[simp] theorem Device.resetRegs_cds (lo hi : Nat) : (s.resetRegs lo hi).cds = s.cds := rfl
@[simp] theorem Device.resetRegs_led (lo hi : Nat) : (s.resetRegs lo hi).led = s.led := rfl
@[simp] theorem Device.resetRegs_out (lo hi : Nat) : (s.resetRegs lo hi).out = s.out := rfl

@[simp] theorem Device.emit_now (o : Out) : (s.emit o).now = s.now := rfl
@[simp] theorem Device.emit_free (o : Out) : (s.emit o).free = s.free := rfl
@[simp] theorem Device.emit_regs (o : Out) : (s.emit o).regs = s.regs := rfl
@[simp] theorem Device.emit_energy (o : Out) : (s.emit o).energy = s.energy := rfl
@[simp] theorem Device.emit_tiles (o : Out) : (s.emit o).tiles = s.tiles := rfl
@[simp] theorem Device.emit_dies (o : Out) : (s.emit o).dies = s.dies := rfl
@[simp] theorem Device.emit_reqs (o : Out) : (s.emit o).reqs = s.reqs := rfl
@[simp] theorem Device.emit_gone (o : Out) : (s.emit o).gone = s.gone := rfl
@[simp] theorem Device.emit_nextId (o : Out) : (s.emit o).nextId = s.nextId := rfl
@[simp] theorem Device.emit_ports (o : Out) : (s.emit o).ports = s.ports := rfl
@[simp] theorem Device.emit_fr (o : Out) : (s.emit o).fr = s.fr := rfl
@[simp] theorem Device.emit_pln (o : Out) : (s.emit o).pln = s.pln := rfl
@[simp] theorem Device.emit_mem (o : Out) : (s.emit o).mem = s.mem := rfl
@[simp] theorem Device.emit_fab (o : Out) : (s.emit o).fab = s.fab := rfl
@[simp] theorem Device.emit_boot (o : Out) : (s.emit o).boot = s.boot := rfl
@[simp] theorem Device.emit_pwr (o : Out) : (s.emit o).pwr = s.pwr := rfl
@[simp] theorem Device.emit_thm (o : Out) : (s.emit o).thm = s.thm := rfl
@[simp] theorem Device.emit_ctl (o : Out) : (s.emit o).ctl = s.ctl := rfl
@[simp] theorem Device.emit_cds (o : Out) : (s.emit o).cds = s.cds := rfl
@[simp] theorem Device.emit_led (o : Out) : (s.emit o).led = s.led := rfl
@[simp] theorem Device.emit_out (o : Out) : (s.emit o).out = s.out ++ [o] := rfl

@[simp] theorem Device.setTile_now (c t : Nat) (x : Tile) : (s.setTile c t x).now = s.now := rfl
@[simp] theorem Device.setTile_free (c t : Nat) (x : Tile) : (s.setTile c t x).free = s.free := rfl
@[simp] theorem Device.setTile_regs (c t : Nat) (x : Tile) : (s.setTile c t x).regs = s.regs := rfl
@[simp] theorem Device.setTile_energy (c t : Nat) (x : Tile) : (s.setTile c t x).energy = s.energy := rfl
@[simp] theorem Device.setTile_dies (c t : Nat) (x : Tile) : (s.setTile c t x).dies = s.dies := rfl
@[simp] theorem Device.setTile_reqs (c t : Nat) (x : Tile) : (s.setTile c t x).reqs = s.reqs := rfl
@[simp] theorem Device.setTile_gone (c t : Nat) (x : Tile) : (s.setTile c t x).gone = s.gone := rfl
@[simp] theorem Device.setTile_nextId (c t : Nat) (x : Tile) : (s.setTile c t x).nextId = s.nextId := rfl
@[simp] theorem Device.setTile_ports (c t : Nat) (x : Tile) : (s.setTile c t x).ports = s.ports := rfl
@[simp] theorem Device.setTile_fr (c t : Nat) (x : Tile) : (s.setTile c t x).fr = s.fr := rfl
@[simp] theorem Device.setTile_pln (c t : Nat) (x : Tile) : (s.setTile c t x).pln = s.pln := rfl
@[simp] theorem Device.setTile_mem (c t : Nat) (x : Tile) : (s.setTile c t x).mem = s.mem := rfl
@[simp] theorem Device.setTile_fab (c t : Nat) (x : Tile) : (s.setTile c t x).fab = s.fab := rfl
@[simp] theorem Device.setTile_boot (c t : Nat) (x : Tile) : (s.setTile c t x).boot = s.boot := rfl
@[simp] theorem Device.setTile_pwr (c t : Nat) (x : Tile) : (s.setTile c t x).pwr = s.pwr := rfl
@[simp] theorem Device.setTile_thm (c t : Nat) (x : Tile) : (s.setTile c t x).thm = s.thm := rfl
@[simp] theorem Device.setTile_ctl (c t : Nat) (x : Tile) : (s.setTile c t x).ctl = s.ctl := rfl
@[simp] theorem Device.setTile_cds (c t : Nat) (x : Tile) : (s.setTile c t x).cds = s.cds := rfl
@[simp] theorem Device.setTile_led (c t : Nat) (x : Tile) : (s.setTile c t x).led = s.led := rfl
@[simp] theorem Device.setTile_out (c t : Nat) (x : Tile) : (s.setTile c t x).out = s.out := rfl

@[simp] theorem Device.modTile_now (c t : Nat) (f : Tile → Tile) : (s.modTile c t f).now = s.now := rfl
@[simp] theorem Device.modTile_free (c t : Nat) (f : Tile → Tile) : (s.modTile c t f).free = s.free := rfl
@[simp] theorem Device.modTile_regs (c t : Nat) (f : Tile → Tile) : (s.modTile c t f).regs = s.regs := rfl
@[simp] theorem Device.modTile_energy (c t : Nat) (f : Tile → Tile) : (s.modTile c t f).energy = s.energy := rfl
@[simp] theorem Device.modTile_dies (c t : Nat) (f : Tile → Tile) : (s.modTile c t f).dies = s.dies := rfl
@[simp] theorem Device.modTile_reqs (c t : Nat) (f : Tile → Tile) : (s.modTile c t f).reqs = s.reqs := rfl
@[simp] theorem Device.modTile_gone (c t : Nat) (f : Tile → Tile) : (s.modTile c t f).gone = s.gone := rfl
@[simp] theorem Device.modTile_nextId (c t : Nat) (f : Tile → Tile) : (s.modTile c t f).nextId = s.nextId := rfl
@[simp] theorem Device.modTile_ports (c t : Nat) (f : Tile → Tile) : (s.modTile c t f).ports = s.ports := rfl
@[simp] theorem Device.modTile_fr (c t : Nat) (f : Tile → Tile) : (s.modTile c t f).fr = s.fr := rfl
@[simp] theorem Device.modTile_pln (c t : Nat) (f : Tile → Tile) : (s.modTile c t f).pln = s.pln := rfl
@[simp] theorem Device.modTile_mem (c t : Nat) (f : Tile → Tile) : (s.modTile c t f).mem = s.mem := rfl
@[simp] theorem Device.modTile_fab (c t : Nat) (f : Tile → Tile) : (s.modTile c t f).fab = s.fab := rfl
@[simp] theorem Device.modTile_boot (c t : Nat) (f : Tile → Tile) : (s.modTile c t f).boot = s.boot := rfl
@[simp] theorem Device.modTile_pwr (c t : Nat) (f : Tile → Tile) : (s.modTile c t f).pwr = s.pwr := rfl
@[simp] theorem Device.modTile_thm (c t : Nat) (f : Tile → Tile) : (s.modTile c t f).thm = s.thm := rfl
@[simp] theorem Device.modTile_ctl (c t : Nat) (f : Tile → Tile) : (s.modTile c t f).ctl = s.ctl := rfl
@[simp] theorem Device.modTile_cds (c t : Nat) (f : Tile → Tile) : (s.modTile c t f).cds = s.cds := rfl
@[simp] theorem Device.modTile_led (c t : Nat) (f : Tile → Tile) : (s.modTile c t f).led = s.led := rfl
@[simp] theorem Device.modTile_out (c t : Nat) (f : Tile → Tile) : (s.modTile c t f).out = s.out := rfl

@[simp] theorem Device.modThread_now (c t n : Nat) (f : Thread → Thread) : (s.modThread c t n f).now = s.now := rfl
@[simp] theorem Device.modThread_free (c t n : Nat) (f : Thread → Thread) : (s.modThread c t n f).free = s.free := rfl
@[simp] theorem Device.modThread_regs (c t n : Nat) (f : Thread → Thread) : (s.modThread c t n f).regs = s.regs := rfl
@[simp] theorem Device.modThread_energy (c t n : Nat) (f : Thread → Thread) : (s.modThread c t n f).energy = s.energy := rfl
@[simp] theorem Device.modThread_dies (c t n : Nat) (f : Thread → Thread) : (s.modThread c t n f).dies = s.dies := rfl
@[simp] theorem Device.modThread_reqs (c t n : Nat) (f : Thread → Thread) : (s.modThread c t n f).reqs = s.reqs := rfl
@[simp] theorem Device.modThread_gone (c t n : Nat) (f : Thread → Thread) : (s.modThread c t n f).gone = s.gone := rfl
@[simp] theorem Device.modThread_nextId (c t n : Nat) (f : Thread → Thread) : (s.modThread c t n f).nextId = s.nextId := rfl
@[simp] theorem Device.modThread_ports (c t n : Nat) (f : Thread → Thread) : (s.modThread c t n f).ports = s.ports := rfl
@[simp] theorem Device.modThread_fr (c t n : Nat) (f : Thread → Thread) : (s.modThread c t n f).fr = s.fr := rfl
@[simp] theorem Device.modThread_pln (c t n : Nat) (f : Thread → Thread) : (s.modThread c t n f).pln = s.pln := rfl
@[simp] theorem Device.modThread_mem (c t n : Nat) (f : Thread → Thread) : (s.modThread c t n f).mem = s.mem := rfl
@[simp] theorem Device.modThread_fab (c t n : Nat) (f : Thread → Thread) : (s.modThread c t n f).fab = s.fab := rfl
@[simp] theorem Device.modThread_boot (c t n : Nat) (f : Thread → Thread) : (s.modThread c t n f).boot = s.boot := rfl
@[simp] theorem Device.modThread_pwr (c t n : Nat) (f : Thread → Thread) : (s.modThread c t n f).pwr = s.pwr := rfl
@[simp] theorem Device.modThread_thm (c t n : Nat) (f : Thread → Thread) : (s.modThread c t n f).thm = s.thm := rfl
@[simp] theorem Device.modThread_ctl (c t n : Nat) (f : Thread → Thread) : (s.modThread c t n f).ctl = s.ctl := rfl
@[simp] theorem Device.modThread_cds (c t n : Nat) (f : Thread → Thread) : (s.modThread c t n f).cds = s.cds := rfl
@[simp] theorem Device.modThread_led (c t n : Nat) (f : Thread → Thread) : (s.modThread c t n f).led = s.led := rfl
@[simp] theorem Device.modThread_out (c t n : Nat) (f : Thread → Thread) : (s.modThread c t n f).out = s.out := rfl

@[simp] theorem Device.modDie_now (c : Nat) (f : Die → Die) : (s.modDie c f).now = s.now := rfl
@[simp] theorem Device.modDie_free (c : Nat) (f : Die → Die) : (s.modDie c f).free = s.free := rfl
@[simp] theorem Device.modDie_regs (c : Nat) (f : Die → Die) : (s.modDie c f).regs = s.regs := rfl
@[simp] theorem Device.modDie_energy (c : Nat) (f : Die → Die) : (s.modDie c f).energy = s.energy := rfl
@[simp] theorem Device.modDie_tiles (c : Nat) (f : Die → Die) : (s.modDie c f).tiles = s.tiles := rfl
@[simp] theorem Device.modDie_reqs (c : Nat) (f : Die → Die) : (s.modDie c f).reqs = s.reqs := rfl
@[simp] theorem Device.modDie_gone (c : Nat) (f : Die → Die) : (s.modDie c f).gone = s.gone := rfl
@[simp] theorem Device.modDie_nextId (c : Nat) (f : Die → Die) : (s.modDie c f).nextId = s.nextId := rfl
@[simp] theorem Device.modDie_ports (c : Nat) (f : Die → Die) : (s.modDie c f).ports = s.ports := rfl
@[simp] theorem Device.modDie_fr (c : Nat) (f : Die → Die) : (s.modDie c f).fr = s.fr := rfl
@[simp] theorem Device.modDie_pln (c : Nat) (f : Die → Die) : (s.modDie c f).pln = s.pln := rfl
@[simp] theorem Device.modDie_mem (c : Nat) (f : Die → Die) : (s.modDie c f).mem = s.mem := rfl
@[simp] theorem Device.modDie_fab (c : Nat) (f : Die → Die) : (s.modDie c f).fab = s.fab := rfl
@[simp] theorem Device.modDie_boot (c : Nat) (f : Die → Die) : (s.modDie c f).boot = s.boot := rfl
@[simp] theorem Device.modDie_pwr (c : Nat) (f : Die → Die) : (s.modDie c f).pwr = s.pwr := rfl
@[simp] theorem Device.modDie_thm (c : Nat) (f : Die → Die) : (s.modDie c f).thm = s.thm := rfl
@[simp] theorem Device.modDie_ctl (c : Nat) (f : Die → Die) : (s.modDie c f).ctl = s.ctl := rfl
@[simp] theorem Device.modDie_cds (c : Nat) (f : Die → Die) : (s.modDie c f).cds = s.cds := rfl
@[simp] theorem Device.modDie_led (c : Nat) (f : Die → Die) : (s.modDie c f).led = s.led := rfl
@[simp] theorem Device.modDie_out (c : Nat) (f : Die → Die) : (s.modDie c f).out = s.out := rfl

@[simp] theorem Device.modPort_now (p : Nat) (f : Port → Port) : (s.modPort p f).now = s.now := rfl
@[simp] theorem Device.modPort_free (p : Nat) (f : Port → Port) : (s.modPort p f).free = s.free := rfl
@[simp] theorem Device.modPort_regs (p : Nat) (f : Port → Port) : (s.modPort p f).regs = s.regs := rfl
@[simp] theorem Device.modPort_energy (p : Nat) (f : Port → Port) : (s.modPort p f).energy = s.energy := rfl
@[simp] theorem Device.modPort_tiles (p : Nat) (f : Port → Port) : (s.modPort p f).tiles = s.tiles := rfl
@[simp] theorem Device.modPort_dies (p : Nat) (f : Port → Port) : (s.modPort p f).dies = s.dies := rfl
@[simp] theorem Device.modPort_reqs (p : Nat) (f : Port → Port) : (s.modPort p f).reqs = s.reqs := rfl
@[simp] theorem Device.modPort_gone (p : Nat) (f : Port → Port) : (s.modPort p f).gone = s.gone := rfl
@[simp] theorem Device.modPort_nextId (p : Nat) (f : Port → Port) : (s.modPort p f).nextId = s.nextId := rfl
@[simp] theorem Device.modPort_fr (p : Nat) (f : Port → Port) : (s.modPort p f).fr = s.fr := rfl
@[simp] theorem Device.modPort_pln (p : Nat) (f : Port → Port) : (s.modPort p f).pln = s.pln := rfl
@[simp] theorem Device.modPort_mem (p : Nat) (f : Port → Port) : (s.modPort p f).mem = s.mem := rfl
@[simp] theorem Device.modPort_fab (p : Nat) (f : Port → Port) : (s.modPort p f).fab = s.fab := rfl
@[simp] theorem Device.modPort_boot (p : Nat) (f : Port → Port) : (s.modPort p f).boot = s.boot := rfl
@[simp] theorem Device.modPort_pwr (p : Nat) (f : Port → Port) : (s.modPort p f).pwr = s.pwr := rfl
@[simp] theorem Device.modPort_thm (p : Nat) (f : Port → Port) : (s.modPort p f).thm = s.thm := rfl
@[simp] theorem Device.modPort_ctl (p : Nat) (f : Port → Port) : (s.modPort p f).ctl = s.ctl := rfl
@[simp] theorem Device.modPort_cds (p : Nat) (f : Port → Port) : (s.modPort p f).cds = s.cds := rfl
@[simp] theorem Device.modPort_led (p : Nat) (f : Port → Port) : (s.modPort p f).led = s.led := rfl
@[simp] theorem Device.modPort_out (p : Nat) (f : Port → Port) : (s.modPort p f).out = s.out := rfl

@[simp] theorem Device.modFr_now (f : Frames → Frames) : (s.modFr f).now = s.now := rfl
@[simp] theorem Device.modFr_free (f : Frames → Frames) : (s.modFr f).free = s.free := rfl
@[simp] theorem Device.modFr_regs (f : Frames → Frames) : (s.modFr f).regs = s.regs := rfl
@[simp] theorem Device.modFr_energy (f : Frames → Frames) : (s.modFr f).energy = s.energy := rfl
@[simp] theorem Device.modFr_tiles (f : Frames → Frames) : (s.modFr f).tiles = s.tiles := rfl
@[simp] theorem Device.modFr_dies (f : Frames → Frames) : (s.modFr f).dies = s.dies := rfl
@[simp] theorem Device.modFr_reqs (f : Frames → Frames) : (s.modFr f).reqs = s.reqs := rfl
@[simp] theorem Device.modFr_gone (f : Frames → Frames) : (s.modFr f).gone = s.gone := rfl
@[simp] theorem Device.modFr_nextId (f : Frames → Frames) : (s.modFr f).nextId = s.nextId := rfl
@[simp] theorem Device.modFr_ports (f : Frames → Frames) : (s.modFr f).ports = s.ports := rfl
@[simp] theorem Device.modFr_fr (f : Frames → Frames) : (s.modFr f).fr = f s.fr := rfl
@[simp] theorem Device.modFr_pln (f : Frames → Frames) : (s.modFr f).pln = s.pln := rfl
@[simp] theorem Device.modFr_mem (f : Frames → Frames) : (s.modFr f).mem = s.mem := rfl
@[simp] theorem Device.modFr_fab (f : Frames → Frames) : (s.modFr f).fab = s.fab := rfl
@[simp] theorem Device.modFr_boot (f : Frames → Frames) : (s.modFr f).boot = s.boot := rfl
@[simp] theorem Device.modFr_pwr (f : Frames → Frames) : (s.modFr f).pwr = s.pwr := rfl
@[simp] theorem Device.modFr_thm (f : Frames → Frames) : (s.modFr f).thm = s.thm := rfl
@[simp] theorem Device.modFr_ctl (f : Frames → Frames) : (s.modFr f).ctl = s.ctl := rfl
@[simp] theorem Device.modFr_cds (f : Frames → Frames) : (s.modFr f).cds = s.cds := rfl
@[simp] theorem Device.modFr_led (f : Frames → Frames) : (s.modFr f).led = s.led := rfl
@[simp] theorem Device.modFr_out (f : Frames → Frames) : (s.modFr f).out = s.out := rfl

@[simp] theorem Device.modMem_now (f : Memory → Memory) : (s.modMem f).now = s.now := rfl
@[simp] theorem Device.modMem_free (f : Memory → Memory) : (s.modMem f).free = s.free := rfl
@[simp] theorem Device.modMem_regs (f : Memory → Memory) : (s.modMem f).regs = s.regs := rfl
@[simp] theorem Device.modMem_energy (f : Memory → Memory) : (s.modMem f).energy = s.energy := rfl
@[simp] theorem Device.modMem_tiles (f : Memory → Memory) : (s.modMem f).tiles = s.tiles := rfl
@[simp] theorem Device.modMem_dies (f : Memory → Memory) : (s.modMem f).dies = s.dies := rfl
@[simp] theorem Device.modMem_reqs (f : Memory → Memory) : (s.modMem f).reqs = s.reqs := rfl
@[simp] theorem Device.modMem_gone (f : Memory → Memory) : (s.modMem f).gone = s.gone := rfl
@[simp] theorem Device.modMem_nextId (f : Memory → Memory) : (s.modMem f).nextId = s.nextId := rfl
@[simp] theorem Device.modMem_ports (f : Memory → Memory) : (s.modMem f).ports = s.ports := rfl
@[simp] theorem Device.modMem_fr (f : Memory → Memory) : (s.modMem f).fr = s.fr := rfl
@[simp] theorem Device.modMem_pln (f : Memory → Memory) : (s.modMem f).pln = s.pln := rfl
@[simp] theorem Device.modMem_mem (f : Memory → Memory) : (s.modMem f).mem = f s.mem := rfl
@[simp] theorem Device.modMem_fab (f : Memory → Memory) : (s.modMem f).fab = s.fab := rfl
@[simp] theorem Device.modMem_boot (f : Memory → Memory) : (s.modMem f).boot = s.boot := rfl
@[simp] theorem Device.modMem_pwr (f : Memory → Memory) : (s.modMem f).pwr = s.pwr := rfl
@[simp] theorem Device.modMem_thm (f : Memory → Memory) : (s.modMem f).thm = s.thm := rfl
@[simp] theorem Device.modMem_ctl (f : Memory → Memory) : (s.modMem f).ctl = s.ctl := rfl
@[simp] theorem Device.modMem_cds (f : Memory → Memory) : (s.modMem f).cds = s.cds := rfl
@[simp] theorem Device.modMem_led (f : Memory → Memory) : (s.modMem f).led = s.led := rfl
@[simp] theorem Device.modMem_out (f : Memory → Memory) : (s.modMem f).out = s.out := rfl

@[simp] theorem Device.modPln_now (f : Plinth → Plinth) : (s.modPln f).now = s.now := rfl
@[simp] theorem Device.modPln_free (f : Plinth → Plinth) : (s.modPln f).free = s.free := rfl
@[simp] theorem Device.modPln_regs (f : Plinth → Plinth) : (s.modPln f).regs = s.regs := rfl
@[simp] theorem Device.modPln_energy (f : Plinth → Plinth) : (s.modPln f).energy = s.energy := rfl
@[simp] theorem Device.modPln_tiles (f : Plinth → Plinth) : (s.modPln f).tiles = s.tiles := rfl
@[simp] theorem Device.modPln_dies (f : Plinth → Plinth) : (s.modPln f).dies = s.dies := rfl
@[simp] theorem Device.modPln_reqs (f : Plinth → Plinth) : (s.modPln f).reqs = s.reqs := rfl
@[simp] theorem Device.modPln_gone (f : Plinth → Plinth) : (s.modPln f).gone = s.gone := rfl
@[simp] theorem Device.modPln_nextId (f : Plinth → Plinth) : (s.modPln f).nextId = s.nextId := rfl
@[simp] theorem Device.modPln_ports (f : Plinth → Plinth) : (s.modPln f).ports = s.ports := rfl
@[simp] theorem Device.modPln_fr (f : Plinth → Plinth) : (s.modPln f).fr = s.fr := rfl
@[simp] theorem Device.modPln_pln (f : Plinth → Plinth) : (s.modPln f).pln = f s.pln := rfl
@[simp] theorem Device.modPln_mem (f : Plinth → Plinth) : (s.modPln f).mem = s.mem := rfl
@[simp] theorem Device.modPln_fab (f : Plinth → Plinth) : (s.modPln f).fab = s.fab := rfl
@[simp] theorem Device.modPln_boot (f : Plinth → Plinth) : (s.modPln f).boot = s.boot := rfl
@[simp] theorem Device.modPln_pwr (f : Plinth → Plinth) : (s.modPln f).pwr = s.pwr := rfl
@[simp] theorem Device.modPln_thm (f : Plinth → Plinth) : (s.modPln f).thm = s.thm := rfl
@[simp] theorem Device.modPln_ctl (f : Plinth → Plinth) : (s.modPln f).ctl = s.ctl := rfl
@[simp] theorem Device.modPln_cds (f : Plinth → Plinth) : (s.modPln f).cds = s.cds := rfl
@[simp] theorem Device.modPln_led (f : Plinth → Plinth) : (s.modPln f).led = s.led := rfl
@[simp] theorem Device.modPln_out (f : Plinth → Plinth) : (s.modPln f).out = s.out := rfl

@[simp] theorem Device.modFab_now (f : Fabric → Fabric) : (s.modFab f).now = s.now := rfl
@[simp] theorem Device.modFab_free (f : Fabric → Fabric) : (s.modFab f).free = s.free := rfl
@[simp] theorem Device.modFab_regs (f : Fabric → Fabric) : (s.modFab f).regs = s.regs := rfl
@[simp] theorem Device.modFab_energy (f : Fabric → Fabric) : (s.modFab f).energy = s.energy := rfl
@[simp] theorem Device.modFab_tiles (f : Fabric → Fabric) : (s.modFab f).tiles = s.tiles := rfl
@[simp] theorem Device.modFab_dies (f : Fabric → Fabric) : (s.modFab f).dies = s.dies := rfl
@[simp] theorem Device.modFab_reqs (f : Fabric → Fabric) : (s.modFab f).reqs = s.reqs := rfl
@[simp] theorem Device.modFab_gone (f : Fabric → Fabric) : (s.modFab f).gone = s.gone := rfl
@[simp] theorem Device.modFab_nextId (f : Fabric → Fabric) : (s.modFab f).nextId = s.nextId := rfl
@[simp] theorem Device.modFab_ports (f : Fabric → Fabric) : (s.modFab f).ports = s.ports := rfl
@[simp] theorem Device.modFab_fr (f : Fabric → Fabric) : (s.modFab f).fr = s.fr := rfl
@[simp] theorem Device.modFab_pln (f : Fabric → Fabric) : (s.modFab f).pln = s.pln := rfl
@[simp] theorem Device.modFab_mem (f : Fabric → Fabric) : (s.modFab f).mem = s.mem := rfl
@[simp] theorem Device.modFab_fab (f : Fabric → Fabric) : (s.modFab f).fab = f s.fab := rfl
@[simp] theorem Device.modFab_boot (f : Fabric → Fabric) : (s.modFab f).boot = s.boot := rfl
@[simp] theorem Device.modFab_pwr (f : Fabric → Fabric) : (s.modFab f).pwr = s.pwr := rfl
@[simp] theorem Device.modFab_thm (f : Fabric → Fabric) : (s.modFab f).thm = s.thm := rfl
@[simp] theorem Device.modFab_ctl (f : Fabric → Fabric) : (s.modFab f).ctl = s.ctl := rfl
@[simp] theorem Device.modFab_cds (f : Fabric → Fabric) : (s.modFab f).cds = s.cds := rfl
@[simp] theorem Device.modFab_led (f : Fabric → Fabric) : (s.modFab f).led = s.led := rfl
@[simp] theorem Device.modFab_out (f : Fabric → Fabric) : (s.modFab f).out = s.out := rfl

@[simp] theorem Device.modCtl_now (f : Control → Control) : (s.modCtl f).now = s.now := rfl
@[simp] theorem Device.modCtl_free (f : Control → Control) : (s.modCtl f).free = s.free := rfl
@[simp] theorem Device.modCtl_regs (f : Control → Control) : (s.modCtl f).regs = s.regs := rfl
@[simp] theorem Device.modCtl_energy (f : Control → Control) : (s.modCtl f).energy = s.energy := rfl
@[simp] theorem Device.modCtl_tiles (f : Control → Control) : (s.modCtl f).tiles = s.tiles := rfl
@[simp] theorem Device.modCtl_dies (f : Control → Control) : (s.modCtl f).dies = s.dies := rfl
@[simp] theorem Device.modCtl_reqs (f : Control → Control) : (s.modCtl f).reqs = s.reqs := rfl
@[simp] theorem Device.modCtl_gone (f : Control → Control) : (s.modCtl f).gone = s.gone := rfl
@[simp] theorem Device.modCtl_nextId (f : Control → Control) : (s.modCtl f).nextId = s.nextId := rfl
@[simp] theorem Device.modCtl_ports (f : Control → Control) : (s.modCtl f).ports = s.ports := rfl
@[simp] theorem Device.modCtl_fr (f : Control → Control) : (s.modCtl f).fr = s.fr := rfl
@[simp] theorem Device.modCtl_pln (f : Control → Control) : (s.modCtl f).pln = s.pln := rfl
@[simp] theorem Device.modCtl_mem (f : Control → Control) : (s.modCtl f).mem = s.mem := rfl
@[simp] theorem Device.modCtl_fab (f : Control → Control) : (s.modCtl f).fab = s.fab := rfl
@[simp] theorem Device.modCtl_boot (f : Control → Control) : (s.modCtl f).boot = s.boot := rfl
@[simp] theorem Device.modCtl_pwr (f : Control → Control) : (s.modCtl f).pwr = s.pwr := rfl
@[simp] theorem Device.modCtl_thm (f : Control → Control) : (s.modCtl f).thm = s.thm := rfl
@[simp] theorem Device.modCtl_ctl (f : Control → Control) : (s.modCtl f).ctl = f s.ctl := rfl
@[simp] theorem Device.modCtl_cds (f : Control → Control) : (s.modCtl f).cds = s.cds := rfl
@[simp] theorem Device.modCtl_led (f : Control → Control) : (s.modCtl f).led = s.led := rfl
@[simp] theorem Device.modCtl_out (f : Control → Control) : (s.modCtl f).out = s.out := rfl

@[simp] theorem Device.modBoot_now (f : Boot → Boot) : (s.modBoot f).now = s.now := rfl
@[simp] theorem Device.modBoot_free (f : Boot → Boot) : (s.modBoot f).free = s.free := rfl
@[simp] theorem Device.modBoot_regs (f : Boot → Boot) : (s.modBoot f).regs = s.regs := rfl
@[simp] theorem Device.modBoot_energy (f : Boot → Boot) : (s.modBoot f).energy = s.energy := rfl
@[simp] theorem Device.modBoot_tiles (f : Boot → Boot) : (s.modBoot f).tiles = s.tiles := rfl
@[simp] theorem Device.modBoot_dies (f : Boot → Boot) : (s.modBoot f).dies = s.dies := rfl
@[simp] theorem Device.modBoot_reqs (f : Boot → Boot) : (s.modBoot f).reqs = s.reqs := rfl
@[simp] theorem Device.modBoot_gone (f : Boot → Boot) : (s.modBoot f).gone = s.gone := rfl
@[simp] theorem Device.modBoot_nextId (f : Boot → Boot) : (s.modBoot f).nextId = s.nextId := rfl
@[simp] theorem Device.modBoot_ports (f : Boot → Boot) : (s.modBoot f).ports = s.ports := rfl
@[simp] theorem Device.modBoot_fr (f : Boot → Boot) : (s.modBoot f).fr = s.fr := rfl
@[simp] theorem Device.modBoot_pln (f : Boot → Boot) : (s.modBoot f).pln = s.pln := rfl
@[simp] theorem Device.modBoot_mem (f : Boot → Boot) : (s.modBoot f).mem = s.mem := rfl
@[simp] theorem Device.modBoot_fab (f : Boot → Boot) : (s.modBoot f).fab = s.fab := rfl
@[simp] theorem Device.modBoot_boot (f : Boot → Boot) : (s.modBoot f).boot = f s.boot := rfl
@[simp] theorem Device.modBoot_pwr (f : Boot → Boot) : (s.modBoot f).pwr = s.pwr := rfl
@[simp] theorem Device.modBoot_thm (f : Boot → Boot) : (s.modBoot f).thm = s.thm := rfl
@[simp] theorem Device.modBoot_ctl (f : Boot → Boot) : (s.modBoot f).ctl = s.ctl := rfl
@[simp] theorem Device.modBoot_cds (f : Boot → Boot) : (s.modBoot f).cds = s.cds := rfl
@[simp] theorem Device.modBoot_led (f : Boot → Boot) : (s.modBoot f).led = s.led := rfl
@[simp] theorem Device.modBoot_out (f : Boot → Boot) : (s.modBoot f).out = s.out := rfl

@[simp] theorem Device.modPwr_now (f : Power → Power) : (s.modPwr f).now = s.now := rfl
@[simp] theorem Device.modPwr_free (f : Power → Power) : (s.modPwr f).free = s.free := rfl
@[simp] theorem Device.modPwr_regs (f : Power → Power) : (s.modPwr f).regs = s.regs := rfl
@[simp] theorem Device.modPwr_energy (f : Power → Power) : (s.modPwr f).energy = s.energy := rfl
@[simp] theorem Device.modPwr_tiles (f : Power → Power) : (s.modPwr f).tiles = s.tiles := rfl
@[simp] theorem Device.modPwr_dies (f : Power → Power) : (s.modPwr f).dies = s.dies := rfl
@[simp] theorem Device.modPwr_reqs (f : Power → Power) : (s.modPwr f).reqs = s.reqs := rfl
@[simp] theorem Device.modPwr_gone (f : Power → Power) : (s.modPwr f).gone = s.gone := rfl
@[simp] theorem Device.modPwr_nextId (f : Power → Power) : (s.modPwr f).nextId = s.nextId := rfl
@[simp] theorem Device.modPwr_ports (f : Power → Power) : (s.modPwr f).ports = s.ports := rfl
@[simp] theorem Device.modPwr_fr (f : Power → Power) : (s.modPwr f).fr = s.fr := rfl
@[simp] theorem Device.modPwr_pln (f : Power → Power) : (s.modPwr f).pln = s.pln := rfl
@[simp] theorem Device.modPwr_mem (f : Power → Power) : (s.modPwr f).mem = s.mem := rfl
@[simp] theorem Device.modPwr_fab (f : Power → Power) : (s.modPwr f).fab = s.fab := rfl
@[simp] theorem Device.modPwr_boot (f : Power → Power) : (s.modPwr f).boot = s.boot := rfl
@[simp] theorem Device.modPwr_pwr (f : Power → Power) : (s.modPwr f).pwr = f s.pwr := rfl
@[simp] theorem Device.modPwr_thm (f : Power → Power) : (s.modPwr f).thm = s.thm := rfl
@[simp] theorem Device.modPwr_ctl (f : Power → Power) : (s.modPwr f).ctl = s.ctl := rfl
@[simp] theorem Device.modPwr_cds (f : Power → Power) : (s.modPwr f).cds = s.cds := rfl
@[simp] theorem Device.modPwr_led (f : Power → Power) : (s.modPwr f).led = s.led := rfl
@[simp] theorem Device.modPwr_out (f : Power → Power) : (s.modPwr f).out = s.out := rfl

@[simp] theorem Device.modThm_now (f : Thermal → Thermal) : (s.modThm f).now = s.now := rfl
@[simp] theorem Device.modThm_free (f : Thermal → Thermal) : (s.modThm f).free = s.free := rfl
@[simp] theorem Device.modThm_regs (f : Thermal → Thermal) : (s.modThm f).regs = s.regs := rfl
@[simp] theorem Device.modThm_energy (f : Thermal → Thermal) : (s.modThm f).energy = s.energy := rfl
@[simp] theorem Device.modThm_tiles (f : Thermal → Thermal) : (s.modThm f).tiles = s.tiles := rfl
@[simp] theorem Device.modThm_dies (f : Thermal → Thermal) : (s.modThm f).dies = s.dies := rfl
@[simp] theorem Device.modThm_reqs (f : Thermal → Thermal) : (s.modThm f).reqs = s.reqs := rfl
@[simp] theorem Device.modThm_gone (f : Thermal → Thermal) : (s.modThm f).gone = s.gone := rfl
@[simp] theorem Device.modThm_nextId (f : Thermal → Thermal) : (s.modThm f).nextId = s.nextId := rfl
@[simp] theorem Device.modThm_ports (f : Thermal → Thermal) : (s.modThm f).ports = s.ports := rfl
@[simp] theorem Device.modThm_fr (f : Thermal → Thermal) : (s.modThm f).fr = s.fr := rfl
@[simp] theorem Device.modThm_pln (f : Thermal → Thermal) : (s.modThm f).pln = s.pln := rfl
@[simp] theorem Device.modThm_mem (f : Thermal → Thermal) : (s.modThm f).mem = s.mem := rfl
@[simp] theorem Device.modThm_fab (f : Thermal → Thermal) : (s.modThm f).fab = s.fab := rfl
@[simp] theorem Device.modThm_boot (f : Thermal → Thermal) : (s.modThm f).boot = s.boot := rfl
@[simp] theorem Device.modThm_pwr (f : Thermal → Thermal) : (s.modThm f).pwr = s.pwr := rfl
@[simp] theorem Device.modThm_thm (f : Thermal → Thermal) : (s.modThm f).thm = f s.thm := rfl
@[simp] theorem Device.modThm_ctl (f : Thermal → Thermal) : (s.modThm f).ctl = s.ctl := rfl
@[simp] theorem Device.modThm_cds (f : Thermal → Thermal) : (s.modThm f).cds = s.cds := rfl
@[simp] theorem Device.modThm_led (f : Thermal → Thermal) : (s.modThm f).led = s.led := rfl
@[simp] theorem Device.modThm_out (f : Thermal → Thermal) : (s.modThm f).out = s.out := rfl

/-! ## Tiles, dies, ports and threads -/

@[simp] theorem Device.setTile_same (c t : Nat) (x : Tile) : (s.setTile c t x).tile c t = x := NMap.get_set_same _ _ _ _

theorem Device.setTile_ne {c t c' t' : Nat} (x : Tile) (h : 272 * c' + t' ≠ 272 * c + t) :
    (s.setTile c t x).tile c' t' = s.tile c' t' := NMap.get_set_ne _ _ _ h

@[simp] theorem Device.modTile_same (c t : Nat) (f : Tile → Tile) : (s.modTile c t f).tile c t = f (s.tile c t) :=
  NMap.get_set_same _ _ _ _

theorem Device.modTile_ne {c t c' t' : Nat} (f : Tile → Tile) (h : 272 * c' + t' ≠ 272 * c + t) :
    (s.modTile c t f).tile c' t' = s.tile c' t' := NMap.get_set_ne _ _ _ h

@[simp] theorem Device.modDie_same (c : Nat) (f : Die → Die) : (s.modDie c f).die c = f (s.die c) := NMap.get_upd_same _ _ _ _

theorem Device.modDie_ne {c c' : Nat} (f : Die → Die) (h : c' ≠ c) : (s.modDie c f).die c' = s.die c' :=
  NMap.get_upd_ne _ _ _ h

@[simp] theorem Device.modPort_same (p : Nat) (f : Port → Port) : (s.modPort p f).port p = f (s.port p) :=
  NMap.get_upd_same _ _ _ _

theorem Device.modPort_ne {p p' : Nat} (f : Port → Port) (h : p' ≠ p) : (s.modPort p f).port p' = s.port p' :=
  NMap.get_upd_ne _ _ _ h

@[simp] theorem Tile.modThread_same (x : Tile) (n : Nat) (f : Thread → Thread) : (x.modThread n f).thread n = f (x.thread n) :=
  NMap.get_upd_same _ _ _ _

theorem Tile.modThread_ne (x : Tile) {n n' : Nat} (f : Thread → Thread) (h : n' ≠ n) :
    (x.modThread n f).thread n' = x.thread n' := NMap.get_upd_ne _ _ _ h

@[simp] theorem Device.modThread_same (c t n : Nat) (f : Thread → Thread) :
    (s.modThread c t n f).thread c t n = f (s.thread c t n) := by
  simp [Device.thread, Device.modThread]

theorem Device.modThread_ne (c t : Nat) {n n' : Nat} (f : Thread → Thread) (h : n' ≠ n) :
    (s.modThread c t n f).thread c t n' = s.thread c t n' := by
  simp [Device.thread, Device.modThread, Tile.modThread_ne _ f h]

theorem Device.modThread_tile_ne {c t c' t' : Nat} (n : Nat) (f : Thread → Thread) (h : 272 * c' + t' ≠ 272 * c + t) :
    (s.modThread c t n f).tile c' t' = s.tile c' t' := Device.modTile_ne s _ h

/-! ## Registers of a thread -/

@[simp] theorem Thread.gr_zero (th : Thread) : th.gr 0 = 0 := rfl

theorem Thread.gr_setG (th : Thread) (d n : Nat) (v : Word) :
    (th.setG d v).gr n = if n = 0 then 0 else if n = d then v else th.gr n := by
  by_cases hn : n = 0
  · simp [hn]
  · by_cases hd : d = 0
    · subst hd; simp [Thread.setG, hn]
    · by_cases h : n = d
      · subst h; simp [Thread.setG, Thread.gr, hn]
      · simp [Thread.setG, Thread.gr, hn, hd, h, NMap.get_set_ne _ _ _ h]

/-! ## C-space registers -/

@[simp] theorem Device.restAt_wr (k k' : RegKind) (b i b' i' v : Nat) : (s.wr k b i v).restAt k' b' i' = s.restAt k' b' i' := rfl

/-- A register read after it is written whole. -/
theorem Device.rd_wr_same (k : RegKind) (b i v : Nat) : (s.wr k b i v).rd k b i = v % 2 ^ 64 := by
  rw [Device.rd, Device.restAt_wr, Device.wr, NMap.get_set_same, BitVec.xor_assoc, BitVec.xor_self, BitVec.xor_zero,
    BitVec.toNat_ofNat]

/-- A write leaves every register at another offset alone. -/
theorem Device.rd_wr_ne {k k' : RegKind} {b i b' i' : Nat} (v : Nat) (h : k'.addr b' i' ≠ k.addr b i) :
    (s.wr k b i v).rd k' b' i' = s.rd k' b' i' := by
  rw [Device.rd, Device.restAt_wr, Device.wr, NMap.get_set_ne _ _ _ h, Device.rd]

theorem Device.fget_wr_ne {f : Fld} {k : RegKind} {b i b' i' : Nat} (v : Nat) (h : f.kind.addr b' i' ≠ k.addr b i) :
    (s.wr k b i v).fget f b' i' = s.fget f b' i' := by
  simp only [Device.fget, Device.rd_wr_ne s v h]

theorem Device.fget_fset_ne {f g : Fld} {b i b' i' : Nat} (v : Nat) (h : g.kind.addr b' i' ≠ f.kind.addr b i) :
    (s.fset f b i v).fget g b' i' = s.fget g b' i' := Device.fget_wr_ne s _ h

theorem Device.rd_lt (k : RegKind) (b i : Nat) : s.rd k b i < 2 ^ 64 := BitVec.isLt _

theorem Device.fget_lt (f : Fld) (b i : Nat) : s.fget f b i < 2 ^ f.w := Nat.mod_lt _ (Nat.two_pow_pos _)

/-! Bit fields of a number. -/

theorem setBits_eq (v lo w x : Nat) :
    setBits v lo w x = v % 2 ^ lo + 2 ^ lo * (x % 2 ^ w) + 2 ^ (lo + w) * (v / 2 ^ (lo + w)) := by
  have h1 : v = v % 2 ^ lo + 2 ^ lo * (v / 2 ^ lo) := (Nat.mod_add_div v (2 ^ lo)).symm
  have h2 : v / 2 ^ lo = v / 2 ^ lo % 2 ^ w + 2 ^ w * (v / 2 ^ lo / 2 ^ w) := (Nat.mod_add_div _ _).symm
  have h3 : v / 2 ^ (lo + w) = v / 2 ^ lo / 2 ^ w := by rw [Nat.pow_add, Nat.div_div_eq_div_mul]
  unfold setBits bits
  rw [h3, Nat.pow_add]
  generalize hq : v / 2 ^ lo / 2 ^ w = q at *
  generalize hm : v / 2 ^ lo % 2 ^ w = m at *
  generalize hr : v % 2 ^ lo = r at *
  rw [h2] at h1
  have : v = r + m * 2 ^ lo + 2 ^ lo * 2 ^ w * q := by
    rw [h1, Nat.mul_add]; ac_rfl
  rw [this, Nat.mul_comm (x % 2 ^ w)]
  have e : r + m * 2 ^ lo + 2 ^ lo * 2 ^ w * q - m * 2 ^ lo = r + 2 ^ lo * 2 ^ w * q := by omega
  rw [e]; ac_rfl

/-- A field read after it is set. -/
theorem bits_setBits_same (v lo w x : Nat) : bits (setBits v lo w x) lo w = x % 2 ^ w := by
  rw [setBits_eq, bits]
  have hp : 0 < 2 ^ lo := Nat.two_pow_pos lo
  have : v % 2 ^ lo + 2 ^ lo * (x % 2 ^ w) + 2 ^ (lo + w) * (v / 2 ^ (lo + w)) =
      v % 2 ^ lo + 2 ^ lo * (x % 2 ^ w + 2 ^ w * (v / 2 ^ (lo + w))) := by
    rw [Nat.pow_add, Nat.mul_add]; ac_rfl
  rw [this, Nat.add_mul_div_left _ _ hp, Nat.div_eq_of_lt (Nat.mod_lt _ hp), Nat.zero_add, Nat.add_mul_mod_self_left,
    Nat.mod_mod]

theorem testBit_setBits (v lo w x i : Nat) :
    (setBits v lo w x).testBit i = if lo ≤ i ∧ i < lo + w then x.testBit (i - lo) else v.testBit i := by
  rw [setBits_eq]
  have h1 : v % 2 ^ lo + 2 ^ lo * (x % 2 ^ w) + 2 ^ (lo + w) * (v / 2 ^ (lo + w)) =
      2 ^ lo * (2 ^ w * (v / 2 ^ (lo + w)) + x % 2 ^ w) + v % 2 ^ lo := by
    rw [Nat.pow_add, Nat.mul_add]; ac_rfl
  rw [h1, Nat.testBit_two_pow_mul_add _ (Nat.mod_lt _ (Nat.two_pow_pos lo)),
    Nat.testBit_two_pow_mul_add _ (Nat.mod_lt _ (Nat.two_pow_pos w))]
  by_cases a : i < lo
  · simp [a, Nat.testBit_mod_two_pow, show ¬ lo ≤ i by omega]
  · by_cases b : i - lo < w
    · simp [a, b, Nat.testBit_mod_two_pow, show lo ≤ i by omega, show i < lo + w by omega]
    · simp [a, b, show ¬ i < lo + w by omega, Nat.testBit_div_two_pow, show i - lo - w + (lo + w) = i by omega]

theorem testBit_bits (v lo w i : Nat) : (bits v lo w).testBit i = (decide (i < w) && v.testBit (i + lo)) := by
  rw [bits, Nat.testBit_mod_two_pow, Nat.testBit_div_two_pow]

/-- A field that does not overlap one that is set keeps its value. -/
theorem bits_setBits_ne (v lo w x : Nat) {lo' w' : Nat} (h : lo' + w' ≤ lo ∨ lo + w ≤ lo') :
    bits (setBits v lo w x) lo' w' = bits v lo' w' := by
  apply Nat.eq_of_testBit_eq
  intro i
  rw [testBit_bits, testBit_bits, testBit_setBits]
  by_cases hi : i < w'
  · rw [if_neg (by omega)]
  · simp [hi]

theorem bits_mod (v lo w n : Nat) (h : lo + w ≤ n) : bits (v % 2 ^ n) lo w = bits v lo w := by
  apply Nat.eq_of_testBit_eq
  intro i
  rw [testBit_bits, testBit_bits, Nat.testBit_mod_two_pow]
  by_cases hi : i < w
  · simp [hi, show i + lo < n by omega]
  · simp [hi]

theorem Device.fget_fset_same (f : Fld) (b i v : Nat) (h : f.lo + f.w ≤ 64) :
    (s.fset f b i v).fget f b i = v % 2 ^ f.w := by
  rw [Device.fget, Device.fset, Device.rd_wr_same, bits_mod _ _ _ _ h, bits_setBits_same]

theorem Device.fget_fset_apart {f g : Fld} (b i v : Nat) (hk : g.kind = f.kind) (h : g.lo + g.w ≤ f.lo ∨ f.lo + f.w ≤ g.lo)
    (hg : g.lo + g.w ≤ 64) : (s.fset f b i v).fget g b i = s.fget g b i := by
  rw [Device.fget, Device.fget, Device.fset, hk, Device.rd_wr_same, bits_mod _ _ _ _ hg, bits_setBits_ne _ _ _ _ h]

theorem Device.flag_setFlag_same (f : Fld) (b i : Nat) (v : Bool) (h : f.w = 1) (hl : f.lo < 64) :
    (s.setFlag f b i v).flag f b i = v := by
  rw [Device.flag, Device.setFlag, Device.fget_fset_same s f b i _ (by omega), h]
  cases v <;> rfl

end Sys2Proof.Machine
end

