-- ==== Sys2Proof/Laws/Issue.lean ====
section
/-! SUPPORT. Outcomes of commands, event counting (R136–R140) and the issue of an instruction (R91, R94): each shared operation's one
specification. -/

namespace Sys2Proof.Machine

/-! ## Outcomes -/

theorem onUnits_next {ok : Bool} (f : Device → Device) (s : State) (h : ok = true) :
    onUnits ok f s = .next { s with toDevice := f s.toDevice } := if_pos h

/-- A command on units that exist completes with its effect on the device. -/
theorem onUnits_does {ok : Bool} {f : Device → Device} {s : State} {P : Device → Prop} (h : ok = true)
    (hp : P (f s.toDevice)) : ∃ t, onUnits ok f s = .next t ∧ t.pending = s.pending ∧ P t.toDevice :=
  ⟨_, onUnits_next f s h, rfl, hp⟩

theorem onDevice_does {f : Device → Device} {s : State} {P : Device → Prop} (hp : P (f s.toDevice)) :
    ∃ t, onDevice f s = .next t ∧ t.pending = s.pending ∧ P t.toDevice := ⟨_, rfl, rfl, hp⟩

/-! ## Event counting -/

theorem Counted.refl (u : Device) (c i : Nat) : Counted u u c i :=
  ⟨rfl, fun _ _ => rfl, rfl, fun _ => rfl, fun _ _ => rfl, fun _ _ => rfl, fun _ => rfl⟩

/-- Counters stay enabled while events are counted. -/
theorem Counted.enable {u t : Device} {c i : Nat} (h : Counted u t c i) :
    t.flag F.tilePmctlEnable (272 * c + i) = u.flag F.tilePmctlEnable (272 * c + i) := by
  have : ¬ inCounters c i (RegKind.tilePmctl.addr (272 * c + i) 0) := by
    simp only [inCounters, RegKind.addr, RegKind.place]; omega
  simp only [Device.flag, Device.fget, Device.rd]
  rw [show F.tilePmctlEnable.kind = RegKind.tilePmctl from rfl, h.regs _ this]
  rfl

theorem Counted.trans {u t v : Device} {c i : Nat} (h : Counted u t c i) (g : Counted t v c i) : Counted u v c i where
  rest := by
    have h1 := h.rest; have g1 := g.rest
    rw [← h1, ← g1]
  others k hk := (g.others k hk).trans (h.others k hk)
  tile := by
    have h1 := h.tile; have g1 := g.tile
    rw [← h1, ← g1]
  threads n := by
    have h1 := h.threads n; have g1 := g.threads n
    rw [← h1, ← g1]
  regs off ho := (g.regs off ho).trans (h.regs off ho)
  energy a ha := (g.energy a ha).trans (h.energy a ha)
  off ho := by
    have ht := g.off (h.enable.trans ho)
    have hu := h.off ho
    rw [← ht] at hu
    exact hu

/-- A write of an event counter's register. -/
theorem Counted.wr (s : Device) (c i : Nat) (k : RegKind) (n v : Nat)
    (hk : inCounters c i (k.addr (272 * c + i) n)) (hon : s.flag F.tilePmctlEnable (272 * c + i) = true) :
    Counted s (s.wr k (272 * c + i) n v) c i where
  rest := rfl
  others _ _ := rfl
  tile := rfl
  threads _ := rfl
  regs off ho := NMap.get_set_ne _ _ _ (fun e => ho (e ▸ hk))
  energy _ _ := rfl
  off ho := by simp [hon] at ho

theorem inCounters_pmc (c i n : Nat) (h : n < 8) : inCounters c i (RegKind.tilePmc.addr (272 * c + i) n) := by
  simp only [inCounters, RegKind.addr, RegKind.place]
  have : n / 8 = 0 := by omega
  rw [this]
  omega

theorem inCounters_pmsel (c i n : Nat) (h : n < 8) : inCounters c i (RegKind.tilePmsel.addr (272 * c + i) n) := by
  simp only [inCounters, RegKind.addr, RegKind.place]
  have : n / 8 = 0 := by omega
  rw [this]
  omega

/-- A diversion of a thread to the sampling handler (R140). -/
theorem Counted.divert (s : Device) (c i n : Nat) (f : Thread → Thread)
    (hf : ∀ th, { f th with pc := th.pc, epc := th.epc, inHandler := th.inHandler } = th)
    (hon : s.flag F.tilePmctlEnable (272 * c + i) = true) : Counted s (s.modThread c i n f) c i where
  rest := rfl
  others k hk := NMap.get_set_ne _ _ _ hk
  tile := by simp [Device.modThread, Tile.modThread]
  threads m := by
    by_cases h : m = n
    · subst h; simp [hf]
    · rw [Device.modThread_ne _ _ _ _ h]
  regs _ _ := rfl
  energy _ _ := rfl
  off ho := by simp [hon] at ho

theorem counterWrap_counted (s : Device) (c i n : Nat) (h : n < 8)
    (hon : s.flag F.tilePmctlEnable (272 * c + i) = true) : Counted s (s.counterWrap c i n) c i := by
  have h1 : Counted s (s.setFlag F.tilePmselOvf (272 * c + i) n true) c i :=
    Counted.wr s c i .tilePmsel n _ (inCounters_pmsel c i n h) hon
  unfold Device.counterWrap
  simp only
  split
  · exact h1.trans (Counted.divert _ c i _ _ (fun _ => rfl) (h1.enable.trans hon))
  · exact h1

theorem countOne_counted (s : Device) (c i n k : Nat) (h : n < 8)
    (hon : s.flag F.tilePmctlEnable (272 * c + i) = true) : Counted s (s.countOne c i n k) c i := by
  have h1 : ∀ v, Counted s (s.fset F.tilePmcCount (272 * c + i) n v) c i := fun v =>
    Counted.wr s c i .tilePmc n _ (inCounters_pmc c i n h) hon
  unfold Device.countOne
  simp only
  split
  · exact h1 _
  · exact (h1 _).trans (counterWrap_counted _ c i n h ((h1 _).enable.trans hon))

/-- Energy added to an account of the tile. -/
theorem addEnergy_counted (s : Device) (c i a e : Nat) (h : tileAccount c i a) : Counted s (s.addEnergy a e) c i := by
  unfold Device.addEnergy
  split
  · exact Counted.refl s c i
  · exact ⟨rfl, fun _ _ => rfl, rfl, fun _ => rfl, fun _ _ => rfl,
      fun b hb => by
        have hn : b ≠ a := fun he => hb (he ▸ h)
        exact NMap.get_upd_ne 0 s.energy (· + e) hn, fun _ => rfl⟩

theorem spendTile_counted (s : Device) (c i k n : Nat) : Counted s (s.spendTile c i k n) c i := by
  unfold Device.spendTile
  simp only
  split
  · exact Counted.refl s c i
  · have h1 : ∀ a b, Counted s ((s.addEnergy (acStack c) a).addEnergy (acDrawn c) b) c i := fun a b =>
      (addEnergy_counted s c i _ _ (.inl rfl)).trans (addEnergy_counted _ c i _ _ (.inr (.inl rfl)))
    split
    · exact (h1 _ _).trans (addEnergy_counted _ c i _ _ (.inr (.inr rfl)))
    · exact h1 _ _

theorem spendEvent_counted (s : Device) (c i ev n : Nat) : Counted s (s.spendEvent c i ev n) c i := by
  unfold Device.spendEvent
  split
  · exact spendTile_counted _ _ _ _ _
  · exact Counted.refl s c i

/-- Counting events changes counters, and by sampling the threads' places, and nothing else. -/
theorem count_counted (s : Device) (c i ev arg k : Nat) : Counted s (s.count c i ev arg k) c i := by
  unfold Device.count
  simp only
  refine (spendEvent_counted s c i ev k).trans ?_
  generalize s.spendEvent c i ev k = s
  split
  · rename_i hc
    have hon : s.flag F.tilePmctlEnable (272 * c + i) = true := by simp at hc; exact hc.1
    have : ∀ (l : List Nat) (u : Device), (∀ n ∈ l, n < 8) → u.flag F.tilePmctlEnable (272 * c + i) = true →
        Counted u (l.foldl (fun s n => if s.selects (272 * c + i) n ev arg then s.countOne c i n k else s) u) c i := by
      intro l
      induction l with
      | nil => intro u _ _; exact Counted.refl u c i
      | cons n l ih =>
        intro u hl hu
        have hn : Counted u (if u.selects (272 * c + i) n ev arg then u.countOne c i n k else u) c i := by
          split
          · exact countOne_counted u c i n k (hl n List.mem_cons_self) hu
          · exact Counted.refl u c i
        exact hn.trans (ih _ (fun m hm => hl m (List.mem_cons_of_mem _ hm)) (hn.enable.trans hu))
    exact this _ s (fun n hn => List.mem_range.mp hn) hon
  · exact Counted.refl s c i

/-- What a thread holds is not changed by counting. -/
theorem Counted.gr {u t : Device} {c i : Nat} (h : Counted u t c i) (n r : Nat) :
    (t.thread c i n).gr r = (u.thread c i n).gr r := by
  rw [← h.threads n]; rfl

theorem Counted.vec {u t : Device} {c i : Nat} (h : Counted u t c i) (n r : Nat) :
    (t.thread c i n).vec r = (u.thread c i n).vec r := by
  rw [← h.threads n]; rfl

/-! ## Issue -/

/-- An instruction of a thread that issues it, and whose outcome is an effect, has that effect; its issue is counted. -/
theorem issue_done {s u : Device} {w : Who} {i : Instr} {body : Device → Issued} (h : s.issues w = true)
    (hw : encodeDocent i = some (s.wordAt w)) (hb : body (s.advance w) = .done u) :
    s.issue w i body = u.count w.c w.t evIssue 0 1 := by
  simp only [Device.issues, Bool.and_eq_true, Bool.not_eq_true', decide_eq_true_eq] at h
  obtain ⟨⟨⟨⟨-, h1⟩, h2⟩, h3⟩, h4⟩ := h
  have h3' := h3
  simp only [Device.thread] at h2 h3
  have hf : s.fetch w = .done s := by
    simp only [Device.fetch]
    rw [if_neg (by omega), if_neg (by simp [h3])]
  simp [Device.issue, h1, hf, h4, hw, hb, Device.conclude]

/-- A thread that does not issue does nothing. -/
theorem issue_idle {s : Device} {w : Who} (i : Instr) (body : Device → Issued) (h : s.canIssue w = false) :
    s.issue w i body = s := by
  simp [Device.issue, h]

/-- An instruction of fields of 5 bits, on a thread that issues it, with its effect `u`. -/
theorem docent_does {w : Who} {i : Instr} {rs : List Nat} {body : Device → Issued} {s : State} {u : Device} {P : Device → Prop}
    (h : s.toDevice.issues w = true) (hw : encodeDocent i = some (s.toDevice.wordAt w)) (hr : ∀ r ∈ rs, r < 32) (hb : body (s.toDevice.advance w) = .done u)
    (hp : ∀ t, Counted u t w.c w.t → P t) : ∃ t, docent i w rs body s = .next t ∧ t.pending = s.pending ∧ P t.toDevice := by
  refine onUnits_does ?_ ?_
  · have : w.ok = true := by simp only [Device.issues, Bool.and_eq_true] at h; exact h.1.1.1.1
    simpa [this] using hr
  · rw [issue_done h hw hb]
    exact hp _ (count_counted u _ _ _ _ _)

/-! What moving on leaves alone. -/

@[simp] theorem Device.reg_advance (s : Device) (w : Who) (n : Nat) : (s.advance w).reg w n = s.reg w n := by
  simp [Device.reg, Device.advance, Device.thread, Device.modThread, Thread.gr]
  rfl

end Sys2Proof.Machine
end

