-- ==== Sys2Proof/Laws/Memory.lean ====
section
/-! SUPPORT. The memory of the tiers: every operation that changes it keeps its canonical form, and the bytes that a line's
store changes. -/

namespace Sys2Proof.Machine

/-! ## Folds that keep a property -/

theorem foldl_keeps {α β : Type} {P : α → Prop} {f : α → β → α} (h : ∀ x b, P x → P (f x b)) (l : List β) {x : α}
    (hx : P x) : P (l.foldl f x) := by
  induction l generalizing x with
  | nil => exact hx
  | cons b l ih => exact ih (h x b hx)

/-! ## The canonical form (R239, R244) -/

theorem Memory.putLine_wf {m : Memory} (l : Nat) (data : Line) (en : Word) (h : m.wf) : (m.putLine l data en).wf := by
  refine foldl_keeps (P := fun b => NMap.wf 0 b) (fun b i hb => ?_) _ h
  split
  · exact NMap.wf_set _ _ hb
  · exact hb

theorem Memory.shutJoins_bytes (m : Memory) (l : Nat) : (m.shutJoins l).bytes = m.bytes := by
  unfold Memory.shutJoins
  split
  · rfl
  · rfl

theorem Memory.writeLine_wf {m : Memory} (l : Nat) (data : Line) (en : Word) (h : m.wf) : (m.writeLine l data en).wf := by
  unfold Memory.writeLine
  split
  · exact h
  · simp only
    split
    · exact (congrArg (NMap.wf 0) (Memory.shutJoins_bytes _ l)).mpr (Memory.putLine_wf _ _ _ h)
    · exact Memory.putLine_wf _ _ _ ((congrArg (NMap.wf 0) (Memory.shutJoins_bytes _ l)).mpr (Memory.putLine_wf _ _ _ h))

theorem Memory.writeAt_wf {m : Memory} (key : Nat) (bs : List Byte) (h : m.wf) : (m.writeAt key bs).wf :=
  foldl_keeps (P := Memory.wf) (fun _ _ hm => Memory.writeLine_wf _ _ _ hm) _ h

theorem Memory.copyChannel_wf {m : Memory} (old new : Nat) (h : m.wf) : (m.copyChannel old new).wf :=
  NMap.wf_copy _ _ _ h

theorem copyOut_mem_wf {s : Device} (m : NMap Byte) (off len : Nat) (place : Nat → Option (Nat × Nat)) (h : s.mem.wf) :
    (s.copyOut m off len place).mem.wf := by
  refine foldl_keeps (P := fun s : Device => s.mem.wf) (fun s i hs => ?_) _ h
  split
  · exact NMap.wf_copy _ _ _ hs
  · exact hs

theorem zeroRegion_mem_wf {s : Device} (r : Region) (h : s.mem.wf) : (s.zeroRegion r).mem.wf := by
  refine foldl_keeps (P := fun s : Device => s.mem.wf) (fun s i hs => ?_) _ h
  split
  · exact NMap.wf_clear _ _ hs
  · exact hs

@[simp] theorem ControlStore.share_bytes (x : ControlStore) (l a : Nat) : (x.share l a).bytes = x.bytes := by
  unfold ControlStore.share
  split
  · rfl
  · split <;> rfl

@[simp] theorem ControlStore.own_bytes (x : ControlStore) (l a : Nat) : (x.own l a).bytes = x.bytes := by
  unfold ControlStore.own; rfl

/-- The control domain's store keeps its form too (R343). -/
theorem ControlStore.access_wf {x : ControlStore} (a off n : Nat) (op : CdOp) (h : NMap.wf 0 x.bytes) :
    NMap.wf 0 (x.access a off n op).2.bytes := by
  have hw : ∀ v, NMap.wf 0 (writeBytes x.bytes off (leBytes n v)) := fun v => writeBytes_wf _ _ h
  cases op with
  | sc v =>
    rw [ControlStore.access]
    simp only
    split
    · dsimp only; rw [ControlStore.own_bytes]; exact hw v
    · exact h
  | lr => rw [ControlStore.access]; dsimp only; rw [ControlStore.share_bytes]; exact h
  | _ =>
    rw [ControlStore.access] <;> try (intros; contradiction)
    generalize cdStores _ n _ = o
    cases o with
    | none => dsimp only; rw [ControlStore.share_bytes]; exact h
    | some v => dsimp only; rw [ControlStore.own_bytes]; exact hw v

/-! ## The bytes that a store changes -/

theorem foldl_set_out (data : List Byte) (p : Nat → Bool) (base n : Nat) (m : NMap Byte) {a : Nat}
    (h : ∀ i < n, p i = true → a ≠ base + i) :
    ((List.range n).foldl (fun b i => if p i then b.set 0 (base + i) (data.getD i 0) else b) m).get 0 a = m.get 0 a := by
  induction n with
  | zero => rfl
  | succ n ih =>
    rw [List.range_succ, List.foldl_append]
    simp only [List.foldl_cons, List.foldl_nil]
    have := ih (fun i hi => h i (by omega))
    split
    · rw [NMap.get_set_ne _ _ _ (h n (by omega) ‹_›), this]
    · exact this

theorem foldl_set_in (data : List Byte) (p : Nat → Bool) (base n : Nat) (m : NMap Byte) {i : Nat} (hi : i < n)
    (hp : p i = true) :
    ((List.range n).foldl (fun b i => if p i then b.set 0 (base + i) (data.getD i 0) else b) m).get 0 (base + i) =
      data.getD i 0 := by
  induction n with
  | zero => omega
  | succ n ih =>
    rw [List.range_succ, List.foldl_append]
    simp only [List.foldl_cons, List.foldl_nil]
    by_cases e : i = n
    · subst e
      rw [if_pos hp, NMap.get_set_same]
    · have := ih (by omega)
      split
      · rw [NMap.get_set_ne _ _ _ (by omega), this]
      · exact this

/-- A byte of the line with its enable set reads as it was stored. -/
theorem Memory.putLine_byte_in (m : Memory) (l : Nat) (data : Line) (en : Word) {i : Nat} (hi : i < 64)
    (he : bit en.toNat i = true) :
    (m.putLine l data en).bytes.get 0 (64 * l + i) = (bytesOfLine data).getD i 0 :=
  foldl_set_in _ (fun i => bit en.toNat i) _ _ _ hi he

/-- Every other byte of memory reads as before. -/
theorem Memory.putLine_byte_out (m : Memory) (l : Nat) (data : Line) (en : Word) {a : Nat}
    (h : ∀ i < 64, bit en.toNat i = true → a ≠ 64 * l + i) :
    (m.putLine l data en).bytes.get 0 a = m.bytes.get 0 a :=
  foldl_set_out _ (fun i => bit en.toNat i) _ _ _ h

/-- Outside a line of a channel that does not migrate, a write of the line changes nothing. -/
theorem Memory.writeLine_byte_out (m : Memory) (l : Nat) (data : Line) (en : Word) {a : Nat}
    (hm : m.migrating.get 0 (lineChan l) = 0) (h : a / 64 ≠ l) :
    (m.writeLine l data en).bytes.get 0 a = m.bytes.get 0 a := by
  unfold Memory.writeLine
  split
  · rfl
  · simp only [hm, if_true, Memory.shutJoins_bytes]
    exact Memory.putLine_byte_out _ _ _ _ (fun i hi _ => by omega)

/-- Nothing is written on a lost channel or tier (R253). -/
theorem Memory.writeLine_lost (m : Memory) (l : Nat) (data : Line) (en : Word) (h : m.lost l = true) :
    m.writeLine l data en = m := if_pos h

end Sys2Proof.Machine
end

