-- ==== Sys2Proof/Laws/Records.lean ====
section
/-! SUPPORT. What the shared operations on records, counters and lanes may change: each one's shape, cited in place of its
definition. -/

namespace Sys2Proof.Machine

/-! ## Records (R496–R502) -/

theorem showAlarms_shape (s : Device) : ∃ r o, s.showAlarms = { s with regs := r, out := o } := by
  unfold Device.showAlarms
  dsimp only
  split
  · exact ⟨_, _, rfl⟩
  · exact ⟨_, s.out, rfl⟩

theorem postAlarm_shape (s : Device) (n : Record) : ∃ r l o, s.postAlarm n = { s with regs := r, led := l, out := o } := by
  unfold Device.postAlarm
  obtain ⟨r, o, h⟩ := showAlarms_shape ({ s.writeRecord n with led := { (s.writeRecord n).led with
    alarms := joinAlarm (s.writeRecord n).led.alarms { seq := s.led.nextSeq, cause := n.cause, unit := n.unit } } } : Device)
  exact ⟨r, _, o, h⟩

theorem postLimited_shape (s : Device) (n : Record) : ∃ r l, s.postLimited n = { s with regs := r, led := l } := by
  unfold Device.postLimited
  dsimp only
  split
  · exact ⟨s.regs, _, rfl⟩
  · split
    · split
      · exact ⟨s.regs, _, rfl⟩
      · exact ⟨_, _, rfl⟩
    · exact ⟨s.regs, _, rfl⟩

/-- A record changes the Ledger, the registers that show it, and what the device emits. -/
theorem note_shape (s : Device) (n : Note) : ∃ r l o, s.note n = { s with regs := r, led := l, out := o } := by
  unfold Device.note
  dsimp only
  split
  · exact postAlarm_shape s _
  · split
    · exact ⟨s.regs, s.led, s.out, rfl⟩
    · split
      · exact ⟨_, _, s.out, rfl⟩
      · obtain ⟨r, l, h⟩ := postLimited_shape ({ s with led := { s.led with
          queues := s.led.queues.upd 0 (srcKey n.kind n.index) (· + 1) } } : Device) (s.recordOf n)
        exact ⟨r, l, s.out, h⟩

/-! ## Counters and lanes (R294, R493, R494) -/

theorem pmcOne_shape (s : Device) (f : PmcSet) (b i k : Nat) : ∃ r, s.pmcOne f b i k = { s with regs := r } := by
  unfold Device.pmcOne
  dsimp only
  split
  · exact ⟨_, rfl⟩
  · exact ⟨_, rfl⟩

/-- Counting events of a set changes registers alone. -/
theorem pmc_shape (s : Device) (f : PmcSet) (b j ev arg k : Nat) : ∃ r, s.pmc f b j ev arg k = { s with regs := r } := by
  unfold Device.pmc
  split
  · rename_i on
    clear on
    generalize List.range 8 = ns
    induction ns generalizing s with
    | nil => exact ⟨s.regs, rfl⟩
    | cons n ns ih =>
      rw [List.foldl_cons]
      dsimp only
      split
      · obtain ⟨r, h⟩ := pmcOne_shape s f b (8 * j + n) k
        obtain ⟨r', h'⟩ := ih (s.pmcOne f b (8 * j + n) k)
        exact ⟨r', h'.trans (by rw [h])⟩
      · exact ih s
  · exact ⟨s.regs, rfl⟩

/-- A lane that begins to send a packet changes counters, the fabric's queues and what the device emits. -/
theorem startPkt_shape (s : Device) (z : Nat) (p : Pkt) :
    ∃ r c f o, s.startPkt z p = { s with regs := r, ctl := c, fab := f, out := o } := by
  obtain ⟨r, h⟩ := pmc_shape s pmcPrt (z / 16) 0 0x01 (z % 16) 1
  unfold Device.startPkt
  rw [h]
  have hb : ∃ c f, ((({ s with regs := r } : Device).bw .prtLaneBw (z / 16) (z % 16) 0 (pktBytes p)).modFab (fun f =>
      { f with sending := f.sending.set 0 z (pktBytes p), counted := f.counted.upd 0 (2 * z) (· + 1) })) =
        { s with regs := r, ctl := c, fab := f } := ⟨_, _, rfl⟩
  obtain ⟨c, f, e⟩ := hb
  dsimp only
  rw [e]
  split
  · have hf : ∃ r', ({ s with regs := r, ctl := c, fab := f } : Device).fsat F.tstCountActed 0 0 1 =
        { s with regs := r', ctl := c, fab := f } := ⟨_, rfl⟩
    obtain ⟨r', e'⟩ := hf
    rw [e']
    split
    · exact ⟨r', c, f, s.out, rfl⟩
    · exact ⟨r', c, f, s.out ++ [.packet z p], rfl⟩
  · exact ⟨r, c, f, s.out ++ [.packet z p], rfl⟩

theorem startNext_shape (s : Device) (z : Nat) :
    ∃ r c f o, s.startNext z = { s with regs := r, ctl := c, fab := f, out := o } := by
  unfold Device.startNext
  split
  · rename_i i _
    dsimp only
    obtain ⟨r, c, f, o, h⟩ := startPkt_shape
      (s.modFab (fun f => { f with txq := f.txq.set [] z (dropAt (s.fab.txq.get [] z) i) })) z ((s.fab.txq.get [] z).getD i blankPkt)
    exact ⟨r, c, f, o, h.trans rfl⟩
  · exact ⟨s.regs, s.ctl, s.fab, s.out, rfl⟩

/-- A packet put on a lane changes no more than one that the lane begins to send. -/
theorem sendOn_shape (s : Device) (z : Nat) (p : Pkt) :
    ∃ r c f o, s.sendOn z p = { s with regs := r, ctl := c, fab := f, out := o } := by
  unfold Device.sendOn
  dsimp only
  split
  · obtain ⟨r, c, f, o, h⟩ := startNext_shape (s.modFab (fun f => { f with
      laneQ := f.laneQ.upd 0 z (· + pktBytes p), txq := f.txq.upd [] z (· ++ [s.onLane z p]) })) z
    exact ⟨r, c, f, o, h.trans rfl⟩
  · exact ⟨s.regs, s.ctl, _, s.out, rfl⟩

/-- A shape that every step of a fold keeps, the fold keeps. -/
theorem sends_shape {α : Type} (g : Device → α → Device)
    (hg : ∀ s a, ∃ r c f o, g s a = { s with regs := r, ctl := c, fab := f, out := o }) (l : List α) (s : Device) :
    ∃ r c f o, l.foldl g s = { s with regs := r, ctl := c, fab := f, out := o } := by
  induction l generalizing s with
  | nil => exact ⟨s.regs, s.ctl, s.fab, s.out, rfl⟩
  | cons a l ih =>
    obtain ⟨r, c, f, o, h⟩ := hg s a
    obtain ⟨r', c', f', o', h'⟩ := ih (g s a)
    exact ⟨r', c', f', o', h'.trans (by rw [h])⟩

theorem sendCopies_shape (s : Device) (p : Pkt) (away : List Nat) :
    ∃ r c f o, s.sendCopies p away = { s with regs := r, ctl := c, fab := f, out := o } := by
  obtain ⟨r, c, f, o, h⟩ := sends_shape
    (fun s' z => s'.sendOn z (maskedPkt p (away.filter (fun i => s.mcastLane p i == some z))))
    (fun s _ => sendOn_shape s _ _) (away.filterMap (fun i => s.mcastLane p i)).eraseDups s
  unfold Device.sendCopies
  dsimp only
  rw [h]
  split
  · exact ⟨r, c, f, o, rfl⟩
  · exact ⟨r, c, _, o, rfl⟩

theorem transmitMcast_shape (s : Device) (p : Pkt) :
    ∃ r c f o, s.transmitMcast p = { s with regs := r, ctl := c, fab := f, out := o } := by
  unfold Device.transmitMcast
  dsimp only
  split
  · exact sendCopies_shape s p _
  · obtain ⟨r, c, f, o, h⟩ := sendCopies_shape (s.emit (.request (maskedPkt p ((List.range 32).filter (fun i =>
      bit p.mask i && (s.routeEntry p.epoch (32 * p.mgrp + i)).isLocal))))) p ((List.range 32).filter (fun i =>
      bit p.mask i && (s.routeEntry p.epoch (32 * p.mgrp + i)).valid && !(s.routeEntry p.epoch (32 * p.mgrp + i)).isLocal))
    exact ⟨r, c, f, o, h.trans rfl⟩

/-- A packet handed to the router changes no more than one put on a lane. -/
theorem transmit_shape (s : Device) (p : Pkt) :
    ∃ r c f o, s.transmit p = { s with regs := r, ctl := c, fab := f, out := o } := by
  unfold Device.transmit
  dsimp only
  split
  · exact transmitMcast_shape s p
  · split
    · exact ⟨s.regs, s.ctl, s.fab, s.out, rfl⟩
    · split
      · exact ⟨s.regs, s.ctl, s.fab, _, rfl⟩
      · split
        · exact sendOn_shape s _ _
        · exact ⟨s.regs, s.ctl, _, s.out, rfl⟩

theorem sendTree_shape (s : Device) (p : Pkt) (came : Option Nat) :
    ∃ r c f o, s.sendTree p came = { s with regs := r, ctl := c, fab := f, out := o } := by
  obtain ⟨r, c, f, o, h⟩ := sends_shape (fun s z => s.sendOn z p) (fun s _ => sendOn_shape s _ _)
    (s.treeLanes.filter (fun z => some z != came)) s
  unfold Device.sendTree
  rw [h]
  dsimp only
  split
  · exact ⟨_, _, _, _, rfl⟩
  · exact ⟨_, _, _, _, rfl⟩

/-! ## Holds and stops (R169, R173) -/

/-- A hold or stop that is raised is registered, sent and recorded: nothing else changes. -/
theorem raise_shape (s : Device) (reason : Nat) (stop : Bool) :
    ∃ r x c f l o, s.raise reason stop = { s with regs := r, fr := x, ctl := c, fab := f, led := l, out := o } := by
  unfold Device.raise
  dsimp only
  split
  · exact ⟨s.regs, s.fr, s.ctl, s.fab, s.led, s.out, rfl⟩
  · generalize ({ target := s.fr.tick + 1, reason := reason, late := s.lateNow, stop := stop, raiser := s.self } : HoldRec) = h
    obtain ⟨r, c, f, o, e⟩ := sendTree_shape (s.addHold h) (s.holdPacket h) none
    rw [e]
    obtain ⟨r', l, o', e'⟩ := note_shape ({ s.addHold h with regs := r, ctl := c, fab := f, out := o } : Device)
      { kind := kFrm, prio := 1, cls := if stop then 5 else 2,
        cause := (if stop then 8 * 256 else 2 * 256) + reason, unit := s.self }
    exact ⟨r', _, c, f, l, o', e'⟩

theorem sendRelease_shape (s : Device) :
    ∃ r x c f o, s.sendRelease = { s with regs := r, fr := x, ctl := c, fab := f, out := o } := by
  unfold Device.sendRelease Device.sendBeacon
  dsimp only
  generalize Device.leasePacket _ _ = p
  obtain ⟨r, c, f, o, e⟩ := transmit_shape (s.modFr (fun f => { f with beaconRelease := true })) p
  rw [e]
  exact ⟨r, _, c, f, o ++ [.toGateway p], rfl⟩

theorem leavePair_shape (s : Device) :
    ∃ r c f o, s.leavePair = { s with regs := r, ctl := c, fab := f, out := o } := by
  unfold Device.leavePair Device.sendBeacon
  dsimp only
  generalize Device.leasePacket _ _ = p
  have h1 : ∃ r, (s.fset F.frmMirrorSync 0 0 syUnsynced).fset F.frmMirrorRole 0 0 0 = { s with regs := r } := ⟨_, rfl⟩
  obtain ⟨r1, e1⟩ := h1
  rw [e1]
  obtain ⟨r, c, f, o, e⟩ := transmit_shape ({ s with regs := r1 } : Device) p
  rw [e]
  exact ⟨_, c, f, o ++ [.toGateway p], rfl⟩

/-- A withdrawal takes down its cause and raises its hold or stop (R431): nothing else changes. -/
theorem withdraw_shape (s : Device) (cause : Nat) :
    ∃ r x c f l o, s.withdraw cause = { s with regs := r, fr := x, ctl := c, fab := f, led := l, out := o } := by
  unfold Device.withdraw
  split
  · exact ⟨s.regs, s.fr, s.ctl, s.fab, s.led, s.out, rfl⟩
  split
  · have hm : ∃ x, s.modFr (fun f => { f with withdrawDue := cause }) = { s with fr := x } := ⟨_, rfl⟩
    obtain ⟨x, e⟩ := hm
    rw [e]
    obtain ⟨r2, x2, c2, f2, l2, o2, h2⟩ := raise_shape ({ s with fr := x } : Device) (withdrawReason cause) false
    exact ⟨r2, x2, c2, f2, l2, o2, h2⟩
  · have hm : ∃ x, s.modFr (fun f => { f with withdraw := cause }) = { s with fr := x } := ⟨_, rfl⟩
    obtain ⟨x, e⟩ := hm
    rw [e]
    dsimp only
    split
    · obtain ⟨r, x', c, f, o, h⟩ := sendRelease_shape ({ s with fr := x } : Device)
      rw [h]
      obtain ⟨r2, x2, c2, f2, l2, o2, h2⟩ :=
        raise_shape ({ s with regs := r, fr := x', ctl := c, fab := f, out := o } : Device) hFabric false
      exact ⟨r2, x2, c2, f2, l2, o2, h2⟩
    · split
      · split
        · obtain ⟨r, c, f, o, h⟩ := leavePair_shape ({ s with fr := x } : Device)
          exact ⟨r, x, c, f, s.led, o, h⟩
        · exact ⟨s.regs, x, s.ctl, s.fab, s.led, s.out, rfl⟩
      · unfold Device.jobStop
        split
        · obtain ⟨r2, x2, c2, f2, l2, o2, h2⟩ := raise_shape ({ s with fr := x } : Device)
            (if cause = wHoldBudget then jcHoldBudget else jcWithdrawal) true
          exact ⟨r2, x2, c2, f2, l2, o2, h2⟩
        · exact ⟨s.regs, x, s.ctl, s.fab, s.led, s.out, rfl⟩

end Sys2Proof.Machine
end

