-- ==== Sys2Proof/Tests/Slice0.lean ====
section
/-! SUPPORT. Tests of single commands on small states. Each checks that a command does what the rule its comment cites says, with
values computed by hand from that rule, on a state that meets the hypotheses of the statement about the command. -/

set_option Elab.async false

namespace Sys2Proof.Tests

open Sys2Proof Sys2Proof.Machine

/-! ## Small states -/

/-- The reset state with its device changed. -/
def st (f : Device → Device) : State := { State.reset with toDevice := f State.reset.toDevice }

/-- Thread 0 of tile 0 of stack 0. -/
def w0 : Who := ⟨0, 0, 0, none, []⟩

/-- The word of an instruction stands where thread 0 of tile 0 of stack 0 fetches (R94). -/
def fetches (i : Instr) (s : State) : State :=
  match encodeDocent i with
  | some v => { s with toDevice := s.modTile 0 0 (fun x => { x with sram := writeBytes x.sram (s.thread 0 0 0).pc (leBytes 4 v) }) }
  | none => s

/-- A statement about an instruction speaks of the state: its thread issues, and fetches its word. -/
def issued (i : Instr) (s : State) : Bool :=
  match encodeDocent i with
  | some v => s.issues w0 && s.wordAt w0 == v
  | none => true

/-- The command completes, and its device passes a check; an instruction is the one its thread issues. -/
def gives (i : Instr) (s : State) (f : Device → Bool) : Bool :=
  issued i (fetches i s) &&
    match exec i (fetches i s) with
    | .next t => decide (t.pending = s.pending) && f t.toDevice
    | _ => false

/-- The hypotheses of a statement hold, and its command gives what it says. -/
def shows (h : Bool) (i : Instr) (s : State) (f : Device → Bool) : Bool := h && gives i s f

/-- A running job. -/
def run (s : Device) : Device := s.fset F.frmStateJob 0 0 jRunning

/-- A running job in which tile (0, 0), with 64 KiB resident, is released, and its thread 0 is READY with some registers. -/
def docent0 (g : List (Nat × Word)) (th : Thread := {}) (x : Tile := {}) : State :=
  st (fun s => ((run s).wr .tileSramMap 0 0 1).setTile 0 0
    { x with released := true, threads := [(0, { th with st := .ready, g := g })] })

/-- A list of numbers as bytes. -/
def bytes (l : List Nat) : NMap Byte := ((List.range l.length).zip l).map (fun e => (e.1, BitVec.ofNat 8 e.2))

/-! ## The block as a machine -/

/-- Commands run first in, first out; without one, a nanosecond passes. -/
theorem test_step_front :
    (match step { st run with pending := [.patrolScrub [], .tick] } with
     | .next t => t.pending == [.tick] && t.mem.scrubs == 1
     | _ => false) = true ∧
    (match step State.reset with
     | .next t => t.now == 1 && t.pending.isEmpty
     | _ => false) = true := by decide +kernel

/-- A command that names a unit the device has not is a fault; each check of WellFormed refuses its first value out of range and
admits its last in range. -/
theorem test_formed :
    (match exec (.stackReset 16) State.reset with | .fault .noSuchUnit => true | _ => false) = true ∧
    stackOk 16 = false ∧ stackOk 15 = true ∧ tileOk 15 272 = false ∧ tileOk 15 271 = true ∧
    threadOk 0 0 8 = false ∧ threadOk 15 271 7 = true ∧ siteOk 40 = false ∧ siteOk 39 = true ∧
    busOk 224 = false ∧ busOk 223 = true ∧ chanOk 0 60 = false ∧ chanOk 223 59 = true ∧
    hbmOk 20 = false ∧ hbmOk 19 = true ∧ hchOk 19 32 = false ∧ hchOk 19 31 = true ∧
    laneOk 64 = false ∧ laneOk 63 = true ∧ portOk 4 = false ∧ portOk 3 = true ∧ quadOk 4 = false ∧ quadOk 3 = true ∧
    lineOk 64 = false ∧ lineOk 63 = true ∧ mbxOk 64 = false ∧ mbxOk 63 = true ∧ cmdOk 16 = false ∧ cmdOk 15 = true ∧
    ringOk 0 0 8 = false ∧ ringOk 39 223 7 = true ∧ dimmOk 8 = false ∧ dimmOk 7 = true ∧ xingOk 24 = false ∧ xingOk 23 = true ∧
    Who.ok ⟨16, 0, 0, none, []⟩ = false ∧ Who.ok ⟨15, 271, 7, none, []⟩ = true ∧ blankPkt.ok = true ∧
    Pkt.ok { blankPkt with dst := 1024 } = false ∧ Pkt.ok { blankPkt with hops := 64 } = false ∧
    Pkt.ok { blankPkt with hcrc := 256 } = false ∧ Pkt.ok { blankPkt with len := 1 } = false ∧
    Via.ok (.lane 64) = false ∧ Via.ok (.lane 63) = true ∧
    Group.ok (.quad 4) = false ∧ Group.ok (.port 3) = true := by decide +kernel

/-- The checks of formed beyond those: register fields, slots, edges, ranges of a row. -/
theorem test_formed_rows :
    formed (.add w0 31 31 31) = true ∧ formed (.add w0 32 0 0) = false ∧ formed (.ld w0 0 32 0) = false ∧
    formed (.flitInject 0 0 17 none) = false ∧ formed (.descriptorComplete 0 0 16) = false ∧
    formed (.streamEngineRequest 0 8) = false ∧ formed (.tileAccession 0 16 true) = false ∧
    formed (.cellReceive 40 0 0 0 0 [] true false) = false ∧ formed (.windowLineApply 15) = false ∧
    formed (.windowLineApply 16) = true ∧ formed (.liveUpdate 0 0 0 4 [] 0) = false ∧
    formed (.cartridgeSwitchCondition 0 4 0 []) = false ∧ formed (.controllerRead 0 0 (2 ^ 25) 0 0 0) = false ∧
    formed (.unreadableLineReport 28 0 0) = false ∧ formed (.softRepair 0 0 (2 ^ 21)) = false ∧
    formed (.hbmCommandTimeout 0 0 65536) = false ∧ formed (.bypassElementOpen 8) = false ∧
    formed (.controlDomainAccess none 0xFFFFFF 1 .load) = false ∧ formed (.clkDomTarget .curator 18 0) = false ∧
    formed (.testSlot 16 0 []) = false ∧ formed (.frmLenPendWrite .curator 2048 0 false) = false ∧
    formed (.ledCurWrite .curator 4 0) = false ∧ formed (.recordPost 14 0 0 0 0 0 0) = false ∧
    formed (.ledgerToken 0 0 0) = false ∧ formed (.tstWrite .curator 0 0 {}) = false ∧
    formed (.cartridgeLatchOpen 8 false) = false ∧ formed (.channelTrainingLoss 0 (some 32)) = false := by decide +kernel

/-! ## Instructions of the Docent -/

theorem test_docent_hypotheses : (docent0 []).issues w0 = true := by decide +kernel

/-- ADD wraps, and its source may be its destination; the PC moves on (R90, R95). -/
theorem test_add : gives (.add w0 1 1 2) (docent0 [(1, 0xFFFFFFFFFFFFFFFF), (2, 3)]) (fun t =>
    t.reg w0 1 == 2 && t.reg w0 2 == 3 && (t.thread 0 0 0).pc == 4) = true := by decide +kernel

/-- G0 discards a write and reads zero (R90). -/
theorem test_add_g0 : gives (.add w0 0 1 1) (docent0 [(1, 5)]) (fun t => t.reg w0 0 == 0 && t.reg w0 1 == 5) = true := by
  decide +kernel

theorem test_sub : gives (.sub w0 31 1 2) (docent0 [(1, 3), (2, 5)]) (fun t => t.reg w0 31 == 0xFFFFFFFFFFFFFFFE) = true := by
  decide +kernel

theorem test_logic :
    gives (.and w0 3 1 2) (docent0 [(1, 12), (2, 10)]) (fun t => t.reg w0 3 == 8) = true ∧
    gives (.or w0 3 1 2) (docent0 [(1, 12), (2, 10)]) (fun t => t.reg w0 3 == 14) = true ∧
    gives (.xor w0 3 1 2) (docent0 [(1, 12), (2, 10)]) (fun t => t.reg w0 3 == 6) = true := by decide +kernel

/-- Shifts take the low 6 bits of G[B]: 65 shifts by 1 (R95). -/
theorem test_shifts :
    gives (.shl w0 3 1 2) (docent0 [(1, 0x8000000000000001), (2, 65)]) (fun t => t.reg w0 3 == 2) = true ∧
    gives (.shr w0 3 1 2) (docent0 [(1, 0x8000000000000000), (2, 63)]) (fun t => t.reg w0 3 == 1) = true ∧
    gives (.sra w0 3 1 2) (docent0 [(1, 0x8000000000000000), (2, 63)]) (fun t => t.reg w0 3 == 0xFFFFFFFFFFFFFFFF) = true := by
  decide +kernel

theorem test_mul : gives (.mul w0 3 1 2) (docent0 [(1, 0x8000000000000001), (2, 2)]) (fun t => t.reg w0 3 == 2) = true := by
  decide +kernel

/-- SLT is signed, SLTU unsigned (R95). -/
theorem test_set_less :
    gives (.slt w0 3 1 2) (docent0 [(1, 0xFFFFFFFFFFFFFFFF), (2, 1)]) (fun t => t.reg w0 3 == 1) = true ∧
    gives (.sltu w0 3 1 2) (docent0 [(1, 0xFFFFFFFFFFFFFFFF), (2, 1), (3, 9)]) (fun t => t.reg w0 3 == 0) = true := by
  decide +kernel

theorem test_immediates :
    gives (.addi w0 3 1 0xFFFF) (docent0 [(1, 5)]) (fun t => t.reg w0 3 == 4) = true ∧
    gives (.lui w0 3 0 0x8000) (docent0 []) (fun t => t.reg w0 3 == 0xFFFFFFFF80000000) = true := by decide +kernel

/-- A load from the resident region is little-endian (R10, R95); one from a scratch line not yet written reads zeros (R87). -/
theorem test_ld :
    gives (.ld w0 3 1 0xFFF8) (docent0 [(1, 16)] {} { sram := writeBytes [] 8 (leBytes 8 0x0807060504030201) }) (fun t =>
      t.reg w0 3 == 0x0807060504030201) = true ∧
    gives (.ld w0 3 1 0) (docent0 [(1, 0x10000), (3, 7)] {} { sram := [(0x10000, 9)] }) (fun t => t.reg w0 3 == 0) = true := by
  decide +kernel

/-- The first store into a line clears the rest of it (R87). -/
theorem test_st : gives (.st w0 3 1 8) (docent0 [(1, 0x10000), (3, 0x1234)] {} { sram := [(0x10000, 9)] }) (fun t =>
    t.sramByte 0 0 0x10008 == 0x34 && t.sramByte 0 0 0x10009 == 0x12 && t.sramByte 0 0 0x10000 == 0) = true := by decide +kernel

/-- ST at the last 8 bytes of scratch is done; at the resident region it is a RANGE fault, code 3 (R85, R104). -/
theorem test_st_edges :
    gives (.st w0 3 1 0) (docent0 [(1, 0x17FFF8), (3, 1)]) (fun t => t.sramByte 0 0 0x17FFF8 == 1) = true ∧
    gives (.st w0 3 1 0) (docent0 [(1, 0xFFF8), (3, 1)]) (fun t =>
      (t.thread 0 0 0).st == .faulted && t.fget F.tileFaultCode 0 == 3 && (t.thread 0 0 0).pc == 0) = true := by decide +kernel

/-- Special registers: thread number 0, EPC 8 (R96); index 9 is ILLEGAL, code 1. -/
theorem test_spr :
    gives (.spr ⟨0, 0, 0, none, []⟩ 3 0 8) (docent0 [] { epc := 72 }) (fun t => t.reg w0 3 == 72) = true ∧
    gives (.spr ⟨0, 0, 0, none, []⟩ 3 0 9) (docent0 []) (fun t => t.fget F.tileFaultCode 0 == 1) = true := by decide +kernel

/-- Branches are relative to their own PC (R95). -/
theorem test_branches :
    gives (.beq w0 1 2 0xFFFE) (docent0 [(1, 5), (2, 5)] { pc := 16 }) (fun t => (t.thread 0 0 0).pc == 8) = true ∧
    gives (.bne w0 1 2 4) (docent0 [(1, 5), (2, 5)] { pc := 16 }) (fun t => (t.thread 0 0 0).pc == 20) = true ∧
    gives (.blt w0 1 2 4) (docent0 [(1, 0xFFFFFFFFFFFFFFFF)] { pc := 16 }) (fun t => (t.thread 0 0 0).pc == 32) = true ∧
    gives (.bge w0 1 2 4) (docent0 [(1, 5), (2, 5)] { pc := 16 }) (fun t => (t.thread 0 0 0).pc == 32) = true := by
  decide +kernel

/-- JAL links in G31; JR to EPC ends a sampling handler, and may link in the register it jumps through (R95, R140). -/
theorem test_jumps :
    gives (.jal w0 3) (docent0 [] { pc := 16 }) (fun t => (t.thread 0 0 0).pc == 28 && t.reg w0 31 == 20) = true ∧
    gives (.jr w0 1 1 4) (docent0 [(1, 60)] { pc := 16, epc := 64, inHandler := true }) (fun t =>
      (t.thread 0 0 0).pc == 64 && t.reg w0 1 == 20 && !(t.thread 0 0 0).inHandler) = true := by decide +kernel

/-- FENCE with nothing outstanding is over; TCWAIT for a count not reached waits, for one reached goes on (R95, R330). -/
theorem test_waits :
    gives (.fence w0 0 0 0) (docent0 []) (fun t => (t.thread 0 0 0).st == .ready) = true ∧
    gives (.fence w0 0 0 0) (let s := docent0 []; { s with reqs := [{ kind := .sst }] }) (fun t =>
      (t.thread 0 0 0).st == .waitSync && (t.thread 0 0 0).wait == .fence) = true ∧
    gives (.tcwait w0 0 1 15) (docent0 [(1, 5)] {} { tc := [(15, 4)] }) (fun t => (t.thread 0 0 0).st == .waitCount) = true ∧
    gives (.tcwait w0 0 1 15) (docent0 [(1, 5)] {} { tc := [(15, 5)] }) (fun t => (t.thread 0 0 0).st == .ready) = true := by
  decide +kernel

/-- CCWAIT compares 32 bits of G[D] with the counter G[A] names, up to counter 16,383 (R95, R331). -/
theorem test_ccwait :
    gives (.ccwait w0 2 1 0) (let s := docent0 [(1, 16383), (2, 0x100000003)]; { s with mem := { s.mem with cc := [(16383, 3)] } })
      (fun t => (t.thread 0 0 0).st == .ready) = true ∧
    gives (.ccwait w0 2 1 0) (docent0 [(1, 0), (2, 1)]) (fun t => (t.thread 0 0 0).st == .waitCount) = true ∧
    gives (.ccwait w0 2 1 0) (docent0 [(1, 16384), (2, 1)]) (fun t => t.fget F.tileFaultCode 0 == 3) = true := by decide +kernel

/-- A barrier waits for thread 1 while it is READY, not when it is IDLE; EOW ends the thread (R92, R95). -/
theorem test_tbar_eow :
    gives (.tbar w0 0 0 3) (docent0 []) (fun t => (t.thread 0 0 0).st == .ready) = true ∧
    gives (.tbar w0 0 0 3) (let s := docent0 []; { s with toDevice := s.modThread 0 0 1 (fun h => { h with st := .ready }) })
      (fun t => (t.thread 0 0 0).st == .waitSync) = true ∧
    gives (.eow w0 0 0 0) (docent0 []) (fun t => (t.thread 0 0 0).st == .done) = true := by decide +kernel

/-- Faults: an odd address, a field that must be zero, a mask without the thread, vector register 16 (R94, R95, R97, R104). -/
theorem test_faults :
    gives (.ld w0 3 1 0) (docent0 [(1, 4)]) (fun t => t.fget F.tileFaultCode 0 == 2 && (t.thread 0 0 0).st == .faulted) = true ∧
    gives (.jr w0 3 1 0) (docent0 [(1, 2)]) (fun t => t.fget F.tileFaultCode 0 == 2 && t.reg w0 3 == 0) = true ∧
    gives (.lui w0 3 1 0) (docent0 []) (fun t => t.fget F.tileFaultCode 0 == 1 && t.reg w0 3 == 0) = true ∧
    gives (.tbar w0 0 0 2) (docent0 []) (fun t => t.fget F.tileFaultCode 0 == 1) = true ∧
    gives (.vopAdd w0 16 0 0 0) (docent0 []) (fun t => t.fget F.tileFaultCode 0 == 1) = true ∧
    gives (.sld w0 16 1 2 0) (docent0 []) (fun t => t.fget F.tileFaultCode 0 == 1) = true := by decide +kernel

/-! ## Vectors -/

/-- Vector registers 1 and 2 with one lane each set. -/
def vecs (i x y : Nat) : Thread := { x := [(64 + i, BitVec.ofNat 32 x), (128 + i, BitVec.ofNat 32 y)] }

/-- What the last lane of X3 holds after an instruction on X1 and X2. -/
def lane63 (i : Instr) (x y z : Nat) : Bool :=
  gives i (docent0 [] (vecs 63 x y)) (fun t => (t.thread 0 0 0).lane 3 63 == z && (t.thread 0 0 0).lane 1 63 == x)

/-- 1 + 2 = 3, 1 − 2 = −1, 3 × 2 = 6, 1 ÷ 2 = 0.5, in FP32 (R74). -/
theorem test_vop :
    lane63 (.vopAdd w0 3 1 2 0) 0x3F800000 0x40000000 0x40400000 = true ∧
    lane63 (.vopSub w0 3 1 2 0) 0x3F800000 0x40000000 0xBF800000 = true ∧
    lane63 (.vopMul w0 3 1 2 0) 0x40400000 0x40000000 0x40C00000 = true ∧
    lane63 (.vopDiv w0 3 1 2 0) 0x3F800000 0x40000000 0x3F000000 = true ∧
    lane63 (.vopMin w0 3 1 2 0) 0x3F800000 0xC0000000 0xC0000000 = true ∧
    lane63 (.vopMax w0 3 1 2 0) 0x3F800000 0xC0000000 0x3F800000 = true := by decide +kernel

/-- In BF16 the sum 1 + 2^−9 rounds to 1 (R75); fma(1, 1, 0) is 1; √4 = 2 (R97). -/
theorem test_vop_bf16 :
    lane63 (.vopAdd w0 3 1 2 1) 0x3F800000 0x3B000000 0x3F800000 = true ∧
    lane63 (.vopAdd w0 3 1 2 0) 0x3F800000 0x3B000000 0x3F804000 = true ∧
    lane63 (.vfma w0 3 1 2 0) 0x3F800000 0x3F800000 0x3F800000 = true ∧
    lane63 (.vopSqrt w0 3 1 0 0) 0x40800000 0 0x40000000 = true := by decide +kernel

/-- FP32 −2 to the integer −2 and back; rounding of 1 + 2^−23 to BF16 and FP16 is 1 (R74, R97). -/
theorem test_converts :
    lane63 (.cvti w0 3 1 0 0) 0xC0000000 0 0xFFFFFFFE = true ∧
    lane63 (.cvtf w0 3 1 0 0) 0xFFFFFFFE 0 0xC0000000 = true ∧
    lane63 (.rbf w0 3 1 0 0) 0x3F800001 0 0x3F800000 = true ∧
    lane63 (.rhf w0 3 1 0 0) 0x3F800001 0 0x3F800000 = true := by decide +kernel

/-- BCAST copies lane 0; HMAX and HMIN look at all 64 lanes (R97). -/
theorem test_across :
    gives (.bcast w0 3 1 0 0) (docent0 [] (vecs 0 0x3F800000 0)) (fun t => (t.thread 0 0 0).lane 3 63 == 0x3F800000) = true ∧
    gives (.hmax w0 3 1 0 0) (docent0 [] (vecs 63 0x3F800000 0)) (fun t => (t.thread 0 0 0).lane 3 0 == 0x3F800000) = true ∧
    gives (.hmin w0 3 1 0 0) (docent0 [] (vecs 63 0xBF800000 0)) (fun t => (t.thread 0 0 0).lane 3 0 == 0xBF800000) = true := by
  decide +kernel

/-- exp 0 = 1, log 1 = 0, rsqrt 4 = 0.5, tanh 16 = 1, sigmoid 0 = 0.5, erf −4 = −1 (R77–R82). -/
theorem test_special :
    Sfn.exp.eval false 0 = 0x3F800000 ∧ Sfn.log.eval false 0x3F800000 = 0 ∧ Sfn.rsqrt.eval false 0x40800000 = 0x3F000000 ∧
    Sfn.tanh.eval true 0x41800000 = 0x3F800000 ∧ Sfn.sigmoid.eval false 0 = 0x3F000000 ∧
    Sfn.erf.eval false 0xC0800000 = 0xBF800000 := by decide +kernel

/-- The instruction applies the function to every lane: tanh 16 = 1, and tanh 0 = 0 in the rest (R97). -/
theorem test_vsfn : lane63 (.vsfnTanh w0 3 1 0 0) 0x41800000 0 0x3F800000 = true := by decide +kernel

/-- VLD of FP16 1.0 widens to FP32; VST narrows 1.0 to BF16 at the last line of scratch that holds it (R97). -/
theorem test_vld_vst :
    gives (.vld w0 3 1 2) (docent0 [(1, 64)] {} { sram := [(64, 0x00), (65, 0x3C)] }) (fun t =>
      (t.thread 0 0 0).lane 3 0 == 0x3F800000 && (t.thread 0 0 0).lane 3 1 == 0) = true ∧
    gives (.vst w0 1 1 1) (docent0 [(1, 0x17FF80)] (vecs 63 0x3F800000 0)) (fun t =>
      t.sramByte 0 0 0x17FFFE == 0x80 && t.sramByte 0 0 0x17FFFF == 0x3F) = true := by decide +kernel

/-- VRED: a sum of two lanes into VE[33], lanes into VE[63], conversion, clearing; anchor −23 (R67, R98). -/
theorem test_vred :
    gives (.vredSum w0 0 1 1 256) (docent0 [] (vecs 63 0x3F800000 0) { anchors := [(0, -23)] }) (fun t =>
      (t.tile 0 0).ve.get {} 33 == ⟨0x800000, false, false⟩) = true ∧
    gives (.vredLanes w0 0 1 0 0) (docent0 [] (vecs 63 0x3F800000 0) { anchors := [(0, -23)] }) (fun t =>
      (t.tile 0 0).ve == [(63, ⟨0x800000, false, false⟩)]) = true ∧
    gives (.vredCvt w0 3 0 0 0) (docent0 [] {} { anchors := [(0, -23)], ve := [(63, ⟨0x1800000, false, false⟩)] }) (fun t =>
      (t.thread 0 0 0).lane 3 63 == 0x40400000) = true ∧
    gives (.vredClr w0 0 0 0 0) (docent0 [] {} { ve := [(0, ⟨1, false, false⟩)] }) (fun t => (t.tile 0 0).ve == []) = true := by
  decide +kernel

/-! ## Remote access, descriptors, matrix operations -/

/-- SLD and SST of the largest size, 256 bytes, enter the tracker and the thread goes on (R99). -/
theorem test_remote :
    gives (.sld w0 15 1 2 5) (docent0 [(1, 256), (2, 0x10000)]) (fun t =>
      t.reqs.map (fun r => (r.kind, r.gaddr, r.len, r.loc, r.d)) == [(.sld, 256, 256, 0x10000, 15)] &&
      (t.thread 0 0 0).st == .ready) = true ∧
    gives (.sst w0 0 1 2 0) (docent0 [(1, 8), (2, 8)] {} { sram := [(8, 7)] }) (fun t =>
      t.reqs.map (fun r => (r.kind, r.len, r.pkt.payload)) == [(.sst, 8, [7, 0, 0, 0, 0, 0, 0, 0])] && t.nextId == 1) = true := by
  decide +kernel

/-- M2 mode (R100): a load waits for its word, a cached line is served at once, the seventeenth store waits. -/
theorem test_remote_m2 :
    gives (.sld w0 3 1 0 0) (docent0 [(1, 8)] { m2 := true }) (fun t =>
      (t.thread 0 0 0).st == .waitMem && t.reqs.map (fun r => (r.kind, r.len, r.d)) == [(.m2ld, 8, 3)]) = true ∧
    gives (.sld w0 3 1 0 0) (docent0 [(1, 8)] { m2 := true } { rcache := [(0, 0x2A0000000000000000)] }) (fun t =>
      t.reqs == [] && t.reg w0 3 == 0x2A) = true ∧
    gives (.sst w0 0 1 2 0) (docent0 [(1, 8), (2, 5)] { m2 := true, stores := 15 }) (fun t =>
      (t.thread 0 0 0).stores == 16 && (t.reqs.map (fun r => r.pkt.payload)) == [[5, 0, 0, 0, 0, 0, 0, 0]]) = true ∧
    gives (.sst w0 0 1 2 0) (docent0 [(1, 8), (2, 5)] { m2 := true, stores := 16 }) (fun t =>
      t.reqs == [] && (t.thread 0 0 0).st == .waitUnit) = true := by decide +kernel

/-- The request that an atomic enters: its operation code, length and payload's first byte (R101, R336). -/
def atom (i : Instr) (op len : Nat) : Bool :=
  gives i (docent0 [(2, 16), (4, 9)]) (fun t =>
    (t.thread 0 0 0).st == .waitMem &&
    t.reqs.map (fun r => (r.kind, r.op, r.len, r.pkt.payload.headD 0)) == [(.atomic, op, len, 9)])

theorem test_atomics :
    atom (.fetchAddInt64 w0 3 2 4 0) 0 8 = true ∧ atom (.fetchAddEwa96 w0 6 2 4 1) 17 16 = true ∧
    atom (.swap w0 3 2 4 0) 2 8 = true ∧ atom (.compareSwap w0 6 2 4 1) 19 16 = true ∧
    atom (.atomicMin w0 3 2 4 0) 4 8 = true ∧ atom (.atomicMax w0 6 2 4 1) 21 16 = true ∧
    atom (.atomicAnd w0 3 2 4 0) 6 8 = true ∧ atom (.atomicOr w0 3 2 4 0) 7 8 = true ∧
    atom (.atomicXor w0 0 2 4 0) 8 8 = true := by decide +kernel

/-- Bytes of four words at an SRAM offset. -/
def desc (a : Nat) (ws : List Nat) : NMap Byte := writeBytes [] a (ws.flatMap (leBytes 8))

/-- A descriptor of one row of one line takes a slot with its tag 5 (R119, R120). -/
def placed (i : Instr) (k w1 w2 w3 : Nat) : Bool :=
  gives i (docent0 [(1, 96)] {} { sram := desc 128 [k + 5 * 16 + 2 ^ 32 + 2 ^ 45, w1, w2, w3] }) (fun t =>
    (t.tile 0 0).slots.map (fun d => (sdKind d.w0, sdTag d.w0, d.thread)) == [(k, 5, 0)] && (t.tile 0 0).serial == 1)

theorem test_descriptors :
    placed (.send w0 0 1 32) 0 0xFFC0 0 0 = true ∧ placed (.receive w0 0 1 32) 1 0x17FFC0 0 0 = true ∧
    placed (.sendEwa w0 0 1 32) 2 2044 0 0 = true ∧ placed (.receiveEwaAdd w0 0 1 32) 3 0 0 0 = true ∧
    placed (.lbRead w0 0 1 32) 4 0 131071 0 = true ∧ placed (.lbWrite w0 0 1 32) 5 0 (3 * 2 ^ 18) 0 = true ∧
    placed (.remoteGet w0 0 1 32) 6 0x10000 64 0 = true ∧ placed (.remotePut w0 0 1 32) 7 0 64 0x4001 = true := by
  decide +kernel

/-- A bad descriptor is a DESCRIPTOR fault: a receive into the resident region (R104, R119). -/
theorem test_descriptor_fault :
    gives (.receive w0 0 1 32) (docent0 [(1, 96)] {} { sram := desc 128 [1 + 2 ^ 32 + 2 ^ 45, 0, 0, 0] }) (fun t =>
      t.fget F.tileFaultCode 0 == 4 && (t.tile 0 0).slots == []) = true := by decide +kernel

/-- An MMA of one MXINT8 row by one BXINT4 channel, K = 32, anchor register 5, TC 3 (R108). -/
def mmaW : List Nat :=
  [7 * 2 ^ 7 + 2 ^ 11 + 2 ^ 18 + 2 ^ 24 + 5 * 2 ^ 29, 0x100 + 0x200 * 2 ^ 40, 0x300 + 0x400 * 2 ^ 40, 3 * 2 ^ 24 + 2 ^ 28]

/-- Its operands: activation 3, weight −2, both scales 2^0. -/
def mmaData : NMap Byte := [(0x100, 3), (0x200, 127), (0x300, 0x0E), (0x400, 127)]

/-- Its operation in the queue. -/
def mmaOp : MatOp :=
  { kind := .mma, w0 := BitVec.ofNat 64 (mmaW.getD 0 0), w1 := BitVec.ofNat 64 (mmaW.getD 1 0),
    w2 := BitVec.ofNat 64 (mmaW.getD 2 0), w3 := BitVec.ofNat 64 (mmaW.getD 3 0) }

/-- An MCVT of one register to FP32 at 0x10000, CLEAR_AFTER, TC 3 (R111). -/
def mcvtW : List Nat := [2 ^ 3 + 2 ^ 10 + 5 * 2 ^ 16 + 2 ^ 24, 0x10000 + 0x10040 * 2 ^ 40, 0, 3 * 2 ^ 24 + 2 ^ 28]

/-- Its operation once begun. -/
def mcvtOp : MatOp :=
  { kind := .mcvt, begun := true, w0 := BitVec.ofNat 64 (mcvtW.getD 0 0), w1 := BitVec.ofNat 64 (mcvtW.getD 1 0),
    w3 := BitVec.ofNat 64 (mcvtW.getD 3 0) }

/-- A tile with matrix registers and a queue. -/
def busy (r : NMap Ewa) (q : List MatOp) : Tile := { mregs := r, queue := q, anchors := [(5, -6)] }

theorem test_matrix_issue :
    gives (.mma w0 0 1 0) (docent0 [(1, 0x500)] {} { sram := desc 0x500 mmaW }) (fun t =>
      (t.tile 0 0).queue == [mmaOp] && (t.tile 0 0).actFmt == some (7, 1, 1)) = true ∧
    gives (.mcvt w0 0 1 0) (docent0 [(1, 0x500)] {} { sram := desc 0x500 mcvtW }) (fun t =>
      (t.tile 0 0).queue.map (fun o => (o.kind, o.w0.toNat)) == [(.mcvt, mcvtW.getD 0 0)]) = true ∧
    gives (.mclr w0 0 0 0) (docent0 [] {} { queue := [mmaOp, mmaOp, mmaOp] }) (fun t => (t.tile 0 0).queue.length == 4) = true ∧
    gives (.mclr w0 0 0 0) (docent0 [] {} { queue := [mmaOp, mmaOp, mmaOp, mmaOp] }) (fun t =>
      (t.thread 0 0 0).st == .waitUnit && (t.tile 0 0).queue.length == 4) = true := by decide +kernel

/-- The MMA's sum is 3 × −2 (R60, R110); complete, it adds into register 0 and increments TC 3. -/
theorem test_mma :
    gives (.matrixOpBegin 0 0 none) (docent0 [] {} { sram := mmaData, anchors := [(5, -6)], queue := [mmaOp] }) (fun t =>
      (t.tile 0 0).queue == [{ mmaOp with begun := true, delta := [(0, ⟨-6, false, false⟩)] }]) = true ∧
    gives (.mmaComplete 0 0) (docent0 [] {} (busy [(0, ⟨10, false, false⟩), (1, ⟨1, false, false⟩)]
        [{ mmaOp with begun := true, delta := [(0, ⟨-6, false, false⟩)] }])) (fun t =>
      (t.tile 0 0).mregs == [(0, ⟨4, false, false⟩), (1, ⟨1, false, false⟩)] && (t.tile 0 0).queue == [] &&
      (t.tile 0 0).tc.get 0 3 == 1) = true := by decide +kernel

/-- MCVT of 3 × 2^−6 × 64 = 3 to FP32 0x40400000, then the register is cleared (R71, R111); MCLR clears them all. -/
theorem test_mcvt_mclr :
    gives (.mcvtComplete 0 0) (docent0 [] {} (busy [(0, ⟨192, false, false⟩), (1, ⟨1, false, false⟩)] [mcvtOp])) (fun t =>
      leNat ((List.range 4).map (fun i => t.sramByte 0 0 (0x10000 + i))) == 0x40400000 &&
      (t.tile 0 0).mregs == [(1, ⟨1, false, false⟩)] && (t.tile 0 0).tc.get 0 3 == 1) = true ∧
    gives (.matrixOpBegin 0 0 none) (docent0 [] {} { mregs := [(0, ⟨192, false, false⟩)], queue := [{ kind := .mclr }] }) (fun t =>
      (t.tile 0 0).mregs == [] && (t.tile 0 0).queue == []) = true := by decide +kernel

/-! ## Events of a tile -/

/-- The watchdog faults a waiting thread, code 6, unless WDOG is 0 (R105). -/
theorem test_watchdog :
    let s := docent0 []
    let x := { s with toDevice := (s.modThread 0 0 0 (fun h => { h with st := .waitMem })) }
    gives (.watchdog 0 0 0) { x with toDevice := x.fset F.tileCtlWdog 0 0 1 } (fun t =>
      (t.thread 0 0 0).st == .faulted && t.fget F.tileFaultCode 0 == 6 && t.fget F.tileFaultCount 0 == 1) = true ∧
    gives (.watchdog 0 0 0) { x with toDevice := x.fset F.tileCtlWdog 0 0 0 } (fun t => (t.thread 0 0 0).st == .waitMem) = true := by
  decide +kernel

/-- An enabled counter that wraps sets OVF and diverts its thread to the handler (R140); a disabled one does nothing. -/
theorem test_counter_wrap :
    let s := docent0 [] { pc := 16 }
    let x := (((s.toDevice.setFlag F.tilePmctlEnable 0 0 true).setFlag F.tilePmselSample 0 7 true).fset F.tilePmctlHandler 0 0 0x40)
    gives (.counterWrap 0 0 7) { s with toDevice := x } (fun t =>
      t.flag F.tilePmselOvf 0 7 && t.fget F.tilePmcCount 0 7 == 0 && (t.thread 0 0 0).pc == 0x40 && (t.thread 0 0 0).epc == 16 &&
      (t.thread 0 0 0).inHandler) = true ∧
    gives (.counterWrap 0 0 7) s (fun t => !t.flag F.tilePmselOvf 0 7) = true := by decide +kernel

theorem test_release : gives (.releaseSlot 15 271) (st run) (fun t => (t.tile 15 271).released) = true := by decide +kernel

/-- A SEND descriptor injects its line with its tag; without a credit nothing is injected (R112, R120). -/
theorem test_flit_inject :
    let d : Slot := { w0 := BitVec.ofNat 64 (5 * 16 + 2 ^ 32 + 2 ^ 45), w1 := 0x40 }
    gives (.flitInject 0 0 0 none) (docent0 [] {} { sram := [(0x40, 1)], slots := [d] }) (fun t =>
      ((t.tile 0 0).fifo.get [] 4).map (fun f => (f.tag, f.data.toNat, f.parity.toNat)) == [(5, 1, 1)] &&
      (t.tile 0 0).slots.map (fun x => x.moved) == [1]) = true ∧
    gives (.flitInject 0 0 16 none) (docent0 [] {} { fifo := [(4, List.replicate 64 {})] }) (fun t =>
      ((t.tile 0 0).fifo.get [] 4).length == 64) = true ∧
    gives (.flitInject 0 0 16 none) (let s := docent0 []; { s with reqs := [{ id := 3, kind := .sld }] }) (fun t =>
      ((t.tile 0 0).fifo.get [] 4).map (fun f => f.ctl) == [some 3] && t.reqs.map (fun r => r.stage) == [.mesh]) = true := by
  decide +kernel

/-- A flit of tag 5 at INJECT of logical (0, 0) leaves east with tag 9 for input W of (1, 0) (R113–R115). -/
theorem test_flit_arrive :
    let e := 2 + 2 ^ 11 + 9 * 2 ^ 12
    gives (.flitArrive 0 0 [4]) (docent0 [] {} { route := [(5, e)], fifo := [(4, [{ tag := 5 }])] }) (fun t =>
      (t.tile 0 0).fifo.get [] 4 == [] && ((t.tile 0 1).fifo.get [] 3).map (fun f => f.tag) == [9]) = true ∧
    gives (.flitArrive 0 0 [4]) (docent0 [] {} { route := [(5, e)], fifo := [(4, [{ tag := 5 }])], outputsIdle := true }) (fun t =>
      ((t.tile 0 0).fifo.get [] 4).length == 1) = true := by decide +kernel

/-- A descriptor whose line has moved frees its slot and increments its counter (R121). -/
theorem test_descriptor_complete :
    let d : Slot := { w0 := BitVec.ofNat 64 (7 * 2 ^ 12 + 2 ^ 16 + 2 ^ 32 + 2 ^ 45), moved := 1 }
    gives (.descriptorComplete 0 0 15) (docent0 [] {} { slots := List.replicate 15 {} ++ [d] }) (fun t =>
      (t.tile 0 0).slots.length == 15 && (t.tile 0 0).tc.get 0 7 == 1) = true := by decide +kernel

/-- A stream engine with room takes a request; in the settle interval an outward one is withheld (R103, R164). -/
theorem test_engine_request :
    let s := st (fun s => ({ (run s).modDie 0 (fun d => { d with engineIn := [(7, [(0, { ctl := some 3 })])] }) with
      reqs := [{ id := 3, kind := .sst, stage := .mesh }] } : Device))
    gives (.streamEngineRequest 0 7) s (fun t =>
      t.reqs.map (fun r => r.stage) == [.engine] && (t.die 0).engineIn.get [] 7 == []) = true ∧
    gives (.streamEngineRequest 0 7) { s with toDevice := s.modFr (fun f => { f with settle := true }) } (fun t =>
      t.reqs.map (fun r => r.stage) == [.withheld]) = true := by decide +kernel

/-- A flit whose request is not on the mesh (R103). -/
theorem witness_engine_discards :
    let s : Device := { State.reset.modDie 0 (fun d => { d with engineIn := [(7, [(0, { ctl := some 3 })])] }) with
      reqs := [{ id := 3, kind := .m2ld, stage := .returning }] }
    ((s.sendAnswers 0 6).reqs.find? (fun q => some 3 == some q.id && q.stage == .mesh) == none) = true := by decide +kernel

/-- A response of 8 bytes to an M2 load of thread 0 resumes it with G3 (R100, R323). -/
theorem test_remote_response :
    let r : Req := { id := 3, kind := .m2ld, stage := .sent, len := 8, d := 3, pkt := { blankPkt with seq := 9, seng := 1 } }
    let p : Pkt := { blankPkt with typ := tReadResp, len := 1, seq := 9, seng := 1, payload := leBytes 16 77 }
    let s := docent0 []
    let x := { s with toDevice := { s.modThread 0 0 0 (fun h => { h with st := .waitMem }) with reqs := [r] } }
    let came (f : Device → Device := id) : State := { x with toDevice := f { s.modThread 0 0 0 (fun h => { h with st := .waitMem }) with
      reqs := [{ r with stage := .returning, answer := leBytes 16 77 }] } }
    let y (v : Nat) : Device → Device := fun s => (s.fset F.tileCtlRspTag 0 0 5).modTile 0 0 (fun x => { x with
      route := [(5, 16 + 2 ^ 11 + 5 * 2 ^ 12)], fifo := [(4, [{ tag := v, ctl := some 3 }])] })
    gives (.remoteResponse p) x (fun t => t.reqs.map (fun q => (q.stage, q.answer)) == [(.returning, leBytes 16 77)]) = true ∧
    gives (.readResp .own p) x (fun t => t.reqs.map (fun q => (q.stage, q.answer)) == [(.returning, leBytes 16 77)]) = true ∧
    gives (.flitArrive 0 0 [4]) (came (y 5)) (fun t => t.reg w0 3 == 77 && (t.thread 0 0 0).st == .ready && t.reqs == []) = true ∧
    gives (.readResp .own { p with arg := stStale, len := 0, payload := [] }) x (fun t =>
      t.reqs.map (fun q => (q.stage, q.status)) == [(.returning, stStale)]) = true := by decide +kernel

/-- A tile in service that fails is silenced, and outside a job its row's accession moves each position one column on
(R126–R128). -/
theorem test_tile_sparing :
    gives (.tileFailure 0 3) (st (fun s => (s.fset F.tileIdState 3 0 tsInService).setFlag F.cmpSpareSpareOk 0 0 true)) (fun t =>
      (t.tile 0 3).outputsIdle && t.fr.work.contains (workTile 0 3)) = true ∧
    gives (.tileAccession 0 0 true) (st (fun s =>
        ({ s with fr := { s.fr with work := [workTile 0 3] } } : Device).fset F.tileIdLx 15 0 15)) (fun t =>
      t.fget F.cmpSpareFailCol 0 0 == 3 && t.fr.work == [] && t.fget F.tileIdState 3 == tsDeacc &&
      t.fget F.tileIdLx 16 == 15) = true ∧
    gives (.tileFailure 0 3) (st (fun s => s.fset F.tileIdState 3 0 tsInService)) (fun t => t.fr.lossPending == [0]) = true ∧
    gives (.tileAccession 0 0 false) (st (fun s => (run s).modFr (fun f => { f with held := true, work := [workTile 0 3] }))) (fun t =>
      t.fr.work == [] && t.fr.withdraw == wCarryLost) = true := by decide +kernel

/-! ## Hypotheses met together -/

theorem witness_LoadStoreSpecial :
    let s := fetches (.st w0 3 1 8) (docent0 [(1, 0x10000)])
    (issued (.st w0 3 1 8) s && issued (.ld w0 3 1 8) (fetches (.ld w0 3 1 8) s) && issued (.spr w0 3 0 23) (fetches (.spr w0 3 0 23) s) && (s.thread 0 0 0).addrB 1 8 % 8 == 0 && s.readable w0 ((s.thread 0 0 0).addrB 1 8) 8 &&
      (s.special w0 23).isSome && (s.sramMap 0 0).writeOk ((s.thread 0 0 0).addrB 1 8) 8) = true := by decide +kernel

/-- Scratch from 64 KiB up to its end at 0x180000 − 2 × 16 KiB, with carry banks of 16 KiB; the last bytes of the carry-out window. -/
theorem witness_TileStoreChangesOnlyItsBytes :
    let m : SramMap := ⟨0x10000, 0x4000, 1, true, true⟩
    let bs : List Byte := [1, 2]
    (bs != [] && m.writeOk 0xC03FFE 2 && m.writeOk 0x177FFE 2 && decide (m.resTop ≤ m.cb0) && decide (2 * m.cs ≤ 0x180000) &&
      m.cs % 64 == 0 && m.resTop % 64 == 0 && decide (m.bank ≤ 1) &&
      (({} : Tile).store m 0xC03FFE bs).byteAt m 0xC03FFF == 2 &&
      (({} : Tile).store { m with outRead := false } 0xC03FFE bs).byteAt { m with outRead := false } 0xC03FFF == 0) = true := by
  decide +kernel

theorem witness_BranchesAndJumps :
    let s := fetches (.jr w0 3 1 4) (docent0 [(1, 60)])
    (issued (.jr w0 3 1 4) s && (s.thread 0 0 0).addrB 1 4 % 4 == 0 && !s.flag F.tilePmctlEnable 0) = true := by decide +kernel

theorem witness_Synchronisation :
    let s := fetches (.ccwait w0 2 1 0) (docent0 [(1, 16383)])
    (issued (.ccwait w0 2 1 0) s && decide ((s.reg w0 1).toNat ≤ 16383) && bit 255 0) = true := by
  decide +kernel

theorem witness_VectorLoadStore :
    let s := fetches (.vst w0 1 1 1) (docent0 [(1, 0x17FF80)])
    (issued (.vst w0 1 1 1) s && vecFmt 1 == some bf16 && (s.thread 0 0 0).addrV 1 1 % 64 == 0 &&
      s.readable w0 ((s.thread 0 0 0).addrV 1 1) (8 * bf16.width) &&
      (s.sramMap 0 0).writeOk ((s.thread 0 0 0).addrV 1 1) (8 * bf16.width)) = true := by decide +kernel

theorem witness_VectorReductions :
    let s := fetches (.vredSum w0 0 1 1 255) (docent0 [])
    (issued (.vredSum w0 0 1 1 255) s && !(s.tile 0 0).slots.any (fun e => isEwaKind (sdKind e.w0) && sdVe e.w0) && vredK 255 == 0) = true := by
  decide +kernel

theorem witness_RemoteInstructionsEnterTracker :
    let s := fetches (.sld w0 15 1 2 5) (docent0 [(1, 256), (2, 0x10000)])
    let x := fetches (.sld w0 3 1 0 0) (docent0 [(1, 256)] { m2 := true })
    (issued (.sld w0 15 1 2 5) s && !s.trackerFull 0 0 && !(s.thread 0 0 0).m2 &&
      ({ s.sramMap 0 0 with outWrite := true } : SramMap).writeOk 0x10000 256 && (s.tile 0 0).cacheHit 256 256 == none &&
      s.readable w0 0x10000 256 && issued (.sld w0 3 1 0 0) x && !x.trackerFull 0 0 && (x.thread 0 0 0).m2 &&
      (x.tile 0 0).cacheHit 256 8 == none) = true := by decide +kernel

theorem witness_AtomicsWaitForPriorValue :
    let s := fetches (.compareSwap w0 6 2 4 1) (docent0 [(2, 16), (4, 9)])
    (issued (.compareSwap w0 6 2 4 1) s && !s.trackerFull 0 0 && (s.reg w0 2).toNat % 16 == 0) = true := by decide +kernel

theorem witness_DescriptorsTakeSlots :
    let ws := [6 + 2 ^ 32 + 2 ^ 45, 0x10000, 64, 0]
    let s := fetches (.remoteGet w0 0 1 0) (docent0 [(1, 128)] {} { sram := desc 128 ws, slots := List.replicate 15 {} })
    let bs := (List.range 32).map (fun i => s.sramByte 0 0 (128 + i))
    (issued (.remoteGet w0 0 1 0) s && decide ((s.tile 0 0).slots.length < 16) && s.readable w0 128 32 &&
      s.sdOk w0 (descWords bs).1 (descWords bs).2.1 (descWords bs).2.2.1 (descWords bs).2.2.2 &&
      (descWords bs).1.toNat == ws.getD 0 0 && !(s.thread 0 0 0).m2) = true := by decide +kernel

theorem witness_MatrixOperationsQueue :
    let s := fetches (.mma w0 0 1 0) (docent0 [(1, 0x500)] {} { sram := desc 0x500 mmaW, queue := [mmaOp, mmaOp, mmaOp] })
    (issued (.mma w0 0 1 0) s && decide ((s.tile 0 0).queue.length < 4) && s.readable w0 0x500 32 &&
      mmaOk mmaOp.w0 mmaOp.w1 mmaOp.w2 mmaOp.w3 && mcvtOk mcvtOp.w0 mcvtOp.w1 mcvtOp.w2 mcvtOp.w3) = true := by decide +kernel

/-- With KEEP_A set, the shape of the MMA before it. -/
theorem witness_MatrixOperationsQueue_keep :
    let k : Word := mmaOp.w0 + 0x4000000000
    let s := docent0 [] {} { actFmt := some (7, 1, 1) }
    (s.issues w0 && mmaOk k mmaOp.w1 mmaOp.w2 mmaOp.w3 && mdKeep k && (s.tile 0 0).actFmt == some (mdShape k)) = true := by
  decide +kernel

theorem witness_InstructionFaults :
    let s := fetches (.ld w0 3 1 0) (docent0 [(1, 16385)])
    (issued (.ld w0 3 1 0) s && (s.thread 0 0 0).addrB 1 0 % 8 != 0 && (s.thread 0 0 0).addrB 1 0 % 4 != 0 && decide (16383 < (s.reg w0 1).toNat) &&
      !bit 2 0 && !s.trackerFull 0 0 && !(s.thread 0 0 0).m2) = true := by decide +kernel

/-- The words of OP 0 with FN 11, and of OP 0x22 with FN 14, are ILLEGAL, whatever command stands in front; OP 63 too (R94, R95, R97). -/
theorem test_undefined_words :
    [0x0000000B, 0x8800000E, 0xFC000000].all (fun v =>
      let s := docent0 [(1, 5)] {} { sram := writeBytes [] 0 (leBytes 4 v) }
      s.issues w0 && !definedWord (s.wordAt w0) &&
      match exec (.add w0 1 1 1) s with
      | .next t => (t.thread 0 0 0).st == .faulted && t.fget F.tileFaultCode 0 == 1 && t.reg w0 1 == 5
      | _ => false) = true := by decide +kernel

/-- Of two READY threads the next after the last to issue goes first, unless it is stalled (R91). -/
theorem test_round_robin :
    let s := fetches (.add w0 1 1 1) (docent0 [(1, 5)])
    let y := s.modThread 0 0 7 (fun h => { h with st := .ready })
    let x := y.modTile 0 0 (fun x => { x with lastIssued := 0 })
    x.canIssue w0 = false ∧ y.canIssue w0 = true ∧ y.canIssue ⟨0, 0, 7, none, []⟩ = false ∧
    y.canIssue ⟨0, 0, 7, none, [0]⟩ = true := by decide +kernel

/-- A first fault is recorded whole; a second is counted and leaves the record (R134). -/
theorem test_fault_record :
    let s := State.reset.logTileFault 15 271 10 7 0x44
    (!State.reset.flag F.tileFaultValid (272 * 15 + 271) && s.flag F.tileFaultValid 4351 && s.fget F.tileFaultCode 4351 == 10 &&
      s.fget F.tileFaultThread 4351 == 7 && s.fget F.tileFaultPc 4351 == 0x44 && s.fget F.tileFaultCount 4351 == 1 &&
      (s.logTileFault 15 271 3 0 0).fget F.tileFaultCode 4351 == 10 &&
      (s.logTileFault 15 271 3 0 0).fget F.tileFaultCount 4351 == 2) = true := by decide +kernel

theorem witness_TileTimersAndRelease :
    let s := ((docent0 []).modThread 0 0 7 (fun h => { h with st := .waitUnit, wait := .unit .stores, stores := 16 })).fset F.tileCtlWdog 0 0 1
    let z := s.modThread 0 0 7 (fun h => { h with stores := 15 })
    let x := (docent0 []).setFlag F.tilePmctlEnable 0 0 true
    (s.tstate 0 0 7 == .waitUnit && !z.unitFull 0 0 7 .stores && s.fget F.tileCtlWdog 0 != 0 && x.flag F.tilePmctlEnable 0 &&
      (x.thread 0 0 (x.fget F.tilePmselThread 0 7)).divertible && !State.reset.engineCold 0 0) = true := by decide +kernel

theorem witness_MatrixEngine :
    let s := docent0 [] {} { sram := mmaData, anchors := [(5, -6)], queue := [mmaOp] }
    let x := s.tile 0 0
    let y := docent0 [] {} (busy [] [mcvtOp])
    (!mmaOp.begun && !x.opBlocked mmaOp && !s.engineCold 0 0 && !mdKeep mmaOp.w0 && !s.flipArmed ptSram 0 0 &&
      (x.readAll (s.sramMap 0 0) none (actPieces mmaOp.w0 mmaOp.w1)).fault == 0 &&
      (x.readAll (s.sramMap 0 0) none (weightPieces mmaOp.w0 mmaOp.w2 mmaOp.w3)).fault == 0 && decide (mdN mmaOp.w0 ≤ 32) &&
      ((y.tile 0 0).convRows mcvtOp).all (fun r =>
        (y.sramMap 0 0).writeOk r.1 r.2.1.length && (y.sramMap 0 0).writeOk r.2.2.1 r.2.2.2.1.length)) = true := by
  decide +kernel

theorem witness_FlitInjection :
    let d : Slot := { w0 := BitVec.ofNat 64 (5 * 16 + 2 ^ 32 + 2 ^ 45), w1 := 0x40 }
    let s := docent0 [] {} { slots := [d] }
    let x := docent0 [] {} { fifo := [(4, List.replicate 64 {})] }
    let y : Device := { (docent0 []).toDevice with reqs := [{ id := 3, kind := .sld }] }
    ((s.tile 0 0).injectRoom && sdKind d.w0 == kSend && !d.allMoved && (s.tile 0 0).nextSender == some d && !s.flipArmed ptSram 0 0 &&
      ((s.tile 0 0).read (s.sramMap 0 0) none (sdPlace d.w0 d.w1 d.w2 d.moved).toNat 64).fault == 0 &&
      !(x.tile 0 0).injectRoom && (y.nextTracked 0 0).map (fun r => r.id) == some 3) = true := by decide +kernel

theorem witness_GranuleHoldsLaterRequests :
    let d : Slot := { w0 := BitVec.ofNat 64 (6 + 2 ^ 32 + 2 ^ 45) }
    let s := docent0 [] {} { slots := [d] }
    let held : State := { s with reqs := [{ id := 3, kind := .sst, stage := .sent, gaddr := 512 }, { id := 4, kind := .sld, gaddr := 576 }] }
    ((s.tile 0 0).injectRoom && sdKind d.w0 == kGet && !d.allMoved && !(s.tile 0 0).slotBlocked d && !s.trackerFull 0 0 &&
      (held.nextTracked 0 0).isNone && gives (.flitInject 0 0 16 none) held (fun t => t == held.toDevice) &&
      gives (.flitInject 0 0 0 none) held (fun t => ((t.tile 0 0).fifo.get [] 4).length == 1)) = true := by decide +kernel

theorem witness_FlitForwarding :
    let e := 2 + 2 ^ 11 + 9 * 2 ^ 12
    let f : Flit := { tag := 5 }
    let s := docent0 [] {} { route := [(5, e)], fifo := [(4, [f])] }
    ((s.tile 0 0).entryOf f == e && reValid e && !reJoin e && reOut e == 2 ^ 1 && s.logicalOf 0 0 == some (0, 0) &&
      neighbour 0 0 1 == some (1, 0) && s.physicalOf 0 1 0 != 0 && s.portRoom 0 0 0 1 { f with tag := reTag e }) = true := by
  decide +kernel

theorem witness_StreamAndRemoteEvents :
    let d : Slot := { w0 := BitVec.ofNat 64 (7 * 2 ^ 12 + 2 ^ 16 + 2 ^ 32 + 2 ^ 45), moved := 1 }
    let r : Req := { id := 3, kind := .m2ld, stage := .sent, len := 8, d := 3, pkt := { blankPkt with seq := 9, seng := 1 } }
    let p : Pkt := { blankPkt with typ := tReadResp, len := 1, seq := 9, seng := 1, payload := leBytes 16 77 }
    (d.over && p.ok && isResponse p && !isDoorbell p && p.arg == stOk && respLenOk p r && matchesReq p r && p.typ != tMbxReject &&
      decide (State.reset.engineBusy 0 7 < 512)) = true := by decide +kernel

/-! ## Power, reset and start-up -/

/-- A device in its working state with something in every store. -/
def busyDevice : State := st (fun s =>
  { s with
    now := 5, regs := [(0x40, 1)], tiles := [(3, { released := true })], mem := { s.mem with bytes := [(1, 1)], softRows := [7] }
    boot := { s.boot with pwrgd := true, starts := 4, floorSeen := 2, flash := [(9, 1)] } })

/-- A reset of 10 µs leaves the flash, the floor, the starts and the rows to repair, and registers its cause (R450, R515). -/
theorem test_reset :
    gives (.modRstNAssert 10000) busyDevice (fun t =>
      t.now == 0 && t.regs == [] && t.tiles == [] && t.mem.bytes == [] && t.mem.softRows == [7] && t.boot.starts == 4 &&
      t.boot.floorSeen == 2 && t.boot.flash == [(9, 1)] && t.boot.resetLow && t.boot.pwrgd && t.boot.cause == some rcModRst) = true ∧
    gives (.modRstNAssert 999) busyDevice (fun t => t.tiles == busyDevice.tiles && t.now == 5) = true := by decide +kernel

theorem test_input_loss : gives .inputLoss busyDevice (fun t =>
    !t.boot.pwrgd && t.regs == [] && t.mem.softRows == [7] && t.boot.cause == none) = true := by decide +kernel

/-- A flash write in progress, its first page and what lies outside it (R450). -/
theorem witness_ResetDuringWrite :
    let s := st (fun s => s.modBoot (fun b => { b with
      flash := [(256, 1), (1024, 2)], writing := some { addr := 256, len := 512, page := 256, before := [] } }))
    s.boot.writing.any (fun j => decide (511 < j.addr + j.page ∧ j.addr + j.len ≤ 1024)) = true := by decide +kernel

/-- After 1 s without input the thermal latch clears, and is reported at the next start-up (R397). -/
theorem test_power_up :
    let s := st (fun s => s.modBoot (fun b => { b with shutdown := some (9, 400), starts := 3 }))
    shows (!s.boot.pwrgd) (.powerUp 1000) s (fun t =>
      t.boot.shutdown == none && t.boot.tripped == some (9, 400) && t.boot.starts == 0) = true ∧
    shows s.boot.shutdown.isSome (.powerUp 999) s (fun t => t == s.toDevice) = true := by decide +kernel

/-- What start-up finds in an empty machine with good straps: nothing trains, no core works. -/
def bareBoot : BootIn :=
  { pufOk := true, straps := (List.range 4).map (fun q => List.replicate 16 q), strapStack := []
    linkCodes := List.replicate 4 (0, 0), core0 := false, core1 := false, fwOkA := false, fwOkB := false
    quadStep := [], quadCap := [], siteTrained := [], siteStep := [], siteCap := [], hbmTrained := [], hbmTemp := [], hbmPpr := []
    hbmId := [], dimm := [], dimmTrained := [], lasers := [], ringBad := [], lineBad := [], crossBad := [], laneSweeps := []
    lanesUp := [], peers := [], delays := [], tickTreeOk := false, overrun := none, readyMs := 0, refOk := true }

/-- Without a working core start-up fails in step 0 with code 2 (R449, R475). -/
theorem test_power_good : shows (!State.reset.boot.pwrgd && State.reset.bootStep == 0) (.powerGood bareBoot) State.reset (fun t =>
    t.bootStep == stFailed && t.fget F.curBootFailCode == 2 && t.fget F.curBootFailStep == 0 && !t.boot.lasersOn &&
    t.boot.starts == 1 && t.fget F.glbQuadPlace 0 3 == 3 && t.flag F.glbStatusAlert) = true := by decide +kernel

/-- MOD_RST_N released with the power good starts it too (R514). -/
theorem test_reset_release :
    let s := st (fun s => s.modBoot (fun b => { b with pwrgd := true, resetLow := true, starts := 1 }))
    shows (s.boot.pwrgd && s.boot.resetLow) (.modRstNRelease bareBoot) s (fun t =>
      t.bootStep == stFailed && !t.boot.resetLow && t.boot.starts == 2) = true := by decide +kernel

/-- A start-up under way, in a given step. -/
def booting (k : Nat) : State := st (fun s =>
  (s.fset F.curBootStep 0 0 k).modBoot (fun b => { b with pwrgd := true, input := some bareBoot, lasersOn := true }))

/-- A step past its limit: code 10, the step, an ALARM of cause 0x040A (R449, R475, R498). -/
theorem test_step_timeout : shows ((booting 5).boot.input.isSome && decide ((booting 5).bootStep ≤ 5)) .startUpStepTimeout (booting 5)
    (fun t => t.bootStep == stFailed && t.fget F.curBootFailCode == 10 && t.fget F.curBootFailStep == 5 && !t.boot.lasersOn &&
      t.out.contains (.uart 10) && (t.led.recs.getLast?.map Record.cause) == some 0x040A) = true := by decide +kernel

/-- Firmware that does not report marks slot A; with B bad start-up fails in step 1, code 1 (R466). -/
theorem test_firmware_timeout :
    let s : State := { booting 1 with toDevice := (booting 1).fset F.curCatBResult 0 0 3 }
    shows (s.bootStep == 1 && s.fget F.curCatSlot == 0 && s.fget F.curCatBResult != 0) .firmwareTimeout s (fun t =>
      t.fget F.curCatAResult == resFirmware && t.flag F.curCatFallback && t.bootStep == stFailed && t.fget F.curBootFailCode == 1 &&
      t.fget F.curBootFailStep == 1) = true ∧
    shows ((booting 1).fget F.curCatBResult == 0) .firmwareTimeout (booting 1) (fun t =>
      t.bootStep == 1 && t.fget F.curCatSlot == 1 && t.fget F.curCatAResult == resFirmware) = true := by decide +kernel

/-- The identity keys end a step 5 that waits for them: the hypotheses. The register's value is the module's. -/
theorem witness_identityKeys : ((booting 5).boot.input == some bareBoot && (booting 5).fget F.curCatIdent == 0 &&
    (booting 5).bootStep == 5 && bareBoot.overrun != some 5) = true := by decide +kernel

/-- LU1 stands by beside an active LU0. -/
def lit : State := st (fun s =>
  ((s.fset F.plnStatusSource 0 0 1).fset F.plnLaserState 0 0 lsActive).fset F.plnLaserState 0 1 lsStandby)

/-- Latches, insertions, conditions at their limits, the switch (R23–R25, R223, R224). -/
theorem test_cartridges :
    gives (.cartridgeLatchOpen 0 false) lit (fun t =>
      t.flag F.plnLaserLatch 0 0 && t.flag F.plnStatusSwitching 0 && t.fr.work.contains (workCart 0)) = true ∧
    gives (.cartridgeInserted 7 false 100) lit (fun t =>
      t.fget F.plnLaserState 3 1 == lsFailed && t.flag F.plnLaserSeated 3 1 && t.fget F.plnLaserOnHours 3 1 == 100) = true ∧
    gives (.cartridgeSwitchCondition 0 0 15 []) lit (fun t =>
      t.fget F.plnLaserPwrDrop 0 0 == 15 && !t.flag F.plnStatusSwitching 0) = true ∧
    gives (.cartridgeSwitchCondition 0 0 16 []) lit (fun t => t.flag F.plnStatusSwitching 0) = true ∧
    gives (.cartridgeSwitchCondition 0 1 0 [5, 6, 7]) lit (fun t => t.flag F.plnStatusSwitching 0) = true ∧
    gives (.cartridgeSwitchCondition 0 2 0 [5]) lit (fun t => t.flag F.plnStatusSwitching 0) = true := by decide +kernel

theorem test_cartridge_switch :
    let s : State := { lit with toDevice := (lit.setFlag F.plnStatusSwitching 0 0 true).startWork (workCart 0) }
    shows (s.fget F.plnStatusSource 0 == 1 && s.flag F.plnStatusSwitching 0) (.cartridgeSwitchComplete 0 true [] []) s (fun t =>
      t.fget F.plnStatusSource 0 == 2 && !t.flag F.plnStatusSwitching 0 && t.fget F.plnLaserState 0 0 == lsFailed &&
      t.fget F.plnLaserState 0 1 == lsActive && t.fr.work == []) = true := by decide +kernel

/-! ## Clocks, crossings and stacks -/

theorem test_reference :
    gives .refclkInvalid State.reset (fun t =>
      t.flag F.clkStatusRef && !t.flag F.clkStatusRefOk && t.fget F.clkStatusRefLosses == 1) = true ∧
    gives .refclkRestored (st (fun s => s.setFlag F.clkStatusRef 0 0 true)) (fun t =>
      !t.flag F.clkStatusRef && t.flag F.clkStatusRefOk) = true := by decide +kernel

/-- A locked device that is not the master goes into holdover; its limit withdraws a running job (R366). -/
theorem test_holdover :
    let s := st (fun s => (run s).setPorts F.prtTickState tkLocked)
    shows (s.fget F.prtTickState == tkLocked && !s.flag F.prtStatusMaster) .tickHoldover s (fun t =>
      t.flag F.clkStatusTickHo && t.fget F.prtTickState 3 == tkHoldover) = true ∧
    shows (s.running && s.fr.withdraw == 0) .tickHoldoverTimeout { s with toDevice := s.setFlag F.clkStatusTickHo 0 0 true }
      (fun t => t.fr.withdraw == wTickLost) = true := by decide +kernel

/-- A TARGET up to FMAX_STEP is taken; with RESET it isolates the stack (R358, R362, R369). -/
theorem test_clk_dom :
    let s := st (fun s => s.fset F.clkDomFmaxStep 0 15 36)
    shows (decide (bits 2304 6 6 ≤ s.fget F.clkDomFmaxStep 0 15)) (.clkDomTarget .curator 15 2304) s (fun t =>
      t.fget F.clkDomTarget 0 15 == 36 && (t.die 15).newTarget && t.domStep 15 == 30 && t.out == [.response .curator true 0]) = true ∧
    gives (.clkDomReset .curator 15 (2304 + 0x4000000)) s (fun t =>
      (t.die 15).isolated && t.domState 15 == cdIsolated && t.fget F.clkDomTarget 0 15 == 36) = true ∧
    gives (.clkDomTarget .curator 15 2368) s (fun t =>
      t.fget F.clkDomTarget 0 15 == 30 && !(t.die 15).newTarget && t.out == [.response .curator false 0]) = true := by decide +kernel

/-- A droop over 3 % stretches by 1.25, over 6 % by 1.5, at 3 % not at all (R360). -/
theorem test_droop :
    gives (.droop 15 31) State.reset (fun t =>
      (t.die 15).stretch == 1 && (t.die 15).suspended && t.flag F.clkDomStretch 0 15 && t.fget F.clkStretchEvents 0 15 == 1) = true ∧
    gives (.droop 15 61) State.reset (fun t => (t.die 15).stretch == 2) = true ∧
    gives (.droop 15 30) State.reset (fun t => t == State.reset.toDevice) = true ∧
    gives (.stretchRelease 15) (st (fun s => s.modDie 15 (fun y => { y with stretch := 2 }))) (fun t =>
      (t.die 15).stretch == 0 && !t.flag F.clkDomStretch 0 15) = true := by decide +kernel

theorem test_periodic_stretch :
    let s := st (fun s => ((s.setFlag F.tstCtlActive 0 0 true).setFlag F.tstStretchEn 0 0 true).fset F.tstStretchLen 0 0 5)
    shows (s.fget F.tstStretchStack == 0) (.periodicStretch 0) s (fun t =>
      (t.die 0).testLeft == 4800000 && (t.die 0).suspended) = true := by decide +kernel

/-- A frequency change of 25 MHz a step, its end, its suspension's end and its limit (R362–R364). -/
theorem test_frequency :
    let s := st (fun s => s.modDie 15 (fun y => { y with changeTo := some 29, suspended := false, volt := 30 }))
    shows (s.domStep 15 == 30 && s.domState 15 != cdReset && s.domState 15 != cdIsolated) (.frequencyMove 15) s (fun t =>
      t.domStep 15 == 29 && (t.die 15).volt == 30 && (t.die 15).lowerIn == 2000 && t.fget F.clkDomMhz 0 15 == 1475 && t.fget F.clkDomResult 0 15 == 1 && (t.die 15).changeTo == none) = true ∧
    gives (.frequencyChangeTimeout 15) s (fun t => t.fget F.clkDomResult 0 15 == 2 && t.domStep 15 == 30) = true ∧
    gives (.suspensionEnd 15) (st (fun s => s.modDie 15 (fun y => { y with suspended := true }))) (fun t =>
      !(t.die 15).suspended) = true := by decide +kernel

/-- Upward the step waits for the regulator (R362). -/
theorem test_frequency_up :
    let s (v : Nat) := st (fun s => s.modDie 15 (fun y => { y with changeTo := some 32, suspended := false, volt := v }))
    gives (.frequencyMove 15) (s 30) (fun t => t == (s 30).toDevice) = true ∧
    gives (.frequencyMove 15) (s 31) (fun t => t.domStep 15 == 31 && (t.die 15).volt == 32) = true ∧
    gives (.suspensionEnd 15) (st (fun s => s.modDie 15 (fun y => { y with changeTo := some 32, suspended := true }))) (fun t =>
      (t.die 15).volt == 31 && !(t.die 15).suspended) = true := by decide +kernel

theorem test_division_end :
    let s := st (fun s => s.setFlag F.clkDomDiv4 0 3 true)
    shows ((actingHard 3).all (fun n => decide (s.gov n + 20 ≤ hardOf n))) (.divisionEnd 3) s (fun t =>
      !t.flag F.clkDomDiv4 0 3 && !t.flag F.thmStackDiv4 0 3) = true := by decide +kernel

/-- A stack reset, its clock, its return and its loss (R358, R359, R430). -/
theorem test_stack_reset :
    let s := st (fun s => s.setTile 15 271 { released := true, sram := [(1, 1)], threads := [(0, { st := .ready })] })
    gives (.stackReset 15) s (fun t =>
      (t.die 15).isolated && t.domState 15 == cdIsolated && t.fr.work == [workStack 15] && t.fr.fault &&
      (t.thread 15 271 0).st == .idle && (t.tile 15 271).sram == [(1, 1)]) = true ∧
    gives (.clockPresent 15) (st (fun s => (s.fset F.clkDomState 0 15 cdIsolated).startWork (workStack 15))) (fun t =>
      t.domState 15 == cdReset) = true := by decide +kernel

theorem test_stack_return :
    let s := st (fun s => ((s.fset F.clkDomState 0 15 cdReset).startWork (workStack 15)).modDie 15 (fun y => { y with isolated := true }))
    let a : State := { s with toDevice := (s.setFlag F.clkDomLocked 0 15 true).aligned 15 }
    shows ((a.die 15).retimed && !a.coreless) (.stackRejoin 15) a (fun t =>
      !(t.die 15).isolated && t.domState 15 == cdSteady && t.fget F.clkXingState 0 15 == 2 && t.fget F.clkXingAligns 0 15 == 1 &&
      t.fr.work == []) = true ∧
    gives (.stackRejoin 15) { a with toDevice := a.fset F.clkXingState 0 15 3 } (fun t => (t.die 15).isolated && t.fget F.clkXingState 0 15 == 3) = true ∧
    shows (!s.running) (.stackPllTimeout 15) s (fun t => t.fr.lossPending == [15] && (t.die 15).isolated) = true := by
  decide +kernel

/-- Crossings: the third failed attempt and the third slip fail them (R355, R356). -/
theorem test_crossings :
    gives (.crossingAlignment 23 [] true) State.reset (fun t => t.fget F.clkXingState 0 23 == 2 && t.fget F.clkXingLatency 0 23 == 8) = true ∧
    gives (.alignmentAttemptTimeout 23) (st (fun s => s.modPln (fun p => { p with aligns := [(23, 1)] }))) (fun t =>
      t.pln.aligns.get 0 23 == 2 && t.fget F.clkXingState 0 23 == 1) = true ∧
    gives (.alignmentAttemptTimeout 23) (st (fun s => s.modPln (fun p => { p with aligns := [(23, 2)] }))) (fun t =>
      t.fget F.clkXingState 0 23 == 3) = true ∧
    gives (.slip 16 (15, true)) (st (fun s => s.modPln (fun p => { p with slipAt := [(16, [0, 0])] }))) (fun t =>
      t.fget F.clkXingState 0 16 == 3 && t.fget F.clkXingSlips 0 16 == 1 && t.occupancy 16 15 == 8) = true ∧
    gives (.slip 16 (15, false)) State.reset (fun t => t.fget F.clkXingState 0 16 == 1 && t.occupancy 16 15 == 0) = true := by decide +kernel

/-- In a crossing's alignment a lane that fails takes a spare at once (R355). -/
theorem test_alignment_sweeps :
    shows (State.reset.domState 15 != cdIsolated && !State.reset.toDevice.laneOut 15 199 67)
      (.crossingAlignment 15 [(199, 67, 0xFE), (0, 2, 0x1FE)] true) State.reset (fun t =>
        (t.die 15).lost.get 0 199 == 1 && t.laneOut 15 199 67 && (t.die 15).laneDelay.get 16 (vLane 0 2) == 5 &&
        t.fget F.clkXingState 0 15 == 2 && (t.die 15).retimed) = true := by decide +kernel

/-- A test slot begins; at a tick the lanes under test have been swept: lane 2 shows eight steps without error, lane 67 only seven in a row
(R426, R428). -/
theorem test_test_slot :
    let sw := [(2, 0x1FE), (67, 0xFE)]
    let s := st (fun s => s.modDie 15 (fun y => { y with lost := [(4551, 1)], testNext := 8703 }))
    let u : Device := s.modDie 15 (fun y => { y with slot := some { group := 4551, sweeps := sw, under := [2, 67] } })
    shows (!(s.idleLanes 15 4551).isEmpty) (.testSlot 15 4551 sw) s (fun t =>
      (t.die 15).testNext == 8704 && (t.die 15).slot.map TestSlot.group == some 4551 && (t.die 15).lost.get 0 4551 == 1) = true ∧
    (let t := u.rotate 15
     (t.die 15).lost.get 0 4551 == 2 && t.laneOut 15 4551 67 && !t.laneOut 15 4551 2 && (t.die 15).laneDelay.get 16 (vLane 4551 2) == 5) = true := by decide +kernel

/-! ## Lanes -/

/-- Lane 63 in a state; its role at reset is that of a switch lane. -/
def lane (v : Nat) : State := st (fun s => s.setLane 63 v)

theorem test_lane_training :
    let s : State := { lane lDown with toDevice := (lane lDown).fset F.prtLaneRole 3 15 rSwitch }
    shows (s.peerOk 63 1 0 0 0) (.laneTraining 63 5 1 0 0 0 200 0) s (fun t =>
      t.laneState 63 == lUp && t.fget F.prtLanePeer 3 15 == 0x3FF && t.fget F.prtLaneDelay 3 15 == 100 &&
      t.fab.fullLevel == [63]) = true ∧
    shows (!s.peerOk 63 2 0 0 0) (.laneTraining 63 5 2 0 0 0 200 0) s (fun t =>
      t.laneState 63 == lDown && t.flag F.prtLaneMiswired 3 15) = true := by decide +kernel

/-- Two failed attempts leave a lane TRAINING; the third takes the port die's spare, or with it spent fails the lane (R278, R280). -/
theorem test_training_timeout :
    let s := lane lDown
    let at2 : State := { s with toDevice := s.modFab (fun f => { f with attempts := [(63, 2)] }) }
    shows (s.laneRole 63 != 3) (.trainingAttemptTimeout 63) s (fun t =>
      t.laneState 63 == lTraining && t.fab.attempts.get 0 63 == 1) = true ∧
    shows (!at2.running) (.trainingAttemptTimeout 63) at2 (fun t =>
      t.laneState 63 == lDown && (t.port 3).spareUsed && (t.port 3).spareOn == some 15) = true ∧
    gives (.trainingAttemptTimeout 63) { at2 with toDevice := at2.modPort 3 (fun x => { x with spareUsed := true }) } (fun t =>
      t.laneState 63 == lFailed) = true := by decide +kernel

theorem test_lane_events :
    gives (.laneErrorRateExceeded 63 false ⟨16, false⟩) (lane lUp) (fun t => t.laneState 63 == lUp && t.fget F.prtLaneUncorr 3 15 == 16) = true ∧
    gives (.laneErrorRateExceeded 63 true ⟨7, true⟩) (lane lDimmed) (fun t => t.laneState 63 == lFailed && t.fget F.prtLaneUncorr 3 15 == 7 && !(t.port 3).spareUsed) = true ∧
    gives (.laneInterrupted 63) (lane lUp) (fun t => t.laneState 63 == lInterrupted) = true ∧
    gives (.laneLightReturn 63) (lane lInterrupted) (fun t => t.laneState 63 == lUp) = true ∧
    gives (.laneDown 63) (lane lInterrupted) (fun t => t.laneState 63 == lDown) = true ∧
    gives (.laneWake 63) (let s := lane lDimmed; { s with toDevice := s.modFab (fun f => { f with laneQ := [(63, 32)] }) }) (fun t =>
      t.laneState 63 == lUp) = true ∧
    gives (.linkDelayMeasurement 63 10000) (lane lUp) (fun t => t.fget F.prtLaneDelay 3 15 == 4095) = true := by decide +kernel

/-- Bypass element 7 has lanes 31 and 63: it opens with both UP, and closes again when they do not train (R27, R28, R285). -/
theorem test_bypass :
    let s := st (fun s => (((List.range 8).foldl (fun s i => (s.setLane (westLane i) lUp).setLane (eastLane i) lUp) s).setLane 12 lFailed).modFab
      (fun f => { f with bypassOpen := [1, 2, 3, 4, 5, 6] }))
    shows (westLane 7 == 31 && eastLane 7 == 63) (.bypassElementOpen 7) s (fun t =>
      t.fab.bypassOpen == [1, 2, 3, 4, 5, 6, 7] && t.out == [.quiesce 7] && t.laneState 31 == lDown && t.laneState 63 == lDown) = true ∧
    gives (.bypassLaneTimeout 7) (st (fun s => s.modFab (fun f => { f with bypassOpen := [7] }))) (fun t =>
      t.fab.bypassOpen == [] && t.laneState 31 == lFailed && t.laneState 63 == lFailed) = true ∧
    gives (.laneQuiesceNotice 7 true) State.reset (fun t => t.fab.quiesced == [(7, true)]) = true := by decide +kernel

/-! ## The Plinth -/

/-- Crossings that are ALIGNED. -/
def open_ (l : List Nat) (s : Device) : Device := l.foldl (fun s x => s.fset F.clkXingState 0 x 2) s

/-- A running job, with the crossings of stacks 0 to 2 and of port die 3 and every bridge ALIGNED. -/
def jobSt (j : Job) (f : Device → Device := id) : State :=
  st (fun s => f (open_ [0, 1, 2, 19, 20, 21, 22, 23] { run s with fr := { s.fr with job := some j } }))

/-- A window of stack 0's edge 0 to line 10 on of edge 3 of stack 1, counted by counter 7. -/
def entA : MapEnt :=
  { typ := tAssign, bus := 0, chan := 0, chans := 1, dsts := [1], srcLine := 1, dstLine := 10, edge := 3, lines := 4, cc := 7,
    ccEn := true }

/-- The send queue's line 3 leaves as line 2 of the window; it arrives at line 12 of edge 3 (R196–R202). -/
theorem test_cells :
    let s := jobSt { maps := [[entA]] } (fun s => s.modDie 0 (fun d => { d.lbStore 3 5 1 with sendQ := [(0, [{ entry := 0, line := 3 }])] }))
    let c : Cell := { phase := 0, entry := 0, index := 2, data := 5, parity := 1, dst := 1 }
    let r := jobSt { maps := [[entA]] } (fun s => s.modPln (fun p => { p with flight := [(chKey 0 0, [c])] }))
    shows (s.lit 0 0 && (s.entryAt 0 0) == some (0, entA)) (.cellSend 0 0) s (fun t =>
      t.pln.flight.get [] (chKey 0 0) == [c] && (t.die 0).sendQ == []) = true ∧
    shows (r.lbRoom 1 3 12 && passes 0 1) (.cellReceive 1 0 0 0 0 [(89, 1), (0, 2), (3, 3), (4, 4), (5, 255)] true false) r (fun t =>
      (t.die 1).lbRead (lbKey 3 12) == (5, 1) && t.fget F.plnFecCorrBytes 0 0 == 5 && t.pln.flight == [] && t.mem.cc.get 0 7 == 1) = true ∧
    gives (.cellReceive 1 0 0 0 0 [(89, 1), (0, 2), (3, 3), (4, 4), (5, 255), (6, 1)] true false) r (fun t => t.pln.flight == [] && t.fget F.plnErrUncorr 0 == 1) = true ∧
    gives (.cellReceive 1 0 0 0 1 [] true false) r (fun t => t.pln.flight == r.pln.flight && t.fget F.plnErrWrongId 0 == 1) = true ∧
    gives (.darkChannel 1 0 0) r (fun t => t.pln.flight == [] && t.pln.dark == [0]) = true := by decide +kernel

/-- A receiver without block boundaries takes nothing and counts good blocks; a line that comes as a tick clears the landing buffers is
lost, and counted at the next summary (R124, R195). -/
theorem test_cells_refused :
    let c : Cell := { phase := 0, entry := 0, index := 2, data := 5, parity := 1, dst := 1 }
    let r := jobSt { maps := [[entA]] } (fun s => s.modPln (fun p => { p with flight := [(chKey 0 0, [c])] }))
    let u : State := { r with toDevice := r.modPln (fun p => { p with flight := [], sync := [(rxKey 1 0 0, 2)] }) }
    gives (.cellReceive 1 0 0 0 0 [] true false) u (fun t => t.pln.sync.get 0 (rxKey 1 0 0) == 1 && t.dies == u.dies) = true ∧
    gives (.cellReceive 1 0 0 0 0 [(7, 7)] true false) u (fun t => t.pln.sync.get 0 (rxKey 1 0 0) == 8) = true ∧
    gives (.cellReceive 1 0 0 0 0 [] true true) r (fun t => (t.die 1).lbLate == 1 && (t.die 1).lb == [] && t.pln.flight == []) = true := by
  decide +kernel

/-- A crossing that is not ALIGNED cuts a site off (R354). -/
theorem test_cut_off :
    let c : Cell := { phase := 0, entry := 0, index := 2, data := 5, parity := 1, dst := 1 }
    let r := jobSt { maps := [[entA]] } (fun s => (s.fset F.clkXingState 0 1 1).modPln (fun p => { p with flight := [(chKey 0 0, [c])] }))
    shows (!r.reaches 0 1) (.cellReceive 1 0 0 0 0 [] true false) r (fun t => (t.die 1).lb == [] && !t.lit 0 0) = true := by decide +kernel

/-- The scrambler is undone at the receiver, and a codeword has the syndrome 0 (R195). -/
theorem test_scrambler :
    let reg := List.replicate 39 true ++ List.replicate 19 false
    zeroSyndrome (rsBlock (List.range 80)) = true ∧ zeroSyndrome (errorPattern [(89, 1)]) = false ∧
    descramble reg (scramble reg [true, false, true]) = [true, false, true] ∧ scramble reg [true, false, true] ≠ [true, false, true] := by
  decide +kernel

/-- Cells for a memory site are held until its controller applies them; for a port site they reach its port die (R202, R204). -/
theorem test_cells_elsewhere :
    let m := jobSt { maps := [[{ entA with dsts := [16] }]] } (fun s => s.modPln (fun p => { p with
      flight := [(chKey 0 0, [{ dst := 16 }])] }))
    let p := jobSt { maps := [[{ entA with dsts := [39] }]] } (fun s => s.modPln (fun p => { p with
      flight := [(chKey 0 0, [{ index := 2, data := 5, dst := 39 }])] }))
    gives (.cellReceive 16 0 0 0 0 [] true false) m (fun t => t.pln.heldLines == [{ dst := 16 }] && t.pln.flight == []) = true ∧
    gives (.cellReceive 39 0 0 0 0 [] true false) p (fun t => t.pln.toPort.get [] 0 == [(2, 5)]) = true := by decide +kernel

/-- One channel of stack 0 in service holds all of P-space unit 0: 2 MiB of SCRATCH, and READ_ONLY after it. -/
def hbmJob : Job :=
  { maps := [[{ entA with dsts := [16], gaddr := gAddr 0 1 64 }]], iBytes := 0, dBytes := 0, pUnits := [2], programs := 1
    regions := [{ kind := rgScratch, flags := 4, base := gAddr 0 1 0, len := 2097152 },
                { kind := rgReadOnly, base := gAddr 0 1 2097152, len := 2097152 }] }

/-- HBM4 channel (0, 0) is logical channel 0 of one. -/
def hbm (s : Device) : Device :=
  ((s.setCmt F.memCmtCtlNn 1).setFlag F.memCmtValid 0 0 true).fset F.memStatusInSvc 0 0 1

/-- Line 2 of the window lands at P-space offset 64 + 128 (R202, R243); nothing else changes. -/
theorem test_window_line :
    let c : Cell := { index := 2, data := 0x0102, parity := parityOf 0x0102, dst := 16 }
    let s := jobSt hbmJob (fun s => (hbm s).modPln (fun p => { p with heldLines := [c] }))
    shows (!s.settling && s.accessStatus false false .write (gAddr 0 1 192) 64 == stOk && s.locate (gAddr 0 1 192) == some (0, 192))
      (.windowLineApply 16) s (fun t =>
        t.pln.heldLines == [] && t.mem.bytes == [(192, 2), (193, 1)] && t.mem.cc.get 0 7 == 1) = true := by decide +kernel

/-- A fetch sends its next line to every destination (R203). -/
theorem test_fetch :
    let e : MapEnt := { typ := tFetch, bus := 128, chan := 0, chans := 1, dsts := [1, 2], lines := 4, gaddr := gAddr 0 1 0 }
    let s := jobSt { hbmJob with maps := [[e]] } (fun s => (hbm s).modMem (fun m => { m with bytes := [(0, 7)] }))
    shows (s.rotation 0 e == some 0 && (s.locate (gAddr 0 1 0)).isSome) (.fetchLineRead 0) s (fun t =>
      (t.pln.flight.get [] (chKey 128 0)).map (fun c => (c.dst, c.data.toNat, c.parity)) == [(1, 7, parityOf 7), (2, 7, parityOf 7)] &&
      t.pln.fetched.get 0 0 == 1) = true := by decide +kernel

/-- Correlations with the 64 tones: tone 5 stands out by 10 dB, and by less. -/
def tones (v : Int) : List Int := (List.range 64).map (fun n => if n = 5 then v else if n = 63 then 0 else -50)

/-- Rings: an acquisition, its identity check, its failure and a loss of lock (R218–R221). -/
theorem test_rings :
    let s := st (fun s => s.setRing 0 223 7 { state := rAcquiring, line := 5 })
    gives (.ringAcquisition 0 223 7 63) State.reset (fun t => t.ring 0 223 7 == { state := rAcquiring, line := 63 }) = true ∧
    gives (.identityCheck 0 223 7 (tones 100)) s (fun t => t.ring 0 223 7 == { state := rLocked, line := 5 }) = true ∧
    gives (.identityCheck 0 223 7 (tones 99)) s (fun t => (t.ring 0 223 7).fails == 1 && t.fget F.plnErrWrongId 0 == 1) = true ∧
    gives (.identityCheck 0 223 7 (tones 99)) (st (fun s => s.setRing 0 223 7 { state := rAcquiring, line := 5, fails := 1 })) (fun t =>
      (t.ring 0 223 7).state == rDeacc) = true ∧
    gives (.ringLockTimeout 0 223 7) s (fun t => (t.ring 0 223 7).state == rDeacc && t.fget F.plnSiteRingsDeacc 0 0 == 1) = true := by
  decide +kernel

theorem test_lock_loss :
    let s := jobSt { maps := [[entA]] } (fun s => s.setRing 1 0 0 { state := rLocked, line := 0 })
    shows ((s.chansInto 1 0).find? (fun c => s.lineOf 0 c == 0) == some 0) (.lockLoss 1 0 0) s (fun t =>
      (t.ring 1 0 0).state == rAcquiring && t.pln.dark == [0] && t.fget F.plnErrLockLoss 0 == 1) = true := by decide +kernel

/-- A histogram with two pairs of neighbouring values, and samples of the upper pair. -/
def histo (gap up : Nat) : List Nat := (List.range 32).map (fun v =>
  if v = 7 ∨ v = 8 then (65536 - up) / 2 else if v = 8 + gap ∨ v = 9 + gap then up / 2 else 0)

/-- Of a pass's three trials the best is adopted, here the step up; one that would lower the eye figure is rejected; a window whose mark
density is not 45 to 55 % is discarded (R213–R215). -/
theorem test_calibration :
    gives (.calibrationPass 223 60 (histo 12 32768) (histo 14 32768) (histo 13 32768)) State.reset (fun t =>
      t.pln.bias.get 0 (lineKey 223 60) == 1 && t.pln.eye.get 0 (lineKey 223 60) == 1500 && t.pln.passed == [lineKey 223 60]) = true ∧
    gives (.calibrationPass 223 60 (histo 12 32768) (histo 14 32768) (histo 13 32768))
      (st (fun s => s.modPln (fun p => { p with eye := [(lineKey 223 60, 1501)] }))) (fun t =>
      t.pln.bias == [] && t.fget F.plnErrPlausReject 3 == 1 && t.pln.passed == [lineKey 223 60]) = true ∧
    gives (.calibrationPass 223 60 (histo 12 32768) (histo 14 36046) (histo 13 32768)) State.reset (fun t => t.pln == State.reset.pln) = true := by
  decide +kernel

theorem test_cal_stale :
    gives (.calStale 16 0) (st (fun s => s.fset F.plnBusTxGroups (busQuad 16) (busLocal 16) 12)) (fun t =>
      t.pln.stale == [lineKey 16 0] && t.flag F.plnBusCalStale (busQuad 16) (busLocal 16)) = true := by decide +kernel

theorem test_live_values :
    (State.reset.liveUpdate 0 223 7 0 (-2) 5).pln.corr.get {} (ringKey 0 223 7) = { offset := -2, eye := 5 } ∧
    ((State.reset.liveUpdate 0 223 7 0 3 5).pln.corr = [] ∧ (State.reset.liveUpdate 0 223 7 0 3 5).fget F.plnErrPlausReject 0 = 1) ∧
    ((State.reset.liveUpdate 0 223 7 1 110 5).pln.corr.get {} (ringKey 0 223 7)).gain = 110 ∧
    (State.reset.liveUpdate 0 223 7 3 50 5).lockOffset 0 223 7 = 50 := by decide +kernel

/-- Groups around 7.5 and 24.5 put the threshold at their midpoint 16, around 9.5 and 24.5 at 17, at a bus's monitor receiver too, and again
only after 100 µs (R215). -/
theorem test_live_threshold :
    let h := (List.range 32).map (fun v => if v = 9 ∨ v = 10 then 16384 else if v = 24 ∨ v = 25 then 16384 else 0)
    let th (t : Device) (s : Nat) := (t.pln.corr.get {} (ringKey s 223 0)).threshold
    gives (.liveUpdate (srcSite 223) 223 0 2 h 0) State.reset (fun t => th t (srcSite 223) == 17) = true ∧
    gives (.liveUpdate 0 223 0 2 h 0) State.reset (fun t => th t 0 == 17) = true ∧
    gives (.liveUpdate 0 223 0 2 h 0) (st (fun s => s.modPln (fun p => { p with liveAt := [(ringKey 0 223 0, 1)] }))) (fun t =>
      th t 0 == 16) = true := by decide +kernel

/-- Die 15 is on the fast control path. -/
def fast15 : State := st (fun s => s.modThm (fun x => { x with fast := [15] }))

theorem test_feed_forward : gives (.feedForward 15 0) fast15 (fun t => (t.die 15).heater.isSome) = true := by
  decide +kernel

/-- Bus 223, with its 60 channels. -/
def bus223 : Device := State.reset.toDevice.fset F.plnBusTxGroups (busQuad 223) (busLocal 223) 12

/-- Lines 55 and 60 of quadrant 3's comb live; as line 60 of a bus dies, a standby line becomes its calibration line (R213, R222). -/
theorem test_line_deaccession :
    bus223.combDead 3 55 = false ∧ (bus223.killLine 223 60).lineDead 223 60 = true ∧
    (bus223.killLine 223 60).calLineOf 223 = 61 ∧ (bus223.killLine 223 60).lineDead 222 60 = false := by decide +kernel

/-- A pool channel of stack 0 is granted to the unit its site has cells for: unit 64, memory site 16 (R209). -/
theorem test_pool_grant :
    let e : MapEnt := { typ := tPool, bus := 0, chan := 5, chans := 1 }
    let s := jobSt { maps := [[e]], phases := 1 } (fun s => (s.setFlag F.plnStatusReady 0 0 true).modPln (fun p => { p with demand := [(64, 3)] }))
    shows s.running .poolGrant s (fun t => t.pln.nextGrants == [(5, 65)]) = true := by decide +kernel

/-! ## Memory -/

/-- Two reads of a line join within 64 cycles; a write shuts the queue of its line (R247). -/
theorem test_controller :
    let q : CtlReq := { line := 33554431, site := 1, bus := 3, id := 2 }
    let s := st (fun s => s.modMem (fun m => { m with waiting := [(639, [q])] }))
    gives (.controllerRead 19 31 33554431 39 2 3) State.reset (fun t => t.mem.waiting == [(639, [{ q with site := 39 }])]) = true ∧
    gives (.controllerRead 19 31 33554431 39 4 3) { s with now := 64 } (fun t =>
      t.mem.waiting == [(639, [{ q with joined := [(39, 4, 64)] }])] && t.fget F.memStatsMerged 19 == 1) = true ∧
    gives (.controllerRead 19 31 33554431 39 4 3) { s with now := 65 } (fun t => (t.mem.waiting.get [] 639).length == 2) = true ∧
    gives (.controllerWrite 19 31 33554431 0x0201 (parityOf 0x0201) 2 39 3) s (fun t =>
      t.mem.bytes == [] && (t.mem.waiting.get [] 639).map (fun q => q.write.isSome) == [false, true]) = true ∧
    gives (.controllerWrite 19 31 33554431 0x0201 (parityOf 0x0201) 2 39 3) State.reset (fun t =>
      t.mem.bytes == [(639 * 2 ^ 31 + 2147483585, 2)] && t.mem.waiting == []) = true ∧
    gives (.controllerWrite 19 31 33554431 0x0201 (parityOf 0x0201 + 1) 2 39 3) s (fun t =>
      t.mem == s.mem && t.fget F.memErrWparity 19 == 1) = true := by decide +kernel

/-- A response leaves from 16 cycles on, to its requester and to those that joined; corrected, and uncorrectable (R247, R250, R261). -/
theorem test_response_leaves :
    let s : State := { (st (fun s => s.modMem (fun m => { m with waiting := [(0, [{ line := 5, site := 2, id := 7, joined := [(3, 8, 0)] }])] })))
      with now := 16 }
    gives (.readResponseLeave 0 0 5 1) s (fun t => t.mem.waiting == [] && t.fget F.memChanCorr 0 0 == 1 && t.out == [.line 2 7 0 (parityOf 0), .line 3 8 0 (parityOf 0)]) = true ∧
    gives (.readResponseLeave 0 0 5 1) { s with now := 15 } (fun t => t.mem.waiting == s.mem.waiting) = true ∧
    gives (.readResponseLeave 0 0 5 1) { (st (fun s => s.modMem (fun m => { m with
      waiting := [(0, [{ line := 5, site := 2, id := 7, joined := [(3, 8, 1)] }])] }))) with now := 16 } (fun t =>
      t.out == [.line 2 7 0 (parityOf 0)] &&
      t.mem.waiting == [(0, [{ line := 5, site := 3, id := 8, came := 1, got := some (0, parityOf 0) }])]) = true ∧
    gives (.readResponseLeave 0 0 5 2) s (fun t =>
      t.mem.bad == [5] && t.mem.rowsDue == [0] && t.flag F.memErrAddrValid 0 && t.fget F.memErrAddrLine 0 == 5) = true := by
  decide +kernel

/-- A job whose lines 1 (SCRATCH) and 32768 (a weight page) are unreadable. -/
def unread : State := jobSt hbmJob (fun s => (hbm s).modMem (fun m => { m with bad := [1, 32768], bytes := [(64, 5)] }))

/-- An unreadable line of SCRATCH is rewritten with zeros (R263). -/
theorem test_unreadable_scratch :
    shows (unread.globalOf 0 0 64 == some (gAddr 0 1 64)) (.unreadableLineReport 0 0 1) unread (fun t =>
      t.mem.bytes == [] && t.mem.bad == [32768]) = true := by decide +kernel

/-- An unreadable line of a weight page holds the page (R262). -/
theorem test_unreadable_page :
    gives (.unreadableLineReport 0 0 32768) unread (fun t =>
      t.mem.heldPages == [(gAddr 0 1 2097152) / 4096] && t.mem.bytes == [(64, 5)]) = true := by decide +kernel

/-- A job with a held weight page. -/
def heldPage : State := jobSt hbmJob (fun s => ((hbm s).fset F.prtDdrStatusCapGb 0 0 32).modMem (fun m => { m with
  heldPages := [(gAddr 0 1 2097152) / 4096], bytes := [(2097152, 9)] }))

/-- The canonical copy of the device's one unit stands at the top of its DIMM space, below the reserved 6 GiB (R258). -/
theorem test_canonical_place :
    heldPage.dimmSpace - heldPage.dimmReserved heldPage.job.regions = 128000000000 - 6 * 2 ^ 30 - 2097152 := by decide +kernel

/-- The page is rewritten from its copy, here all zeros. -/
theorem test_page_repair :
    gives (.pageRepair ((gAddr 0 1 2097152) / 4096)) heldPage (fun t => t.mem.heldPages == []) = true := by decide +kernel

/-- The last repair of a channel degrades it; row 2^21 − 1 (R250). -/
theorem test_soft_repair :
    let s := st (fun s => (s.fset F.memChanPprLeft 19 31 1).modMem (fun m => { m with rowsDue := [rowKey 19 31 2097151] }))
    gives (.softRepair 19 31 2097151) s (fun t =>
      t.mem.rowsDue == [] && t.mem.softRows == [rowKey 19 31 2097151] && t.fget F.memChanPprLeft 19 31 == 0 &&
      t.fget F.memChanState 19 31 == chDegraded) = true := by decide +kernel

/-- Hard losses withdraw a running job (R248, R253, R259). -/
theorem test_hard_losses :
    let s := jobSt {} (fun s => s.fset F.frmHoldLimit 0 0 3)
    gives (.hbmCommandTimeout 19 31 65535) s (fun t => t.mem.reissued == [65536 * 639 + 65535] && t.mem.lostChans == []) = true ∧
    gives (.hbmCommandTimeout 19 31 65535) { s with toDevice := s.modMem (fun m => { m with reissued := [65536 * 639 + 65535] }) }
      (fun t => t.mem.lostChans == [639] && t.fr.withdraw == wHbmHard) = true ∧
    gives (.channelTrainingLoss 19 (some 31)) s (fun t => t.mem.lostChans == [639] && t.fr.withdraw != 0) = true ∧
    gives (.channelTrainingLoss 19 none) s (fun t => t.mem.lostChans.length == 32 && t.fget F.memStatusState 19 == 3) = true ∧
    gives (.ddrHardLoss 7) s (fun t => t.mem.ddrLost && t.fget F.prtDdrStatusState 3 1 == 4 && t.fr.withdraw != 0) = true := by
  decide +kernel

/-- 105 °C is CRITICAL, and withdraws the device; 104 °C is THROTTLE (R249). -/
theorem test_hbm_temperature :
    gives (.hbmTemperatureRead 3 105) (st run) (fun t => t.fget F.memStatusBand 3 == 3 && t.fr.withdraw == wMemoryCritical) = true ∧
    gives (.hbmTemperatureRead 3 104) (st run) (fun t => t.fget F.memStatusBand 3 == 2 && t.fget F.memTempTemp 3 == 104) = true := by
  decide +kernel

/-- An error in one DRAM device of a DIMM is corrected, one in two is not (R259). -/
theorem test_scrub_errors :
    gives (.patrolScrub [(7, 9, 1, 4)]) State.reset (fun t => t.fget F.prtDdrErrCorr 3 1 == 1 && t.mem.bad == []) = true ∧
    gives (.patrolScrub [(7, 9, 2, 2)]) State.reset (fun t =>
      t.fget F.prtDdrErrCorr 3 1 == 0 && t.flag F.prtDdrErrAddrValid 3 1 && t.mem.bad == [dimmKey 7 576 / 64]) = true ∧
    gives (.hbmTemperatureRead 27 90) State.reset (fun t => t.fget F.prtDdrStatusTemp 3 1 == 90) = true := by decide +kernel

/-- A degraded channel migrates to the lowest spare; its copy is complete, and the inactive half of the table names it (R252). -/
theorem test_migration :
    let s := st (fun s => ((((hbm s).fset F.memChanState 0 0 chDegraded).fset F.memChanState 0 30 chSpare).fset F.memStatusSpares 0 0 2).modMem
      (fun m => { m with bytes := [(5, 6)] }))
    gives (.migration 0 0) s (fun t =>
      t.fget F.memChanState 0 30 == chMigrating && t.flag F.memStatusMigrating 0 && t.mem.migrating == [(0, 31)] &&
      t.fget F.memStatusSpares 0 == 1) = true ∧
    gives (.migrationCopyComplete 0) { s with toDevice := s.modMem (fun m => { m with migrating := [(0, 31)] }) } (fun t =>
      t.mem.bytes == [(5, 6), (30 * 2 ^ 31 + 5, 6)] && t.mem.switching == [0] && t.flag F.memCmtCtlPending 0 &&
      t.fget F.memCmtChannel 0 2048 == 30) = true ∧
    gives (.migration 19 31) (st (fun s => s.fset F.memChanState 19 31 chDegraded)) (fun t => t.mem.migrating == []) = true ∧
    gives (.patrolScrub []) State.reset (fun t => t.mem.scrubs == 1) = true := by decide +kernel

/-! ## Frames -/

/-- A running job whose frames are changed. -/
def fr (g : Frames → Frames) (f : Device → Device := id) : State := jobSt {} (fun s => f { s with fr := g s.fr })

/-- Tick 5 ends frame 3's attempt. -/
def frm3 (g : Frames → Frames) : State := fr (fun x => g { x with tick := 4 }) (fun s => s.fset F.frmFrameFrame 0 0 3)

/-- The six ways in which an attempt ends at tick 5 have states (R163, R165, R169–R173, R420). -/
theorem witness_AttemptEnds :
    let stop (s : Device) := s.fr.holds.find? (s.stops 5)
    let timely (s : Device) := s.fr.holds.any (fun g => g.target == 5 && !g.late && !g.stop)
    let own (s : Device) := s.fr.holds.find? (s.governs 5)
    let stopped := frm3 (fun x => { x with holds := [{ target := 6 }, { target := 5 }, { target := 5, stop := true, reason := 7 }] })
    let held := frm3 (fun x => { x with holds := [{ target := 5 }], eowMet := true })
    let done := frm3 (fun x => { x with holds := [{ target := 6 }], eowMet := true })
    let late := frm3 (fun x => { x with holds := [{ target := 5, late := true }], eowMet := true })
    let leaves := frm3 (fun x => { x with withdraw := 12, holds := [{ target := 5, stop := true, reason := jcWithdrawal }] })
    let again := frm3 (fun x => { x with replay := true, idle := true })
    (leaves.fr.withdraw != 0 && stop leaves.toDevice == none && leaves.pln.waiting.isEmpty) = true ∧
    (stop again.toDevice == none && !timely again.toDevice && again.fr.replay && again.fr.withdraw == 0) = true ∧
    (stopped.fr.withdraw == 0 && stop stopped.toDevice == some { target := 5, stop := true, reason := 7 }) = true ∧
    (held.fr.withdraw == 0 && stop held.toDevice == none && timely held.toDevice && held.lastHold 5 == some { target := 5 }) = true ∧
    (stop done.toDevice == none && !timely done.toDevice && !done.fr.replay && own done.toDevice == none && done.fr.eowMet) = true ∧
    (stop late.toDevice == none && !timely late.toDevice && own late.toDevice != none) = true ∧
    (own (frm3 id).toDevice == none && !(frm3 id).fr.eowMet && !(frm3 id).resyncing) = true := by decide +kernel

/-- A running device that is not to rejoin (R142). -/
theorem witness_TickBeginsAttempt : (frm3 id).running = true ∧ (frm3 id).nextTick = 5 ∧ (frm3 id).fr.rejoin = false := by
  decide +kernel

/-- A partner out of lockstep, and one that may restart no more; a lease holder whose partner copies (R443). -/
theorem witness_TickBeginsAttempt_resync :
    let partner (n : Nat) : Device := (State.reset.fset F.frmMirrorSync 0 0 syUnsynced).fset F.frmResyncRestarts 0 0 n
    let holder : Device := (State.reset.fset F.frmMirrorSync 0 0 syCopying).fset F.frmMirrorRole 0 0 1
    (!State.reset.resyncing && !State.reset.copying && (partner 2).resyncing && (partner 3).resyncing &&
      (partner 2).resync.fget F.frmMirrorSync == syCopying && (partner 3).resync.fget F.frmMirrorSync == syUnsynced &&
      holder.copying && !holder.resyncing) = true := by decide +kernel

/-- Work not ended at the deadline is a miss (R161, R162). -/
theorem test_deadline :
    gives .deadline (fr (fun x => { x with eowMet := true })) (fun t => t.fr.past && !t.fr.missed && t.fget F.frmStateStep == 1) = true ∧
    gives .deadline (fr (fun x => { x with fault := true })) (fun t =>
      t.fr.past && t.fr.missed && t.fget F.frmTimingEowLast == 0xFFFF && t.fget F.frmTimingMisses == 1) = true ∧
    gives .deadline (fr (fun x => { x with idle := true })) (fun t => t.fr.past && !t.fr.missed && t.fget F.frmTimingMisses == 0) = true := by
  decide +kernel

/-- An accepted job. -/
def ready (j : Job) (x : Frames) : State := st (fun s => { (s.fset F.frmStateJob 0 0 jReady).fset F.prtTickState 0 0 tkLocked with fr := { x with job := some j, startAt := some 9 } })

set_option maxRecDepth 100000 in
theorem test_job_start :
    gives .jobStart (ready { mirrorPartner := 2 } {}) (fun t =>
      t.jobState == jRunning && t.fr.tick == 0 && t.fr.settle && t.fr.startAt.isNone && t.fget F.frmMirrorSync == sySynced &&
      t.fget F.frmMirrorRole == 1) = true := by decide +kernel

set_option maxRecDepth 100000 in
theorem test_job_start_stops :
    gives .jobStart (ready {} { holds := [{ target := 0, stop := true, reason := 8 }] }) (fun t =>
      t.jobState == jStopped && t.fget F.frmFaultCause == 8 && t.flag F.frmFaultValid) = true := by decide +kernel

theorem test_phase_boundary :
    let s := fr id (fun s => ({ s with pln := { s.pln with nextGrants := [(5, 65)], dark := [3] } }).fset F.frmConfigPhases 0 0 2)
    gives .phaseBoundary s (fun t => t.phase == 1 && t.pln.grants == [(5, 65)] && t.pln.nextGrants.isEmpty && t.pln.dark.isEmpty) = true ∧
    gives .retuneGuardEnd (fr id (fun s => { s with pln := { s.pln with guard := true } })) (fun t => !t.pln.guard) = true ∧
    gives .regulatorWarning (fr id) (fun t => t.pwr.raisedUntil == 20000) = true := by decide +kernel

/-- A receiver of a moved channel that has seen 16 wrong blocks by the end of the guard: its ring acquires, and the channel stays dark
(R220). -/
theorem test_wrong_lock :
    let s := jobSt { maps := [[{ typ := tAssign, bus := 0, chan := 0, chans := 1, dsts := [1], lines := 4 }]] } (fun s =>
      (s.setRing 1 0 0 { state := rLocked, line := 0 }).modPln (fun p => { p with
        guard := true, moved := [chKey 0 0], wrongRun := [(rxKey 1 0 0, 16)] }))
    shows (s.running && (s.chansInto 1 0).contains 0 && (List.range 40).all (fun j => j == 1 || !(s.chansInto j 0).contains 0) &&
        (List.range 8).find? (fun r => (s.ring 1 0 r).line == s.lineOf 0 0 && (s.ring 1 0 r).state == rLocked) == some 0)
      .retuneGuardEnd s (fun t => t.ring 1 0 0 == { state := rAcquiring, line := 0 } && t.pln.dark == [chKey 0 0] && !t.pln.guard) = true := by
  decide +kernel

/-- A standby that has heard no beacon of its holder sends one and holds the next tick (R438, R440). -/
theorem test_beacon :
    let s := fr (fun x => { x with tick := 7 }) (fun s => (((s.fset F.frmMirrorSync 0 0 sySynced).fset F.frmMirrorRole 0 0 2).fset
      F.frmMirrorPartner 0 0 3).fset F.frmHoldLimit 0 0 4)
    shows (s.synced && s.fget F.frmMirrorRole == 2 && decide (s.fget F.frmHoldConsec < s.fget F.frmHoldLimit)) .beaconDue s (fun t =>
      t.out.any (fun o => match o with | .toGateway p => p.typ == tLease && p.dst == 3 | _ => false) &&
      t.fr.holds.any (fun h => h.target == 8 && h.reason == hFabric && !h.stop)) = true := by decide +kernel

/-- A commit of tick 5 awaits confirmation. -/
def provisional (hs : List HoldRec) : State :=
  fr (fun x => { x with tick := 5, settle := true, provisional := true, holds := hs }) (fun s => s.fset F.frmFrameFrame 0 0 4)

theorem test_confirm :
    gives .confirmPoint (provisional []) (fun t => t.fget F.frmCommittedCount == 4 && !t.fr.provisional && !t.fr.settle && t.frame == 4) =
      true := by decide +kernel

theorem witness_ConfirmPoint :
    let hs : List HoldRec := [{ target := 5, stop := true, reason := 9, raiser := 1023 }]
    ((provisional [{ target := 5 }]).running && (provisional [{ target := 5 }]).fr.settle &&
      (provisional [{ target := 5 }]).fr.saved.lens.isEmpty &&
      (provisional [{ target := 5 }]).fr.holds.find? (fun g => g.target == 5 && g.stop) == none &&
      (provisional [{ target := 5 }]).fr.holds.find? (fun g => g.target == 5) == some { target := 5 }) = true ∧
    (provisional hs).fr.holds.find? (fun g => g.target == 5 && g.stop) = hs.head? := by decide +kernel

/-! ## Power and temperature -/

/-- The effective limit is 1000 W, and nine samples stand in the short window. -/
def limited (l : List Nat) (g : Power → Power := id) : State :=
  st (fun s => { s.fset F.pwrLimitEffective 0 0 1000 with pwr := g { s.pwr with last10 := l } })

/-- A mean of ten samples brakes at 120 % of the limit, not below it (R378); the hundredth ends the millisecond (R372). -/
theorem test_power_sample :
    gives (.powerSample 1200) (limited (List.replicate 9 1200)) (fun t => t.pwr.brake && t.pwr.block == [1200]) = true ∧
    gives (.powerSample 1199) (limited (List.replicate 9 1200)) (fun t => !t.pwr.brake) = true ∧
    gives (.powerSample 1001) (limited [] (fun p => { p with block := List.replicate 99 1000 })) (fun t =>
      t.pwr.block.isEmpty && t.fget F.pwrStatusP1ms == 1000 && t.pwr.excursion == 1) = true ∧
    gives (.powerSample 1000) (limited [] (fun p => { p with block := List.replicate 99 1000, excursion := 4 })) (fun t =>
      t.pwr.excursion == 0) = true := by decide +kernel

/-- MEMORY is served first: 100 W more than the floors serve its demand and leave 20 W to COMPUTE (R376, R377). -/
def draws : Draws :=
  { fixedW := 20, dC := 300, fC := 100, dM := 130, fM := 50, dL := 40, fL := 30, ddrW := 10, stackDyn := [], hbmDemand := [] }

theorem test_extras :
    extras draws [0, 1, 2] 100 = ([(0, 80), (1, 20), (2, 0)], 0) ∧ extras draws [0, 1, 2] (-1) = ([(0, 0), (1, 0), (2, 0)], -1) ∧
    shareOf draws (extras draws [0, 1, 2] 100).1 1 = 120 := by decide +kernel

theorem test_input_budget :
    let s := { limited [] with toDevice := { (limited []).fset F.pwrCoefValue 0 11 900 with energy := [(acUndimmed, 40 * 10 ^ 12)] } }
    shows (s.inputBudgetW == 1250) (.inputBudget ()) s (fun t =>
      t.fget F.pwrShareBudget == 1250 && t.fget F.pwrShareMemory == 0 && t.fget F.pwrShareLinks == 40 && !t.pwr.floor) = true := by
  decide +kernel

theorem test_phase_failure :
    gives (.regulatorPhaseFailure 5 800) State.reset (fun t => t.pwr.phaseLoss.get 0 5 == 1 && t.pwr.derate.isNone) = true ∧
    gives (.regulatorPhaseFailure 5 800) (st (fun s => { s with pwr := { s.pwr with phaseLoss := [(5, 1)], derate := some 700 } })) (fun t =>
      t.pwr.phaseLoss.get 0 5 == 2 && t.pwr.derate == some 700) = true := by decide +kernel

/-- A device that coordinates its own set. -/
def coord : State :=
  fr (fun x => { x with job := some { powerCoord := 0 } }) (fun s => { s with boot := { s.boot with cat := { s.boot.cat with coordEligible := true } } })

theorem test_power_report :
    shows (coord.running && coord.inSet && coord.coordinating) .powerReport coord (fun t =>
      t.pwr.slackMin == 0xFFFF && t.pwr.rptSeq == 1 && t.rd .pwrRpt 0 coord.myPos == coord.reportValue % 2 ^ 64) = true := by decide +kernel

/-- The pair of the least and the greatest slack: the giver has more than twice it, and 920 W at least (R388). -/
theorem test_pairs :
    let m (i sl l : Nat) : Member := { pos := i, no := i, slack := sl, limit := l, ceiling := 2000, throttled := false, young := false }
    (pairMembers [m 0 10 1000, m 1 15 1000, m 2 20 1000, m 3 21 920] 8 0 3 0).map (fun e => (e.1.pos, e.2.pos)) = [(0, 3)] ∧
    (pairMembers [m 0 10 1000, m 1 20 1000] 8 0 1 0) = [] ∧ (pairMembers [m 0 10 1981, m 1 90 1000] 8 0 1 0) = [] := by decide +kernel

theorem test_coordination_timeout :
    gives (.coordinationTimeout false) (limited [] |> fun s => { s with toDevice := (s.setFlag F.pwrLimitCoord 0 0 true).fset F.pwrLimitSustained 0 0 1001 })
      (fun t => !t.flag F.pwrLimitCoord && t.pwr.lowered && t.limit == 1000) = true ∧
    gives (.coordinationTimeout false) (limited [] |> fun s => { s with toDevice := (s.setFlag F.pwrLimitCoord 0 0 true).fset F.pwrLimitSustained 0 0 1000 })
      (fun t => !t.flag F.pwrLimitCoord && t.limit == 1000 && t.pwr.toSustained) = true ∧
    gives (.coordinationTimeout true) (limited [] (fun p => { p with lowered := true }) |> fun s => { s with toDevice := s.fset F.pwrLimitSustained 0 0 1400 })
      (fun t => t.limit == 1000 && t.pwr.toSustained) = true := by decide +kernel

/-- Logic sensor 0 of stack 0 shuts down at 110 °C (440 quarter degrees), on a second sample (R397). -/
theorem test_sensor :
    shows ((State.reset.sensor 0).valid 0 340) (.sensorSample (.stack 0) [⟨0, 340⟩]) State.reset (fun t =>
      (t.sensor 0).temp == 340 && t.gov 0 == 340 && (t.sensor 0).bad == 0 && t.thm.fast.contains 0) = true ∧
    gives (.fastSamplingEnd (.port 3)) (st (fun s => s.modThm (fun x => { x with fast := [23] }))) (fun t => t.thm.fast.isEmpty) = true := by
  decide +kernel

theorem test_sensor_shutdown :
    gives (.sensorSample (.stack 0) [⟨0, 440⟩]) (st (fun s => s.setSensor 0 { hotRun := 1 })) (fun t =>
      t.boot.shutdown.isSome && !t.boot.pwrgd && t.tiles.isEmpty && t.flag F.glbStatusAlert && t.boot.cause == some rcThermal) = true ∧
    gives (.sensorSample (.stack 0) [⟨0, 439⟩]) (st (fun s => s.setSensor 0 { hotRun := 1 })) (fun t => t.boot.shutdown.isNone) = true := by
  decide +kernel

theorem test_sensor_fails :
    (({ bad := 2 } : Sensor).take 0 601).state = 2 ∧ (({ bad := 1 } : Sensor).take 0 601).state = 0 ∧
    (({ temp := 5 } : Sensor).take 0 (-161)).temp = 5 ∧ ({} : Sensor).valid 0 600 = true ∧ ({} : Sensor).valid 0 (-160) = true := by
  decide +kernel

/-! ## Packets -/

/-- A running job whose frames and memory are hbmJob's; device 5 is reached by lanes 62 and 63, of which 63 is UP. -/
def net (f : Device → Device := id) : State := jobSt { hbmJob with devices := 8 } (fun s =>
  f (((hbm s).setLane 63 lUp).modFab (fun x => { x with tables := [(0, { valid := true, isLocal := true }), (5, { lanes := 3 * 2 ^ 62, valid := true })] })))

/-- A request of device 7's engine 130 for this device. -/
def ask (typ addr n : Nat) (p : Pkt := blankPkt) : Pkt :=
  sealPkt { p with src := 7, typ := typ, addr := addr, len := n, seng := 130, payload := (List.range (16 * n)).map (BitVec.ofNat 8) }

/-- A packet for another device leaves on the lane that is UP, or waits for one; HOPS counts up (R293, R294). -/
theorem test_forward :
    let p := sealPkt { ask tWrite (gAddr 5 1 0) 1 with dst := 5 }
    shows ((net).headerFault false p == 0 && (net).takesUp 63 p && (net).pickLane ((net).routeEntry false 5).lanes == some 63) (.write (.lane 0) p) (net)
      (fun t => t.out == [.packet 63 (hopped p)] && t.fab.laneQ.get 0 63 == 52 && (hopped p).hops == 1) = true ∧
    gives (.write (.lane 0) p) (net (fun s => s.setLane 63 1)) (fun t => t.out == [] && t.fab.held == [hopped p]) = true := by
  decide +kernel

/-- A lane sends a priority packet first, and no packet whose virtual channel lacks credit (R286, R296). -/
theorem test_next_on_lane :
    let a : Pkt := { blankPkt with typ := tWrite, vc := 0 }
    let b : Pkt := { blankPkt with typ := tWrite, vc := 1 }
    let h : Pkt := { blankPkt with typ := tHold, vc := 2 }
    let s (l : List Pkt) (no : List Nat) : Device := State.reset.modFab (fun f => { f with txq := [(63, l)], blocked := no })
    (s [a, b, h] []).nextOn 63 = some 2 ∧ (s [a, b, h] [4 * 63 + 2, 4 * 63]).nextOn 63 = some 1 ∧
    (s [a, b] []).nextOn 63 = some 0 ∧ (s [a] [4 * 63]).nextOn 63 = none := by decide +kernel

/-- A packet whose header CRC is wrong is counted and recorded, and goes no further (R290, R291). -/
theorem test_bad_header :
    let p := { ask tWrite (gAddr 0 1 0) 1 with hcrc := 1, len := 2 }
    shows ((net).headerFault false p == 1) (.write (.lane 63) { p with payload := List.replicate 32 0 }) (net) (fun t =>
      t.flag F.prtZfBadValid 3 && t.fget F.prtZfBadCode 3 == 1 && t.fget F.prtZfBadLane 3 == 63 && t.fget (zfField 1) 3 == 1 &&
      t.ports == []) = true := by decide +kernel

/-- An MCAST_WRITE for devices 5 and 6 leaves once, on 5's lane; 6's bit, with no lane, waits (R298). -/
theorem test_mcast_forward :
    let p := sealPkt { ask tMcast (gAddr 0 1 0) 1 with mask := 0x60 }
    let s := net (fun s => s.modFab (fun x => { x with tables := x.tables ++ [(6, { lanes := 2 ^ 62, valid := true })] }))
    shows (s.headerFault false p == 0 && s.ownBits p == [] && s.partnerBits p == [] && s.takesUp 63 p) (.mcastWrite (.lane 0) p) s (fun t =>
      t.out == [.packet 63 (maskedPkt (hopped (maskedPkt p [5, 6])) [5])] && t.fab.held.length == 1) = true := by decide +kernel

/-- A store that passes its checks enters its window and the combiner; memory is unchanged until the drain (R325, R333). -/
theorem test_store_arrives :
    let p := ask tWrite (gAddr 0 1 64) 1
    shows (p.ok && (net).fresh .own p && (net).homePort .own p == 0 && (net).memStatus p == stOk && (net).combRoom ((net).homePieces p) &&
        ((net).homePieces p).length == 1) (.write .own p) (net) (fun t =>
      t.inWindow 0 p && t.owed p && t.mem.bytes == [] && t.out == [] &&
      (t.port 0).combs.map (fun c => (c.enable.toNat, c.waiters.length)) == [(0xFFFF, 1)]) = true := by decide +kernel

/-- In the settle interval it waits; outside every region it is refused (R319). -/
theorem test_store_waits :
    let p := ask tWrite (gAddr 0 1 64) 1
    let q := sealPkt { ask tWrite (gAddr 0 1 (2 ^ 30)) 1 with src := 0 }
    shows ((net (fun s => { s with fr := { s.fr with settle := true } })).settling) (.write .own p)
      (net (fun s => { s with fr := { s.fr with settle := true } })) (fun t => (t.port 0).held == [{ pkt := p, via := .own }]) = true ∧
    shows ((net).memStatus q == stAddress) (.write .own q) (net) (fun t =>
      t.out == [.request (respond q 0 stAddress [] false)] && t.port 0 == (net).port 0) = true := by decide +kernel

theorem test_atomic_arrives :
    let p := sealPkt { ask tAtomic (gAddr 0 1 64) 1 with arg := 0 }
    shows (p.ok && (net).fresh .own p && (net).memStatus p == stOk) (.atomic .own p) (net) (fun t =>
      t.inWindow 0 p && (t.port 0).combs.map (fun c => c.ops.length) == [1]) = true := by decide +kernel

/-- A READ of 16 bytes that the device itself asked for; while a phase map is in force it crosses to its controller first, unit 64 from
its transfer scheduler at site 38 (R208, R318, R319). -/
theorem test_read :
    let p := sealPkt { ask tRead (gAddr 0 1 64) 0 with src := 0, arg := 2 }
    let s := net (fun s => (s.fset F.frmStateJob 0 0 jReady).modMem (fun m => { m with bytes := [(64, 9)] }))
    gives (.read .own p) (net) (fun t => t.pln.waiting == [(88 * 38 + 64, [.homeward .own p])] && t.out == []) = true ∧
    shows (s.memStatus p == stOk && (s.access 1).isSome && !(s.pageHeld (s.target p)) && !(s.inPoison (s.target p) 16)) (.read .own p) s
      (fun t => t.out == [.request (respond p 0 stOk (9 :: List.replicate 15 0) false)] && t.inWindow 0 p) = true := by decide +kernel

/-- The answer to a READ that has come to its memory site waits there for a channel to the requester's engine (R210). -/
theorem test_read_answer_waits :
    let p := sealPkt { ask tRead (gAddr 0 1 64) 0 with src := 0, arg := 2, seng := 3 }
    let s := net (fun s => s.modMem (fun m => { m with bytes := [(64, 9)] }))
    shows (s.mapped && s.memStatus p == stOk && (s.accessFor false 1).isSome && !s.readHeld (s.target p) 64) (.read .own p) s (fun t =>
      t.pln.waiting == [(88 * 16 + engineUnit 3, [.response (respond p 0 stOk (9 :: List.replicate 15 0) false)])] && t.out == []) = true := by
  decide +kernel

/-- A mailbox takes one word and then refuses (R479, R480). -/
theorem test_mailbox_write :
    let p := sealPkt { ask tMbxWrite (mbxAddr 0 63) 1 with src := 0, seng := 131 }
    gives (.mbxWrite .own p) (net) (fun t =>
      t.mbxFull 63 && (t.mbox 63).word == 0x0706050403020100 && t.out == [.request (respond p 0 stOk [] false)]) = true ∧
    gives (.mbxWrite .own p) (net (fun s => s.setFlag F.mbxStatFull 0 63 true)) (fun t =>
      (t.mbox 63).word == 0 && t.fget F.mbxStatRejects 0 63 == 1 && t.out.length == 1) = true := by decide +kernel

/-- A request of thread 0 of tile (0, 0) to device 5, sent. -/
def sentReq (k : ReqKind) (typ d len : Nat) : Req :=
  { id := 1, kind := k, stage := .sent, d := d, len := len, pkt := { blankPkt with typ := typ, dst := 5, seng := 0, seq := 9, xfer := 3 } }

def asking (r : Req) : State := let s := docent0 [] { stores := 2 }; { s with toDevice := { s.toDevice with reqs := [r] } }

/-- A response of device 5 to it. -/
def answer (typ arg n : Nat) : Pkt :=
  sealPkt { blankPkt with dst := 0, src := 5, typ := typ, seq := 9, xfer := 3, arg := arg, len := n, payload := (List.range (16 * n)).map (BitVec.ofNat 8) }

/-- The response, with this status, stands at the tile as a flit of its RSP_TAG, 241 after reset. -/
def arriving (r : Req) (status : Nat) : State :=
  let s := asking { r with stage := .returning, status := status, answer := (List.range 16).map (BitVec.ofNat 8) }
  { s with toDevice := s.modTile 0 0 (fun x => { x with route := [(241, 16 + 2 ^ 11 + 241 * 2 ^ 12)], fifo := [(4, [{ tag := 241, ctl := some 1 }])] }) }

/-- The request's answer is on its way to the tile. -/
def comes (i : Instr) (r : Req) (status n : Nat) : Bool :=
  gives i (asking r) (fun t => t.reqs.map (fun q => (q.stage, q.status, q.answer.length)) == [(.returning, status, n)] &&
    t.tiles.any (fun e => e.2.fifo.any (fun f => f.2.map (fun g => (g.tag, g.ctl)) == [(241, some 1)])))

/-- The first response that matches goes to the tile, and completes its request there (R99, R103, R323). -/
theorem test_responses :
    comes (.readResp .own (answer tReadResp 0 1)) (sentReq .m2ld tRead 255 8) 0 16 = true ∧
    comes (.atomicResp .own (answer tAtomicResp 0 1)) (sentReq .atomic tAtomic 4 16) 0 16 = true ∧
    comes (.ack .own (answer tAck 0 0)) (sentReq .sst tWrite 63 8) 0 0 = true ∧
    gives (.flitArrive 0 0 [4]) (arriving (sentReq .m2ld tRead 255 8) 0) (fun t =>
      t.reqs == [] && (t.thread 0 0 0).st == .ready && t.reg w0 255 == 0x0706050403020100) = true ∧
    gives (.flitArrive 0 0 [4]) (arriving (sentReq .atomic tAtomic 4 16) 0) (fun t =>
      t.reqs == [] && t.reg w0 4 == 0x0706050403020100 && t.reg w0 5 == 0x0F0E0D0C0B0A0908) = true ∧
    gives (.flitArrive 0 0 [4]) (arriving (sentReq .sst tWrite 63 8) 0) (fun t =>
      t.reqs == [] && (t.tile 0 0).tc.get 0 63 == 1) = true ∧
    gives (.flitArrive 0 0 [4]) (arriving (sentReq .m2st tWrite 0 8) 0) (fun t => t.reqs == [] && (t.thread 0 0 0).stores == 1) = true := by
  decide +kernel

/-- A status that is not OK, or MBX_REJECT, faults the thread; a length that does not fit is counted and discarded (R100, R291). -/
theorem test_bad_responses :
    comes (.readResp .own (answer tReadResp 1 0)) (sentReq .m2ld tRead 3 8) 1 0 = true ∧
    comes (.mbxReject .own (answer tMbxReject 0 0)) (sentReq .m2st tMbxWrite 3 8) stBusy 0 = true ∧
    gives (.flitArrive 0 0 [4]) (arriving (sentReq .m2ld tRead 3 8) 1) (fun t => t.reqs == [] && (t.thread 0 0 0).st == .faulted) = true ∧
    gives (.flitArrive 0 0 [4]) (arriving (sentReq .atomic tAtomic 3 8) 1) (fun t => (t.thread 0 0 0).st == .faulted) = true ∧
    gives (.flitArrive 0 0 [4]) (arriving (sentReq .m2st tMbxWrite 3 8) stBusy) (fun t => (t.thread 0 0 0).st == .faulted) = true ∧
    gives (.readResp .own (answer tReadResp 0 2)) (asking (sentReq .m2ld tRead 3 8)) (fun t =>
      t.reqs.map Req.stage == [.sent] && t.fget F.prtZfErrHdr == 1) = true := by decide +kernel

/-- A response that comes over a lane in a running job waits at its port site for a channel to its engine (R208, R210). -/
theorem test_response_crosses :
    let p := answer tAck 0 0
    shows ((net).delivers 16 p && (net).mapped && decide (p.seng ≤ 127)) (.ack (.lane 16) p) (net) (fun t =>
      t.pln.waiting == [(88 * 37 + engineUnit 0, [.response p])]) = true := by decide +kernel

/-- A response to a request that is gone is late; a doorbell reaches the management engine that waits (R324, R481). -/
theorem test_late_response :
    let s := let s := docent0 []; { s with toDevice := { s.toDevice with gone := [sentReq .get tRead 0 8] } }
    gives (.ack .own (answer tAck 0 0)) s (fun t => t.reqs == [] && t.fget F.tileRemoteLate 0 == 1) = true ∧
    gives (.mbxReject .own (sealPkt { answer tMbxReject 0 0 with seng := 255, seq := 0, xfer := 0xFFFFFF, addr := mbxAddr 0 63 })) State.reset (fun t =>
      t.out == [.doorbell (.mgmt 15) 63]) = true := by decide +kernel

/-! ## Control packets -/

def hasHold (t : Device) (h : HoldRec) : Bool := t.fr.holds.contains h

/-- A stop for tick 9 is registered and passed on once (R303). -/
theorem test_hold :
    let p := sealPkt { blankPkt with dst := 1, src := 1, typ := tHold, addr := 9, arg := 64 + 8, seng := 132 }
    gives (.hold .own p) (fr id) (fun t =>
      hasHold t { target := 9, reason := 8, stop := true, raiser := 1 } && t.fr.forwarded == [holdOf p]) = true ∧
    gives (.hold .own p) (fr (fun x => { x with forwarded := [{ holdOf p with reason := 3 }] })) (fun t => t.fr.holds == []) = true := by
  decide +kernel

/-- TICK 3 of job time 2000 ns is old once tick 3 was heard; it lies 1 and 1001 ns off job times 1999 and 999 (R299, R302). -/
theorem witness_ControlPackets_tick :
    let q := sealPkt { blankPkt with dst := 1, src := 1, typ := tTick, addr := 3, seng := 132, len := 1, payload := leBytes 16 2000000 }
    let o (j : Nat) : Int := (3 * (fr (fun x => { x with jobTime := j })).tickPeriod + 2000 : Nat) - (j : Int)
    q.ok = true ∧ leNat (q.payload.take 8) / 1000 = 2000 ∧ (o 1999).natAbs = 1 ∧ (o 999).natAbs = 1001 ∧
    gives (.tickPacket .own q) (fr (fun x => { x with tick := 3 }) (fun s => s.modFab (fun x => { x with lastTick := some 3 }))) (fun t =>
      t.fab.offset == 0) = true := by decide +kernel

theorem test_lease :
    let p (fl : Nat) := sealPkt { blankPkt with dst := 0, src := 3, typ := tLease, seng := 132, len := 1, payload := leBytes 8 77 ++ leBytes 4 6 ++ leBytes 4 fl }
    let s := jobSt { mirrorPartner := 3 } (fun s => s.setFlag F.prtStatusGateway 0 0 true)
    gives (.lease .own (p 1)) s (fun t => t.fget F.frmPdigestDigest == 77 && t.fr.beaconTick == 6 && t.ctl.roles.get 0 3 == 1) = true := by
  decide +kernel

/-- An RT_WRITE of one entry, for the table not in use; a flip between jobs at once, in a job at its tick (R297, R307, R308). -/
theorem test_routing_orders :
    let w := sealPkt { blankPkt with dst := 0, src := 0, typ := tMgmt, arg := 1, seng := 133, len := 2, payload := leBytes 2 1 ++ leBytes 2 1023 ++ leBytes 2 1 ++ leBytes 10 0 ++ leBytes 8 6 ++ leBytes 8 1 }
    let f (k : Nat) := sealPkt { blankPkt with dst := 0, src := 0, typ := tMgmt, arg := 2, seng := 133, addr := k }
    shows (rtWriteOk w && rtVersion w == 1) (.rtWrite .own w) State.reset (fun t =>
      t.fab.tables == [(2047, { lanes := 6, valid := true })] && t.inWindow 0 w) = true ∧
    gives (.rtWrite .own w) (st (fun s => s.setFlag F.prtRouteEpoch 0 0 true)) (fun t => t.fab.tables == [] && t.ports == []) = true ∧
    gives (.rtFlip .own (f 0)) State.reset (fun t => t.epoch && t.flag F.prtRouteGrace && t.fab.lastFlip == some 0) = true ∧
    gives (.rtFlip .own (f 2)) (fr id) (fun t => !t.epoch && t.fab.flipAt == some (2, 1)) = true ∧
    gives .epochGraceEnd (st (fun s => s.setFlag F.prtRouteGrace 3 0 true)) (fun t => !t.flag F.prtRouteGrace 3) = true := by decide +kernel

theorem test_telemetry :
    gives .telemMap (st (fun s => s.modFab (fun x => { x with bins := [(511, 4)] }))) (fun t => t.fab.bins == [] &&
      (t.out.map (fun o => match o with | .toGateway p => (p.payload.length, (p.payload.getD 271 0).toNat) | _ => (0, 0))) == [(272, 0), (272, 4)]) = true ∧
    gives .telemMap (st (fun s => s.modFab (fun x => { x with telemUntil := 1 }))) (fun t => t.out == [] && t.fget F.prtTelemDropped == 2) = true ∧
    gives (.telemSample 63 true blankPkt) (st (fun s => ((s.setFlag F.prtTelemMode 0 0 true).fset F.prtTelemK 0 0 1).modFab (fun x => { x with counted := [(127, 2)] })))
      (fun t => t.fab.records.map (fun r => r.take 32) == [hdrBytes blankPkt]) = true := by decide +kernel

/-- Packet 1 of a transfer of 16 lines (R331). -/
theorem test_scheduled_packet :
    let x : Sched := { port := 3, typ := tWrite, dst := 5, daddr := gAddr 5 1 0, lines := 16 }
    let s := jobSt { sched := [x], devices := 8 } (fun s => (s.modPln (fun p => { p with toPort := [(0, (List.range 8).map (fun k => (8 + k, BitVec.ofNat 512 k)))] })).modFab
      (fun f => { f with schedSent := [(0, 1)] }))
    shows (s.seqRoom 131 5 && !s.mute && ((List.range 8).filterMap (fun k => s.schedLine x (8 + k))).length == 8) (.scheduledTransferPacket 0) s
      (fun t => t.fab.schedSent == [(0, 2)] && t.reqs.map (fun r => (r.pkt.addr - gAddr 5 1 0, r.pkt.seng, r.pkt.payload.length)) == [(512, 131, 512)]) = true := by
  decide +kernel

/-! ## Remote memory -/

theorem test_timeouts :
    let s := asking (sentReq .sst tWrite 3 8)
    let u := asking { sentReq .sst tWrite 3 8 with retries := 4 }
    gives (.requestTimeout 1) { s with toDevice := s.modPln (fun p => { p with waiting := [(0, [.request 1 blankPkt])] }) } (fun t =>
      t.reqs == s.reqs) = true ∧
    shows (!s.waitsGrant 1 && s.mapped) (.requestTimeout 1) s (fun t => t.reqs.map Req.retries == [1] && t.fget F.tileRemoteRetries 0 == 1 && !t.fr.fault) = true ∧
    gives (.requestTimeout 1) u (fun t => t.reqs.map Req.stage == [.abandoned] && t.fr.fault && t.fget F.tileRemoteAbandoned 0 == 1) = true := by
  decide +kernel

/-- Port 3's combiner with one entry. -/
def comb (e : Comb) (b : NMap Byte := []) : State :=
  st (fun s => (s.modPort 3 (fun x => { x with combs := [e] })).modMem (fun m => { m with bytes := b }))

/-- A store of this device, counted by counter 16383, and a fetch-add of 2 at byte 56 of line 5. -/
def ownStore : Pkt := sealPkt { ask tWrite (gAddr 0 1 320) 1 with src := 0, ccEn := true, cc := 16383 }
def fetchAdd : Pkt := sealPkt { ask tAtomic (gAddr 0 1 376) 1 with arg := 0, payload := leBytes 16 2 }

/-- A drain takes the enabled bytes; applied, they stand in memory, and the store is counted and answered (R333, R334, R319). -/
theorem test_drain :
    gives (.drain 3 5) (comb { line := 5, data := 0x0403, enable := 1 }) (fun t =>
      (t.port 3).combs == [{ line := 5, data := 0x0403, draining := true, drainEn := 1, drainData := 0x0403, atCtl := true }]) = true ∧
    gives (.drainApplied 3 5) (comb { line := 5, draining := true, drainEn := 1, drainData := 0x0403, atCtl := true, waiters := [{ pkt := ownStore, via := .own, inDrain := true }] }
        [(321, 7)]) (fun t =>
      t.mem.bytes == [(320, 3), (321, 7)] && (t.port 3).combs == [] && t.mem.cc.get 0 16383 == 1 &&
      t.out == [.request (respond ownStore 0 stOk [] false)]) = true := by decide +kernel

/-- In a running job a drain waits for a channel to its controller (R208). -/
theorem test_drain_crosses :
    let s := jobSt {} (fun s => s.modPort 3 (fun x => { x with combs := [{ line := 5, data := 3, enable := 1 }] }))
    shows s.mapped (.drain 3 5) s (fun t =>
      t.pln.waiting == [(88 * 39 + 64, [.drain 3 5 false])] && (t.port 3).combs.map Comb.atCtl == [false]) = true := by decide +kernel

/-- 255 + 2: the fetch-add returns the value before (R336–R338). -/
theorem test_fetch_add :
    gives (.atomicExecute 3 5) (comb { line := 5, ops := [(fetchAdd, .own)] } [(376, 255)]) (fun t =>
      t.mem.bytes == [(376, 255)] && (t.port 3).combs.map (fun c => (c.data.toNat / 2 ^ 448, c.enable.toNat / 2 ^ 56, c.whole, c.ops.length)) == [(257, 255, true, 0)] &&
      (t.port (State.reset.homePort .own fetchAdd)).replays.map Replay.prior == [leBytes 8 255]) = true := by decide +kernel

theorem test_releases :
    let w : List WinEntry := [{ src := 3, seng := 132, dst := 0 }, { src := 3, seng := 131, dst := 0 }]
    let s := st (fun s => s.modPort 3 (fun x => { x with windows := w, replays := [{ src := 3, seng := 131, dst := 0, seq := 4 }] }))
    gives (.windowEntryRelease 3 3 132 0) s (fun t => (t.port 3).windows == w.drop 1) = true ∧
    gives (.windowEntryRelease 3 3 131 0) s (fun t => (t.port 3).windows == w) = true ∧
    gives (.replayRecordRelease 3 3 131 0 4) s (fun t => (t.port 3).replays == []) = true := by decide +kernel

/-- The control domain's last 8 bytes, and its agents 0 and 18 (R343, R344). -/
theorem test_control_domain :
    let s := st (fun s => { s with cds := { s.cds with bytes := [(0xFFFFF8, 255)], reserved := [(18, 0x3FFFF)] } })
    gives (.controlDomainAccess (some 18) 0x1FFFFF8 8 .load) s (fun t =>
      t.out == [.cdValue (some 18) true 255] && t.cds.copyOf 0x3FFFF 18 != meInvalid) = true ∧
    gives (.controlDomainAccess (some 0) 0x1FFFFF8 8 (.store 1)) s (fun t =>
      t.cds.bytes == [(0xFFFFF8, 1)] && t.cds.copyOf 0x3FFFF 0 == meModified && t.cds.reserved == []) = true ∧
    gives (.controlDomainAccess (some 0) 0x1FFFFF8 8 (.add 2)) s (fun t => t.cds.bytes == [(0xFFFFF8, 1), (0xFFFFF9, 1)]) = true ∧
    gives (.controlDomainAccess (some 18) 0x1FFFFF8 8 (.sc 3)) s (fun t => t.out == [.cdValue (some 18) true 0] && t.cds.bytes == [(0xFFFFF8, 3)]) = true ∧
    gives (.controlDomainAccess (some 0) 0x1FFFFF8 8 (.sc 3)) s (fun t => t.out == [.cdValue (some 0) true 1]) = true ∧
    gives (.controlDomainAccess (some 0) 0x1FFFFF8 8 .lr) s (fun t => t.cds.reserved.contains (0, 0x3FFFF)) = true ∧
    gives (.controlDomainAccess (some 0) 0x1FFFFF1 8 .load) s (fun t => t.out == [.cdValue (some 0) false 0]) = true := by decide +kernel

/-! ## Mailboxes and commands -/

/-- Mailbox 63 holds 9, and its management engine 15 waits. -/
def mbox63 (full : Bool) : State := st (fun s =>
  ((s.setFlag F.mbxStatFull 0 63 full).modMbox 63 (fun _ => { word := 9, waiters := if full then [(0, 255)] else [] })))

theorem test_mailboxes :
    gives (.mbxDataWrite .curator 63 7) (mbox63 false) (fun t =>
      t.mbxFull 63 && (t.mbox 63).word == 7 && t.fget F.mbxStatAccepts 0 63 == 1 && t.fget F.mbxStatWseng 0 63 == 132) = true ∧
    gives (.mbxDataWrite .curator 63 7) (mbox63 true) (fun t =>
      (t.mbox 63).word == 9 && t.fget F.mbxStatRejects 0 63 == 1 && (t.mbox 63).waiters == [(0, 255), (0, 132)]) = true ∧
    gives (.mbxDataRead .curator 63) (mbox63 true) (fun t =>
      !t.mbxFull 63 && t.out == [.doorbell (.mgmt 15) 63, .response .curator true 9]) = true ∧
    gives (.mbxDataRead .curator 63) (mbox63 false) (fun t => t.out == [.response .curator false 0]) = true ∧
    gives (.mbxDataRead (.mgmt 0) 63) (mbox63 true) (fun t => t.out == [.response (.mgmt 0) false 0]) = true := by decide +kernel

/-- Of the accesses of one cycle a read comes before a write that was queued before it (R480). -/
theorem test_mailbox_cycle :
    let w : MbxAccess := { agent := .host 1, n := 63, word := some 7 }
    let s := st (fun s => ((s.setFlag F.mbxStatFull 0 63 true).modMbox 63 (fun _ => { word := 9 })).modCtl (fun c => { c with mbxNow := [w] }))
    gives (.mbxDataWrite (.host 1) 63 7) { (st (fun s => (s.setFlag F.mbxStatFull 0 63 true))) with pending := [.mbxDataRead .curator 63] } (fun t =>
      t.ctl.mbxNow == [w] && t.out == []) = true ∧
    gives (.mbxDataRead .curator 63) s (fun t =>
      t.mbxFull 63 && (t.mbox 63).word == 7 && t.out == [.response .curator true 9, .response (.host 1) true 0]) = true := by decide +kernel

/-- A command word lies in command mailbox 15: an unknown one, and LOAD. -/
def given (w : Nat) : State := st (fun s => (s.setFlag F.mbxStatFull 0 15 true).modMbox 15 (fun _ => { word := BitVec.ofNat 64 w }))

theorem test_command_take :
    gives (.commandTake 15) (given 0x3E_22FE) (fun t =>
      t.fget F.curCmdState 0 15 == 1 && t.fget F.curCmdOp 0 15 == 0xFE && t.fget F.curCmdTag 0 15 == 0x22 &&
      (t.cmd 15).finished && (t.cmd 15).code == ccUnknown) = true ∧
    gives (.commandComplete 15) (st (fun s => (s.fset F.curCmdState 0 15 1).setCmd 15 { finished := true, code := 5, result := 9 })) (fun t =>
      t.fget F.curCmdState 0 15 == 2 && t.fget F.curCmdCode 0 15 == 5 && t.fget F.curCmdResult 0 15 == 9) = true := by decide +kernel

/-- A core of the Curator runs. -/
def core (ok : Bool) : State := st (fun s => ((run s).setFlag F.curStatusStandbyOk 0 0 ok).modCtl (fun x => { x with coreRuns := true }))

theorem test_takeover :
    gives .curatorHeartbeat { core true with now := 5 } (fun t => t.ctl.heartbeatAt == 5) = true ∧
    gives .curatorTakeover (core true) (fun t =>
      t.fget F.curStatusActive == 1 && !t.flag F.curStatusStandbyOk && t.fget F.curStatusTakeovers == 1 && t.ctl.coresLost == [0]) = true ∧
    shows (core true).running .curatorHeartbeat { core true with toDevice := (core true).modFr (fun f => { f with withdrawDue := wCarryLost }) } (fun t =>
      t.fr.withdraw == wCarryLost && t.fr.withdrawDue == 0) = true ∧
    gives .curatorTakeover (core false) (fun t => !t.ctl.coreRuns && t.fr.withdraw == wCuratorLost) = true := by decide +kernel

/-- Mailbox 15's command at work: its opcode, argument and parameters. -/
def doing (op arg : Nat) (ps : List Nat) (f : Device → Device := id) : State :=
  st (fun s => (f s).setCmd 15 { word := BitVec.ofNat 64 (op + 65536 * arg), params := ps.map (BitVec.ofNat 64), checked := true })

def endedOk (t : Device) (code result : Nat) : Bool := (t.cmd 15).finished && (t.cmd 15).code == code && (t.cmd 15).result == result

theorem test_job_orders :
    let r (s : Device) := ((run s).fset F.frmHoldLimit 0 0 3).modFr (fun f => { f with job := some {} })
    gives (.hostHold 15) (doing opHold 0 [] r) (fun t => endedOk t ccOk 0 && t.fr.holds.any (fun h => h.reason == hHost && h.target == 1)) = true ∧
    gives (.stop 15) (doing opStop 0 [] r) (fun t => endedOk t ccOk 0 && t.fr.holds.any (fun h => h.reason == jcHostStop && h.stop)) = true ∧
    gives (.load 15) (doing opLoad 1 [] (fun s => s.fset F.curBootStep 0 0 stReady)) (fun t => endedOk t ccFailed 6 && t.jobState == jNone) = true ∧
    gives (.load 15) (doing opLoad 1 [] (fun s => run (s.fset F.curBootStep 0 0 stReady))) (fun t => endedOk t ccBusy 0) = true ∧
    gives (.load 15) (doing opLoad 1 []) (fun t => endedOk t ccNotReady 0) = true ∧
    gives (.startAt 15) (doing opStartAt 0 [4, 99] (fun s => (s.fset F.frmStateJob 0 0 jReady).modFr (fun f => { f with job := some { jobId := 5 } })))
      (fun t => endedOk t ccNotReady 0 && t.fr.startAt.isNone) = true ∧
    gives (.startAt 15) (doing opStartAt 0 [5, 99] (fun s => ((s.fset F.frmStateJob 0 0 jReady).fset F.prtTickState 0 0 tkLocked).modFr
      (fun f => { f with job := some { jobId := 5 } }))) (fun t => endedOk t ccOk 0 && t.fr.startAt == some 99) = true ∧
    gives (.abortStart 15) (doing opAbortStart 0 [0] (fun s => s.modFr (fun f => { f with startAt := some 9 }))) (fun t =>
      endedOk t ccOk 0 && t.fr.startAt.isNone) = true ∧
    gives .loadTimeout (st (fun s => s.fset F.frmStateJob 0 0 jLoading)) (fun t => t.jobState == jNone) = true := by decide +kernel

/-- An image that is no image is refused; a job of two devices starts with a PARAM write to each (R142, R157). -/
theorem test_load_start :
    gives (.loadEnd 15) (doing opLoadEnd 0 [] (fun s => s.fset F.frmStateJob 0 0 jLoading)) (fun t =>
      t.jobState == jNone && endedOk t ccFailed 1) = true ∧
    gives (.unload 15) (doing opUnload 0 [] (fun s => s.fset F.frmStateJob 0 0 jLoading)) (fun t => t.jobState == jNone && endedOk t ccOk 0) = true ∧
    gives (.start 15) (doing opStart 0 [] (fun s => s.modFr (fun f => { f with job := some { devices := 2, jobId := 258 } }))) (fun t =>
      t.fr.startMbx == some 15 && t.fr.startS == 200000 && t.reqs.map (fun r => (r.pkt.dst, r.pkt.payload)) == [(0, leBytes 16 258), (1, leBytes 16 258)]) = true ∧
    gives (.startTimeout 15) (doing opStart 0 [] (fun s => s.modFr (fun f => { f with startMbx := some 15, startDevices := [(0, sgAccepted), (7, sgRefused)] })))
      (fun t => endedOk t ccNotReady 7 && t.fr.abortLeft == [0] && t.fr.startMbx.isNone) = true ∧
    gives (.abortDeadline 15) (st (fun s => s.modFr (fun f => { f with abortLeft := [0] }))) (fun t =>
      t.fr.abortLeft == [] && t.fr.holds.any (fun h => h.target == 0 && h.stop)) = true ∧
    gives (.rejoin 15) (doing opRejoin 0 [] (fun s => ((s.fset F.frmStateJob 0 0 jReady).modCtl (fun x => { x with roles := [(3, 1)] })).modFr
      (fun f => { f with job := some { mirrorPartner := 3 } }))) (fun t => endedOk t ccOk 0 && t.fr.rejoin) = true := by decide +kernel

theorem test_host_orders :
    let a : AlarmRec := { seq := 4 }
    gives (.ackAlarm 15) (doing opAckAlarm 4 [] (fun s => { s with led := { s.led with alarms := [a, { a with seq := 5 }] } })) (fun t =>
      endedOk t ccOk 0 && t.led.alarms.map AlarmRec.acked == [true, false] && t.fget F.glbStatusAlarmsUnack == 1) = true ∧
    gives (.xferClaim 15) (doing opXferClaim 0 []) (fun t => t.holdsWindow 15 && endedOk t ccOk 0) = true ∧
    gives (.xferClaim 15) (doing opXferClaim 0 [] (fun s => (s.setFlag F.curXferCtlHeld 0 0 true).fset F.curXferCtlOwner 0 0 3)) (fun t =>
      endedOk t ccBusy 0) = true ∧
    gives (.xferRelease 15) (doing opXferRelease 0 [] (fun s => (s.setFlag F.curXferCtlHeld 0 0 true).fset F.curXferCtlOwner 0 0 15)) (fun t =>
      !t.flag F.curXferCtlHeld && endedOk t ccOk 0) = true ∧
    gives .xferClaimLapse (st (fun s => s.setFlag F.curXferCtlHeld 0 0 true)) (fun t => !t.flag F.curXferCtlHeld) = true ∧
    gives .flashHoldRelease (st (fun s => { s with boot := { s.boot with holder := some true } })) (fun t => t.boot.holder.isNone) = true := by
  decide +kernel

/-- Counter 7 of tile (15, 271) selects event 5; bit 12 of its event needs UCNT (R494, R500). -/
theorem test_pmc_set :
    let p0 := 0 + 16 * 4351 + 2 ^ 20 * 7
    gives (.pmcSet 15) (doing opPmcSet 0 [p0, 5 + 2 ^ 12, 0]) (fun t => endedOk t ccPolicy 0 && t.rd .tilePmsel 4351 7 == 0) = true ∧
    gives (.pmcSet 15) (doing opPmcSet 0 [p0, 5, 0]) (fun t => endedOk t ccOk 0 && t.rd .tilePmsel 4351 7 == 5) = true ∧
    gives (.ringRead 15) (doing opRingRead 39 []) (fun t => endedOk t ccOk 0 && t.rd .curRes 0 15 == t.ringData 39 0 % 2 ^ 64) = true ∧
    gives (.mapRead 15) (doing opMapRead (3 + 4 * 55 + 256 * 63) []) (fun t => endedOk t ccOk 0 && t.rd .curRes 0 15 == t.mapData (busOf 3 55) 63 % 2 ^ 64) = true := by
  decide +kernel

/-- The window is held and the inactive flash slot free: erasing, programming, ATTEST and SUMMARY may run (R469, R470). -/
theorem witness_HostCommands :
    let f (s : Device) := ((s.setFlag F.curXferCtlHeld 0 0 true).fset F.curXferCtlOwner 0 0 15).fset F.curBootStep 0 0 2
    let s := doing opCatWrite 0x3BF8000 [] f
    (s.at 15 opCatWrite && s.holdsWindow 15 && s.flashAllows true (slotBase s.inactiveSlot) imageArea &&
      s.flashAllows true (slotBase s.inactiveSlot + 0x3BF8000) 32768) = true ∧
    (doing opAttest 0 [] f).fget F.curCatIdent = 0 ∧ ((doing opAttest 0 [] f).at 15 opAttest && (doing opSummary 0 [] f).at 15 opSummary) = true := by
  decide +kernel

/-! ## Registers, logs, and the outside -/

/-- An offset finds its register, at the last place of some kinds (R266, R408). -/
theorem test_places :
    regAt (RegKind.tilePmsel.addr 4351 7) = some (.tilePmsel, 4351, 7) ∧ regAt (RegKind.frmLenPend.addr 0 2047) = some (.frmLenPend, 0, 2047) ∧
    regAt (RegKind.plnBus.addr 3 55) = some (.plnBus, 3, 55) ∧ regAt (RegKind.prtLane.addr 3 15) = some (.prtLane, 3, 15) ∧
    regAt (RegKind.prtLane.addr 3 15 + 4) = none := by decide +kernel

/-- THREAD_WAIT with ARG 8 for counter 7 of tile (15, 271) by the Curator; with ARG 9 it is no value (R15, R137, R139). A bit that the
hardware sets in the cycle of a write that clears it stays set (R17). -/
theorem test_register_write :
    let a := RegKind.tilePmsel.addr 4351 7
    gives (.registerWrite .curator a 8 0x802 0) State.reset (fun t =>
      t.rd .tilePmsel 4351 7 == 0x802 && t.out == [.response .curator true 0] && t.regs.length == 1) = true ∧
    gives (.registerWrite .curator a 8 0x902 0) State.reset (fun t => t.regs == [] && t.ctl.rejected == 1 && t.out == [.response .curator false 0]) = true ∧
    gives (.registerWrite .curator a 8 0x10002 0x10000) (st (fun s => s.setFlag F.tilePmselOvf 4351 7 true)) (fun t =>
      t.flag F.tilePmselOvf 4351 7 && t.fget F.tilePmselEvent 4351 7 == 2) = true ∧
    gives (.registerWrite .curator (a + 4) 8 2 0) State.reset (fun t => t.out == [.response .curator false 0] && t.regs == []) = true ∧
    gives (.registerWrite .curator a 4 2 0) State.reset (fun t => t.out == [.response .curator false 0] && t.regs == []) = true ∧
    gives (.registerWrite (.thread 0 0 0) a 8 2 0) State.reset (fun t => t.out == [.response (.thread 0 0 0) false 0]) = true ∧
    gives (.registerWrite .curator (RegKind.glbId.addr 0 0) 8 2 0) State.reset (fun t => t.regs == [] && t.out == [.response .curator true 0]) = true := by
  decide +kernel

/-- A read of LED_DROP answers its value and clears its counters, but for one that counted in its own cycle (R16). -/
theorem test_rc_read :
    let s := st (fun s => s.wr .ledDrop 0 0 0x0004000300020001)
    gives (.rcRead .curator (RegKind.ledDrop.addr 0 0) (some 48)) s (fun t =>
      t.out == [.response .curator true 0x0004000300020001] && t.rd .ledDrop == 2 ^ 48) = true ∧
    gives (.rcRead .curator (RegKind.ledDrop.addr 0 0) none) s (fun t => t.rd .ledDrop == 0) = true := by decide +kernel

/-- GLB_BW_CTL, the Ledger's cursors, and a staged test write (R490, R500, R504). -/
theorem test_control_writes :
    shows (State.reset.legal .glbBwCtl 0 0 500) (.glbBwCtlWrite .curator 500) (st (fun s => (s.fset F.glbBwCtlWindows 0 0 7).modCtl (fun x => { x with bwBytes := [(3, 4)] })))
      (fun t => t.fget F.glbBwCtlWindowUs == 500 && t.fget F.glbBwCtlWindows == 0 && t.ctl.bwBytes == []) = true ∧
    gives (.ledCurWrite .curator 3 0xFFFF000000000009) State.reset (fun t => t.fget F.ledCurSeq 0 3 == 9) = true ∧
    gives (.tstWrite .curator (RegKind.tstCtl.addr 0 0) 2 {}) State.reset (fun t => t.regs == [] && t.ctl.staged == []) = true ∧
    gives (.tstWrite .curator (RegKind.tstCtl.addr 0 0) 2 {}) (st (fun s => s.setFlag F.tstCtlPresent 0 0 true)) (fun t =>
      t.flag F.tstCtlActive) = true ∧
    gives (.tstWrite .curator (RegKind.tstCtl.addr 0 0) 2 {}) (st (fun s => run (s.setFlag F.tstCtlPresent 0 0 true))) (fun t =>
      !t.flag F.tstCtlActive && t.ctl.staged == [(RegKind.tstCtl.addr 0 0, 2)] && t.ctl.stagedLate == []) = true ∧
    gives (.tstWrite .curator (RegKind.tstParity.addr 0 0) 1 { hw := 1 }) (st (fun s => s.setFlag F.tstCtlPresent 0 0 true)) (fun t =>
      t.rd .tstParity == 0) = true ∧
    gives (.tstWrite .curator (RegKind.tstCtl.addr 0 0) 2 { tickCycle := true }) (st (fun s => run (s.setFlag F.tstCtlPresent 0 0 true))) (fun t =>
      t.ctl.staged == [] && t.ctl.stagedLate == [(RegKind.tstCtl.addr 0 0, 2)]) = true := by decide +kernel

/-- Slot 2047 of 4096 bytes takes the smaller of two lengths of an attempt, and none beyond its size (R167, R187). -/
def appends (f : Frames → Frames) : State :=
  fr (fun x => f { x with job := some { regions := [{ kind := rgAppend, slots := 2, firstSlot := 2046, base := gAddr 0 1 0, len := 8192 }] } })

theorem test_pending_length :
    gives (.frmLenPendWrite .curator 2047 4096 false) (appends id) (fun t => t.fget F.frmLenPendLength 0 2047 == 4096 && t.fr.firstPend == [2047]) = true ∧
    gives (.frmLenPendWrite .curator 2047 4097 false) (appends id) (fun t => t.regs == (appends id).regs && t.ctl.rejected == 1) = true ∧
    (let s := appends (fun x => { x with firstPend := [2047] })
     gives (.frmLenPendWrite .curator 2047 4096 false) { s with toDevice := s.fset F.frmLenPendLength 0 2047 64 } (fun t =>
       t.fget F.frmLenPendLength 0 2047 == 64)) = true ∧
    gives (.frmLenPendWrite .curator 2047 4096 true) (appends id) (fun t => t.fr.lateWrites == 1 && t.fget F.frmLenPendLength 0 2047 == 0) = true := by
  decide +kernel

/-- A member's report, and the coordinator's assignment, arrive on a lane (R387, R388). -/
theorem test_power_packets :
    let job : Job := { powerCoord := 0, devices := 8 }
    let s := jobSt job (fun s => { (s.setLane 0 lUp).modFab (fun x => { x with tables := [(0, { valid := true, isLocal := true })] }) with
      boot := { s.boot with cat := { s.boot.cat with coordEligible := true } } })
    let p := sealPkt { ask tWrite (gAddr 0 3 0x40030) 1 with seng := 132, arg := 8, src := 5, payload := leBytes 16 900 }
    let u := jobSt { job with powerCoord := 5 } (fun s => ((s.setLane 0 lUp).fset F.pwrLimitCeiling 0 0 900).modFab (fun x => { x with tables := [(0, { valid := true, isLocal := true })] }))
    (s.coordinating && s.delivers 0 p) = true ∧
    shows (u.delivers 0 p && u.fresh (.lane 0) p) (.pwrAssignWrite (.lane 0) p) u (fun t => t.pwr.assigned == some 900) = true ∧
    gives (.pwrAssignWrite (.lane 0) (sealPkt { p with payload := leBytes 16 901 })) u (fun t => t.pwr.assigned.isNone && t.ctl.rejected == 1) = true := by
  decide +kernel

/-- An ALARM is kept and asserts ALERT; a FAULT takes a token, and a full queue drops it (R496, R499). -/
theorem test_records :
    gives (.recordPost kTile 4351 0 6 7 8 9) State.reset (fun t =>
      t.led.alarms == [{ cause := 7, unit := 8 }] && t.led.nextSeq == 1 && t.flag F.glbStatusAlert) = true ∧
    gives (.recordPost kTile 4351 1 6 7 8 9) { State.reset with now := 10 } (fun t =>
      t.led.recs.map (fun r => (r.seq, r.prio, r.cls, r.srcKind, r.srcIndex, r.time)) == [(0, 1, 6, 13, 4351, 5)] &&
      t.led.spent.get 0 (bucketKey kTile 4351 1) == 1) = true ∧
    gives (.recordPost kTile 4351 3 0 7 8 9) (st (fun s => { s with led := { s.led with queues := [(srcKey kTile 4351, 16)] } })) (fun t =>
      t.led.recs == [] && t.fget F.ledDropQueue == 1) = true ∧
    gives (.ledgerToken kTile 4351 3) (st (fun s => { s with led := { s.led with spent := [(bucketKey kTile 4351 3, 2)] } })) (fun t =>
      t.led.spent.get 0 (bucketKey kTile 4351 3) == 1 && t.led.recs == []) = true := by decide +kernel

theorem test_coalescing :
    gives (.ledgerToken kTile 4351 2) (st (fun s => { s with led := { s.led with open_ := [(srcKey kTile 4351, { prio := 2, repeats := 5 })] } })) (fun t =>
      t.led.open_ == [] && t.led.recs.map (fun r => (r.seq, r.repeats)) == [(0, 5)]) = true ∧
    gives (.alarmFlashWrite 3) (st (fun s => { s with led := { s.led with alarms := [{ seq := 3, cause := 7 }] } })) (fun t =>
      t.led.flashLog == [{ seq := 3, cause := 7, inFlash := true }] && t.led.alarms == t.led.flashLog) = true := by decide +kernel

/-- The bytes of a window saturate at 2^32 − 1 (R490). -/
theorem test_bandwidth :
    let k := RegKind.prtLaneBw.addr 3 15
    gives .bandwidthWindow (st (fun s => s.modCtl (fun x => { x with bwBytes := [(2 * k, 2 ^ 32), (2 * k + 1, 7)] }))) (fun t =>
      t.rd .prtLaneBw 3 15 == 2 ^ 32 - 1 + 2 ^ 32 * 7 && t.ctl.bwBytes == [] && t.fget F.glbBwCtlWindows == 1) = true := by decide +kernel

/-- I3C reads GLB_STATUS without a core; the slot in use is refused (R470, R517). -/
def i3c : State := st (fun s => { s.fset F.curBootStep 0 0 2 with boot := { s.boot with flash := [(0x4000000, 0x0F)] } })

theorem test_i3c :
    gives (.i3cRegisterRead (RegKind.glbStatus.addr 0 0)) (st (fun s => s.setFlag F.glbStatusReady 0 0 true)) (fun t => t.out == [.i3c (leBytes 8 1)]) = true ∧
    gives (.i3cRegisterRead (RegKind.pwrStatus.addr 0 0)) State.reset (fun t => t.out == [.i3c (leBytes 8 0)]) = true ∧
    i3c.flashAllows false 0x4000000 256 = true ∧
    shows (!i3c.flashAllows false 0 256) (.i3cPageProgram 0 (List.replicate 256 0)) i3c (fun t => t.boot.i3cRefused) = true ∧
    gives .i3cStatusRead (st (fun s => { s with boot := { s.boot with i3cRefused := true } })) (fun t => t.out == [.i3c [2]]) = true := by
  decide +kernel

theorem witness_i3cSectorErase :
    i3c.flashAllows false 0x4000000 65536 = true ∧ i3c.flashAllows false 0x7BF0000 65536 = true ∧ i3c.flashAllows false 0x7C00000 65536 = false := by
  decide +kernel

/-- A request stamped with another tick than its home's is discarded and counted (R321). -/
theorem test_stale :
    let p := sealPkt { ask tWrite (gAddr 0 1 64) 1 with seq := 2 ^ 20 }
    shows (p.ok && p.seng ≤ 131 && p.seq / 2 ^ 20 != (net).fr.tick % 4096) (.write .own p) (net) (fun t =>
      t.fget F.prtRmSeqStale == 1 && t.ports == [] && t.out == []) = true ∧
    shows ((net).delivers 0 p) (.write (.lane 0) p) (net) (fun t => t.fget F.prtRmSeqStale == 1 && t.ports == [] && t.out == []) = true := by
  decide +kernel

/-- A loss of stack 0's clock leaves stack 15's domain and tiles alone (R352). -/
theorem test_domains :
    let s := st (fun s => (s.fset F.clkDomStep 0 15 9).setTile 15 271 { released := true })
    gives (.clockPresent 0) s (fun t => t.rd .clkDom 0 15 == s.rd .clkDom 0 15 && (t.tile 15 271).released) = true := by decide +kernel

/-- The invariants of the three statements over every step hold after reset. -/
theorem witness_invariants :
    State.reset.mem.wf ∧ NMap.wf 0 State.reset.regs ∧ State.reset.toDevice.lensSaved :=
  ⟨⟨List.Pairwise.nil, fun _ h => nomatch h⟩, ⟨List.Pairwise.nil, fun _ h => nomatch h⟩, fun _ h => nomatch h⟩

end Sys2Proof.Tests
end

section
/-! SUPPORT. The requests that a tile's remote tracker sends (R329). -/

namespace Sys2Proof.Machine

/-- Counting events leaves a tile's FIFOs as they were. -/
theorem Counted.fifo {u t : Device} {c i : Nat} (h : Counted u t c i) : (t.tile c i).fifo = (u.tile c i).fifo := by
  rw [← h.tile]

/-- A flit put into the injection FIFO stands at its end. -/
theorem Device.inject_fifo (s : Device) (c t : Nat) (f : Flit) :
    ((s.inject c t f).tile c t).fifo.get [] 4 = (s.tile c t).fifo.get [] 4 ++ [{ f with set := s.phase }] := by
  rw [Device.inject, Device.modTile_same, NMap.get_upd_same]

/-- The request's control flit joins the injection FIFO (R103). -/
theorem Device.injectReq_fifo (s : Device) (c t id : Nat) :
    ((s.injectReq c t id).tile c t).fifo.get [] 4 =
      (s.tile c t).fifo.get [] 4 ++
        [{ tag := s.fget F.tileCtlReqTag (272 * c + t), ctl := some id, set := s.phase }] := by
  rw [Device.injectReq, (count_counted _ c t evRemoteReq 0 1).fifo, Device.inject_fifo]
  rfl

/-- A free granule has no earlier request of the same thread outstanding (R329). -/
theorem Device.granuleFree_apart {s : Device} {r q : Req} (h : s.granuleFree r = true) (hn : r.n < 8) (hq : q ∈ s.reqs)
    (hc : q.c = r.c) (ht : q.t = r.t) (hth : q.n = r.n) (hid : q.id < r.id) : q.gaddr / 256 ≠ r.gaddr / 256 := by
  intro hg
  have hany : (s.reqs.any fun q => q.c == r.c && q.t == r.t && q.n == r.n && decide (q.id < r.id) &&
      decide (q.gaddr / 256 = r.gaddr / 256)) = true :=
    List.any_eq_true.mpr ⟨q, hq, by simp [hc, ht, hth, hid, hg]⟩
  have hdescriptor : 8 ≤ r.n := by simpa [Device.granuleFree, hany] using h
  omega

/-- What the tracker may send: a request of that tile, still in the tracker, whose granule is free. -/
theorem Device.nextTracked_spec {s : Device} {c t : Nat} {r : Req} (h : s.nextTracked c t = some r) :
    r ∈ s.reqs ∧ r.c = c ∧ r.t = t ∧ r.stage = .tracker ∧ s.granuleFree r = true := by
  have hmem := List.mem_of_find?_eq_some h
  have hmay := List.find?_some h
  simp only [Device.tileReqs, List.mem_filter, Bool.and_eq_true, beq_iff_eq] at hmem
  simp only [Bool.and_eq_true, beq_iff_eq] at hmay
  obtain ⟨hr, ⟨hc, ht⟩, -⟩ := hmem
  exact ⟨hr, hc, ht, hmay.1, hmay.2⟩

/-- FLIT_INJECT with slot 16 sends the next request of the tile's threads, or does nothing. -/
theorem Device.flitInject_tracker (s : Device) (c t : Nat) (up : Option Nat) :
    s.flitInject c t 16 up = s ∨ ∃ r, s.nextTracked c t = some r ∧ s.flitInject c t 16 up = s.injectReq c t r.id := by
  cases hroom : (s.tile c t).injectRoom with
  | false => exact .inl (by simp [Device.flitInject, hroom])
  | true =>
    cases hr : s.nextTracked c t with
    | none => exact .inl (by simp [Device.flitInject, hroom, hr])
    | some r => exact .inr ⟨r, rfl, by simp [Device.flitInject, hroom, hr]⟩

/-- FLIT_INJECT for a remote descriptor that has a request to make, with a credit and room in the tracker. -/
theorem Device.flitInject_remote {s : Device} {c t slot : Nat} {d : Slot} (up : Option Nat) (hslot : slot < 16)
    (hroom : (s.tile c t).injectRoom = true) (hd : (s.tile c t).slots[slot]? = some d)
    (hk : isRemoteKind (sdKind d.w0) = true) (hm : d.allMoved = false) (hb : (s.tile c t).slotBlocked d = false)
    (hfull : s.trackerFull c t = false) : s.flitInject c t slot up = s.requestFrom c t d up := by
  simp [Device.flitInject, hroom, hd, hk, hm, hb, hfull, Nat.ne_of_lt hslot]

/-- A REMOTE_GET descriptor's request is new, and its flit joins the injection FIFO whatever is outstanding (R102, R329). -/
theorem Device.requestFrom_get_fifo (s : Device) (c t : Nat) {d : Slot} (up : Option Nat) (hk : sdKind d.w0 = kGet) :
    ((s.requestFrom c t d up).tile c t).fifo.get [] 4 =
      (s.tile c t).fifo.get [] 4 ++
        [{ tag := s.fget F.tileCtlReqTag (272 * c + t), ctl := some s.nextId, set := s.phase }] := by
  simp only [Device.requestFrom, if_pos hk]
  rw [Device.injectReq_fifo, Device.modTile_same]
  rfl

/-- FLIT_INJECT at a tile that exists completes with its effect on the device. -/
theorem flitInject_does {c t slot : Nat} {up : Option Nat} {s : State} {P : Device → Prop} (hc : c < 16) (ht : t < 272)
    (hslot : slot ≤ 16) (hp : P (s.toDevice.flitInject c t slot up)) : Does (.flitInject c t slot up) s P := by
  have hok : (tileOk c t && decide (slot ≤ 16)) = true := by simp [tileOk, hc, ht, hslot]
  exact onUnits_does (f := fun s => s.flitInject c t slot up) hok hp

/-- Settles O24: the tracker's choice is a request whose granule is free, and a remote descriptor's request asks for no granule. -/
theorem granuleHoldsLaterRequests : Obligations.GranuleHoldsLaterRequests := by
  intro s c i slot up d hc hi
  refine ⟨flitInject_does hc hi (Nat.le_refl 16) ?_, fun hslot hroom hd hk hm hb hfull =>
    flitInject_does hc hi (Nat.le_of_lt hslot) ?_⟩
  · obtain hsame | ⟨r, hr, hsent⟩ := s.toDevice.flitInject_tracker c i up
    · exact .inl hsame
    · obtain ⟨hmem, rfl, rfl, hst, hfree⟩ := Device.nextTracked_spec hr
      refine .inr ⟨r, hmem, rfl, rfl, hst, ?_, fun hn q hq hqc hqt hqn hid =>
        Device.granuleFree_apart hfree hn hq hqc hqt hqn hid⟩
      rw [hsent]
      exact Device.injectReq_fifo _ _ _ _
  · rw [Device.flitInject_remote up hslot hroom hd (by simp [hk, isRemoteKind]) hm hb hfull]
    exact Device.requestFrom_get_fifo _ _ _ _ hk

end Sys2Proof.Machine
end

section
/-! SUPPORT. What counting an arriving packet leaves of the device (R492), and the requests of another frame attempt, which their home
discards and counts (R321). -/

namespace Sys2Proof.Machine

/-! ## Counting at a port die -/

/-- Offsets of the event counters of a port die: PRT_PMC and PRT_PMSEL. -/
def inPrtCounters (b off : Nat) : Prop := Block.prt.base b + 0x4008 ≤ off ∧ off < Block.prt.base b + 0x4088

/-- `t` is `s` after packets have been counted at port die `b`: only its event counters, the bytes of the bandwidth windows and the
lanes' packet counts differ. -/
structure PortCounted (s t : Device) (b : Nat) : Prop where
  rest : { t with regs := s.regs, ctl := s.ctl, fab := s.fab } = s
  fab : { t.fab with counted := s.fab.counted } = s.fab
  regs : ∀ off, ¬ inPrtCounters b off → t.regs.get 0 off = s.regs.get 0 off

theorem PortCounted.refl (s : Device) (b : Nat) : PortCounted s s b := ⟨rfl, rfl, fun _ _ => rfl⟩

theorem PortCounted.trans {s t u : Device} {b : Nat} (h : PortCounted s t b) (g : PortCounted t u b) : PortCounted s u b where
  rest := by
    have h1 := h.rest; have g1 := g.rest
    rw [← h1, ← g1]
  fab := by
    have h1 := h.fab; have g1 := g.fab
    rw [← h1, ← g1]
  regs off ho := (g.regs off ho).trans (h.regs off ho)

/-- A write of an event counter's register. -/
theorem PortCounted.wr (s : Device) (k : RegKind) (b n v : Nat) (hk : inPrtCounters b (k.addr b n)) :
    PortCounted s (s.wr k b n v) b :=
  ⟨rfl, rfl, fun _ ho => NMap.get_set_ne _ _ _ (fun e => ho (e ▸ hk))⟩

theorem inPrtCounters_pmc (b : Nat) {n : Nat} (h : n < 8) : inPrtCounters b (RegKind.prtPmc.addr b n) := by
  simp only [inPrtCounters, RegKind.addr, RegKind.place]
  omega

theorem inPrtCounters_pmsel (b : Nat) {n : Nat} (h : n < 8) : inPrtCounters b (RegKind.prtPmsel.addr b n) := by
  simp only [inPrtCounters, RegKind.addr, RegKind.place]
  omega

theorem pmcOne_portCounted (s : Device) (b k : Nat) {n : Nat} (h : n < 8) : PortCounted s (s.pmcOne pmcPrt b n k) b := by
  have hcnt : ∀ v, PortCounted s (s.fset F.prtPmcCount b n v) b := fun v =>
    PortCounted.wr s .prtPmc b n _ (inPrtCounters_pmc b h)
  have hovf : ∀ u : Device, PortCounted u (u.setFlag F.prtPmselOvf b n true) b := fun u =>
    PortCounted.wr u .prtPmsel b n _ (inPrtCounters_pmsel b h)
  unfold Device.pmcOne
  dsimp only
  split
  · exact hcnt _
  · exact (hcnt _).trans (hovf _)

/-- Counting an event of a port die. -/
theorem pmc_portCounted (s : Device) (b ev arg k : Nat) : PortCounted s (s.pmc pmcPrt b 0 ev arg k) b := by
  unfold Device.pmc
  split
  · refine List.foldlRecOn (motive := fun u => PortCounted s u b) _ _ (PortCounted.refl s b) fun u hu n hn => ?_
    have hn : 8 * 0 + n < 8 := by simpa using hn
    dsimp only
    split
    · exact hu.trans (pmcOne_portCounted u b k hn)
    · exact hu
  · exact PortCounted.refl s b

/-- The counts that a packet leaves on arrival at lane z, before its checks (R291, R493, R494). -/
def Device.countArrival (s : Device) (z : Nat) (p : Pkt) : Device :=
  ((s.pmc pmcPrt (z / 16) 0 0x02 (z % 16) 1).bw .prtLaneBw (z / 16) (z % 16) 1 (pktBytes p)).modFab
    (fun x => { x with counted := x.counted.upd 0 (2 * z + 1) (· + 1) })

theorem Device.arrive_eq (s : Device) (z : Nat) (p : Pkt) (f : Device → Device) :
    s.arrive z p f =
      let u := s.countArrival z p
      let code := u.headerFault (u.laneRole z == rHost) p
      if code ≠ 0 then u.failPacket z code p else u.route (u.laneRole z == rHost) p f := rfl

theorem bw_portCounted (s : Device) (k : RegKind) (b b' i half n : Nat) : PortCounted s (s.bw k b' i half n) b :=
  ⟨rfl, rfl, fun _ _ => rfl⟩

theorem modFab_counted_portCounted (s : Device) (b : Nat) (g : NMap Nat → NMap Nat) :
    PortCounted s (s.modFab (fun x => { x with counted := g x.counted })) b :=
  ⟨rfl, rfl, fun _ _ => rfl⟩

theorem countArrival_portCounted (s : Device) (z : Nat) (p : Pkt) : PortCounted s (s.countArrival z p) (z / 16) :=
  ((pmc_portCounted s (z / 16) 0x02 (z % 16) 1).trans (bw_portCounted _ _ _ _ _ _ _)).trans
    (modFab_counted_portCounted _ _ (·.upd 0 (2 * z + 1) (· + 1)))

/-! ## What counting at a port die leaves unchanged -/

namespace PortCounted

variable {s t : Device} {b : Nat} (h : PortCounted s t b)
include h

theorem fr : t.fr = s.fr := by rw [← h.rest]
theorem boot : t.boot = s.boot := by rw [← h.rest]
theorem ports : t.ports = s.ports := by rw [← h.rest]
theorem tiles : t.tiles = s.tiles := by rw [← h.rest]
theorem reqs : t.reqs = s.reqs := by rw [← h.rest]
theorem mem : t.mem = s.mem := by rw [← h.rest]
theorem out : t.out = s.out := by rw [← h.rest]
theorem tables : t.fab.tables = s.fab.tables := by rw [← h.fab]
theorem lastFlip : t.fab.lastFlip = s.fab.lastFlip := by rw [← h.fab]

theorem fget {f : Fld} {i j : Nat} (ho : ¬ inPrtCounters b (f.kind.addr i j)) : t.fget f i j = s.fget f i j := by
  have hrest : t.restAt f.kind i j = s.restAt f.kind i j := by simp only [Device.restAt, h.fr]
  simp only [Device.fget, Device.rd, h.regs _ ho, hrest]

/-- Registers below the port dies' counters are none of them. -/
theorem fget_low {f : Fld} {i j : Nat} (ho : f.kind.addr i j < 0x404008) : t.fget f i j = s.fget f i j := by
  refine h.fget ?_
  simp only [inPrtCounters, Block.base]
  omega

theorem jobState : t.jobState = s.jobState := h.fget_low (by decide)
theorem job : t.job = s.job := by rw [Device.job, h.fr, Device.job]
theorem mapped : t.mapped = s.mapped := by simp only [Device.mapped, Device.running, h.jobState, h.fr]
theorem port (k : Nat) : t.port k = s.port k := by rw [Device.port, h.ports, Device.port]
theorem staleStamp (p : Pkt) : t.staleStamp p = s.staleStamp p := by rw [Device.staleStamp, h.fr, Device.staleStamp]

theorem self : t.self = s.self := by
  have hconfig : t.fget F.frmConfigDevice = s.fget F.frmConfigDevice := h.fget_low (by decide)
  have hstatus : t.fget F.glbStatusDeviceNo = s.fget F.glbStatusDeviceNo := h.fget_low (by decide)
  simp only [Device.self, h.jobState, hconfig, hstatus]

theorem laneRole (z : Nat) : t.laneRole z = s.laneRole z := by
  refine h.fget ?_
  simp only [inPrtCounters, RegKind.addr, RegKind.place, F.prtLaneRole, Block.base]
  omega

theorem fget_seqStale (k : Nat) : t.fget F.prtRmSeqStale k = s.fget F.prtRmSeqStale k := by
  refine h.fget ?_
  simp only [inPrtCounters, RegKind.addr, RegKind.place, F.prtRmSeqStale, Block.base]
  omega

theorem routeEntry (ver : Bool) (dst : Nat) : t.routeEntry ver dst = s.routeEntry ver dst := by
  rw [Device.routeEntry, h.tables, Device.routeEntry]

theorem headerFault (host : Bool) (p : Pkt) : t.headerFault host p = s.headerFault host p := by
  have hflag : t.flag F.prtRouteEpoch = s.flag F.prtRouteEpoch ∧ t.flag F.prtRouteGrace = s.flag F.prtRouteGrace := by
    constructor <;> exact congrArg (· == 1) (h.fget_low (by decide))
  have hnames : t.namesAbsent host p = s.namesAbsent host p := by simp only [Device.namesAbsent, h.job, h.fr]
  have hlate : t.epochLate p = s.epochLate p := by
    simp only [Device.epochLate, Device.epoch, h.lastFlip, hflag]
  have hnode : t.nodeFails host p = s.nodeFails host p := by simp only [Device.nodeFails, h.boot]
  have hroute : t.unrouted host p = s.unrouted host p := by simp only [Device.unrouted, h.routeEntry]
  simp only [Device.headerFault, hnames, hlate, hnode, hroute, h.jobState, h.job]

/-! Translation: the channel map and the memory sites' registers lie below the port dies. -/

theorem nAll : t.nAll = s.nAll := h.fget_low (by decide)

theorem cmtIndex (j : Nat) : t.cmtIndex j = s.cmtIndex j := by
  have hhalf : t.fget F.memCmtCtlHalf = s.fget F.memCmtCtlHalf := h.fget_low (by decide)
  simp only [Device.cmtIndex, hhalf]

/-- The channel map's entries below 1,024 of the active half. -/
theorem fget_cmt {f : Fld} (hf : f.kind = .memCmt) {j : Nat} (hj : j < 1024) :
    t.fget f 0 (t.cmtIndex j) = s.fget f 0 (s.cmtIndex j) := by
  rw [h.cmtIndex]
  have hhalf : s.fget F.memCmtCtlHalf < 2 := s.fget_lt F.memCmtCtlHalf 0 0
  refine h.fget_low ?_
  simp only [hf, RegKind.addr, RegKind.place, Block.base, Device.cmtIndex]
  omega

theorem cmtStack {j : Nat} (hj : j < 1024) : t.cmtStack j = s.cmtStack j := h.fget_cmt rfl hj
theorem cmtChan {j : Nat} (hj : j < 1024) : t.cmtChan j = s.cmtChan j := h.fget_cmt rfl hj

theorem cmtOf (m : Nat) : t.cmtOf m = s.cmtOf m := by
  rw [Device.cmtOf, Device.cmtOf, h.nAll]
  refine List.filter_congr fun j hj => ?_
  have hj : j < 1024 := Nat.lt_trans (List.mem_range.mp hj) (s.fget_lt F.memCmtCtlNn 0 0)
  rw [h.cmtStack hj, Device.flag, Device.flag, h.fget_cmt rfl hj]

theorem locateI (o : Nat) : t.locateI o = s.locateI o := by
  unfold Device.locateI
  simp only [h.nAll]
  split
  · rfl
  · next hn =>
    have hj : o / 256 % s.nAll < 1024 :=
      Nat.lt_trans (Nat.mod_lt _ (Nat.pos_of_ne_zero hn)) (s.fget_lt F.memCmtCtlNn 0 0)
    rw [h.cmtStack hj, h.cmtChan hj]

theorem locateP (o : Nat) : t.locateP o = s.locateP o := by
  have hm : bits o 36 5 < 32 := Nat.mod_lt _ (by decide)
  have hn : t.nCh (bits o 36 5) = s.nCh (bits o 36 5) := by
    refine h.fget_low ?_
    simp only [RegKind.addr, RegKind.place, F.memStatusInSvc, Block.base]
    omega
  unfold Device.locateP
  simp only [hn, h.cmtOf]
  split
  · rfl
  · split
    · next j hj =>
      have hmem := List.mem_of_getElem? hj
      have hj : j < 1024 := Nat.lt_trans (List.mem_range.mp (List.mem_filter.mp hmem).1) (s.fget_lt F.memCmtCtlNn 0 0)
      rw [h.cmtChan hj]
    · rfl

theorem locateD (o : Nat) : t.locateD o = s.locateD o := by
  have hpop : t.fget F.prtDdrStatusState 0 1 = s.fget F.prtDdrStatusState 0 1 := by
    refine h.fget ?_
    simp only [inPrtCounters, RegKind.addr, RegKind.place, F.prtDdrStatusState, Block.base]
    omega
  have hchans : t.ddrChans = s.ddrChans := by rw [Device.ddrChans, hpop, Device.ddrChans]
  rw [Device.locateD, Device.locateD, hchans]

theorem locate (a : Nat) : t.locate a = s.locate a := by
  simp only [Device.locate, h.locateI, h.locateP, h.locateD]

theorem homePort (v : Via) (p : Pkt) : t.homePort v p = s.homePort v p := by
  have htarget : t.target p = s.target p := by rw [Device.target, h.self, Device.target]
  have hok : t.offsetOk (s.target p) 1 = s.offsetOk (s.target p) 1 := by simp only [Device.offsetOk, h.job]
  rw [Device.homePort, Device.homePort, htarget, hok, h.jobState, h.locate]

end PortCounted

/-! ## A request of another frame attempt (R321) -/

theorem Device.staleStamp_iff {s : Device} {p : Pkt} :
    s.staleStamp p = true ↔ p.seng ≤ 131 ∧ p.seq / 2 ^ 20 ≠ s.fr.tick % 4096 := by
  simp [Device.staleStamp]

/-- A stale request counted at port die `h`; the count saturates (R346). -/
theorem Device.fget_seqStale_counted (s : Device) (h : Nat) :
    (s.fsat F.prtRmSeqStale h 0 1).fget F.prtRmSeqStale h =
      min (2 ^ F.prtRmSeqStale.w - 1) (s.fget F.prtRmSeqStale h + 1) := by
  rw [Device.fsat, Device.fget_fset_same s F.prtRmSeqStale h 0 _ (by decide)]
  exact Nat.mod_eq_of_lt (Nat.lt_of_le_of_lt (Nat.min_le_left _ _) (by decide))

/-- A source that is not a host's lane: the device's own requesters, and every other lane. -/
def Device.notHost (s : Device) (v : Via) : Prop := ∀ z, v = .lane z → s.laneRole z ≠ rHost

theorem Device.notHost_own (s : Device) : s.notHost .own := fun _ h => Via.noConfusion h

theorem Device.inputPort_of_notHost {s : Device} {v : Via} (p : Pkt) (hv : s.notHost v) :
    s.inputPort v p = s.homePort v p := by
  cases v with
  | own => rfl
  | lane z => simp [Device.inputPort, hv z rfl]

theorem Device.serveOnce_of_notHost {s : Device} {v : Via} (p : Pkt) (seen : List Nat) (hv : s.notHost v) :
    s.serveOnce v p seen = s.serveFabric v p seen := by
  cases v with
  | own => rfl
  | lane z => simp [Device.serveOnce, hv z rfl]

/-- A stale request that finds nothing waiting at its input is discarded and counted at its home. -/
theorem Device.serveHere_stale {s : Device} {v : Via} {p : Pkt} (hv : s.notHost v) (hp : s.staleStamp p = true)
    (hin : (s.port (s.homePort v p)).input.any (fun x => x.via == v) = false) :
    s.serveHere v p = s.fsat F.prtRmSeqStale (s.homePort v p) 0 1 := by
  have hfab : s.serveFabric v p [] = .done (s.fsat F.prtRmSeqStale (s.homePort v p) 0 1) := if_pos hp
  simp [Device.serveHere, Device.inputPort_of_notHost p hv, hin, Device.serveOnce_of_notHost p [] hv, hfab, Device.settled]

/-- With no phase map in force, traffic goes to its unit at once (log entry 123). -/
theorem Device.cross_unmapped {s : Device} (t u : Nat) (d : Dyn) (go : Device → Device) (h : s.mapped = false) :
    s.cross t u d go = go s := by
  simp [Device.cross, h]

theorem Device.readUnit_typ {s : Device} {p : Pkt} {u : Nat} (h : s.readUnit p = some u) : p.typ = tRead := by
  unfold Device.readUnit at h
  split at h
  · assumption
  · exact absurd h nofun

/-- A request is served where it has come; a READ is too while no phase map is in force (R318). -/
theorem Device.serve_eq_serveHere {s : Device} (v : Via) {p : Pkt} (h : p.typ = tRead → s.mapped = false) :
    s.serve v p = s.serveHere v p := by
  unfold Device.serve
  dsimp only
  split
  · next u hu =>
    have htyp : p.typ = tRead := Device.readUnit_typ (Option.ite_none_left_eq_some.mp hu).2
    exact Device.cross_unmapped _ _ _ _ (h htyp)
  · rfl

/-- A stale request that need not cross the Plinth is discarded and counted as it comes. -/
theorem Device.serve_stale {s : Device} {v : Via} {p : Pkt} (hv : s.notHost v) (hp : s.staleStamp p = true)
    (hin : (s.port (s.homePort v p)).input.any (fun x => x.via == v) = false) (hread : p.typ = tRead → s.mapped = false) :
    s.serve v p = s.fsat F.prtRmSeqStale (s.homePort v p) 0 1 :=
  (Device.serve_eq_serveHere v hread).trans (Device.serveHere_stale hv hp hin)

/-! ## The commands that bring requests -/

/-- The requests of R321 with their packet types. -/
def requestRows : List (Nat × (Via → Pkt → Instr)) :=
  [(tWrite, .write), (tRead, .read), (tAtomic, .atomic), (tMcast, .mcastWrite), (tReduce, .reduce), (tMbxWrite, .mbxWrite)]

theorem exec_requestRow {e : Nat × (Via → Pkt → Instr)} (he : e ∈ requestRows) (v : Via) (p : Pkt) (s : State) :
    exec (e.2 v p) s = packetCommand e.1 v p (fun s => s.serve v p) s := by
  simp only [requestRows, List.mem_cons, List.not_mem_nil, or_false] at he
  obtain rfl | rfl | rfl | rfl | rfl | rfl := he <;> rfl

theorem requestRow_typ {e : Nat × (Via → Pkt → Instr)} (he : e ∈ requestRows) : e.1 ≠ tTick ∧ e.1 ≠ tHold := by
  simp only [requestRows, List.mem_cons, List.not_mem_nil, or_false] at he
  obtain rfl | rfl | rfl | rfl | rfl | rfl := he <;> decide

/-- A request of this device is served. -/
theorem requestRow_own_does {e : Nat × (Via → Pkt → Instr)} {p : Pkt} {s : State} {P : Device → Prop} (he : e ∈ requestRows)
    (ht : p.typ = e.1) (hok : p.ok = true) (hp : P (s.toDevice.serve .own p)) : Does (e.2 .own p) s P := by
  rw [Does, exec_requestRow he]
  exact onUnits_does (by simp [Via.ok, hok]) (by simpa [ht] using hp)

/-- A request that a lane brings goes through the checks of arrival. -/
theorem requestRow_lane_does {e : Nat × (Via → Pkt → Instr)} {z : Nat} {p : Pkt} {s : State} {P : Device → Prop}
    (he : e ∈ requestRows) (ht : p.typ = e.1) (hok : p.ok = true) (hz : z < 64)
    (hp : P (s.toDevice.arrive z p (fun s => s.serve (.lane z) p))) : Does (e.2 (.lane z) p) s P := by
  rw [Does, exec_requestRow he]
  exact onUnits_does (by simp [Via.ok, laneOk, hz, hok]) (by simpa [ht] using hp)

/-- What a delivery says of the lane, the packet's checks and its way. -/
theorem Device.delivers_spec {s : Device} {z : Nat} {p : Pkt} (h : s.delivers z p = true) :
    z < 64 ∧ s.laneRole z ≠ rHost ∧ s.headerFault false p = 0 ∧ (s.routeEntry p.epoch p.dst).isLocal = true ∧
      s.jobState ≠ jWithdrawn := by
  simp only [Device.delivers, Bool.and_eq_true, decide_eq_true_eq, bne_iff_ne, beq_iff_eq] at h
  obtain ⟨⟨⟨⟨⟨hz, -⟩, hrole⟩, hfault⟩, hroute⟩, hjob⟩ := h
  exact ⟨hz, hrole, hfault, hroute, hjob⟩

/-- A packet that a lane delivers is handed on as soon as its arrival has been counted. -/
theorem Device.arrive_of_delivers {s : Device} {z : Nat} {p : Pkt} (f : Device → Device) (h : s.delivers z p = true)
    (htick : p.typ ≠ tTick) (hhold : p.typ ≠ tHold) (hmcast : p.typ ≠ tMcast) : s.arrive z p f = f (s.countArrival z p) := by
  obtain ⟨-, hrole, hfault, hroute, hjob⟩ := Device.delivers_spec h
  have hcounted := countArrival_portCounted s z p
  have hhost : ((s.countArrival z p).laneRole z == rHost) = false := by simpa [hcounted.laneRole] using hrole
  rw [Device.arrive_eq]
  simp [hhost, hcounted.headerFault, hfault, Device.route, htick, hhold, hmcast, hcounted.routeEntry, hroute,
    Device.deliver, hcounted.jobState, hjob]

/-- A stale request that a lane delivers is discarded and counted: what its arrival counts decides neither its home nor its checks. -/
theorem Device.arrive_stale {s : Device} {z : Nat} {p : Pkt} (h : s.delivers z p = true) (htick : p.typ ≠ tTick)
    (hhold : p.typ ≠ tHold) (hmcast : p.typ ≠ tMcast) (hp : s.staleStamp p = true)
    (hin : (s.port (s.homePort (.lane z) p)).input.any (fun x => x.via == .lane z) = false)
    (hread : p.typ = tRead → s.mapped = false) :
    s.arrive z p (fun s => s.serve (.lane z) p) =
      (s.countArrival z p).fsat F.prtRmSeqStale (s.homePort (.lane z) p) 0 1 := by
  have hcounted := countArrival_portCounted s z p
  have hrole : (s.countArrival z p).notHost (.lane z) := by
    rintro _ ⟨⟩
    rw [hcounted.laneRole]
    exact (Device.delivers_spec h).2.1
  rw [Device.arrive_of_delivers _ h htick hhold hmcast, ← hcounted.homePort]
  refine Device.serve_stale hrole ((hcounted.staleStamp p).trans hp) ?_ (fun ht => hcounted.mapped.trans (hread ht))
  rw [hcounted.homePort, hcounted.port]
  exact hin

/-- Settles O58: the stamp is the first thing a home looks at, for a request of its own and for one that a lane delivers. -/
theorem staleRequestsDiscarded : Obligations.StaleRequestsDiscarded := by
  refine ⟨fun s v p hv hseng hseq hin => Device.serveHere_stale hv (Device.staleStamp_iff.mpr ⟨hseng, hseq⟩) hin,
    fun s p hok hseng hseq e he ht hread => ?_⟩
  have hstale : s.toDevice.staleStamp p = true := Device.staleStamp_iff.mpr ⟨hseng, hseq⟩
  obtain ⟨htick, hhold⟩ := requestRow_typ he
  rw [← ht] at htick hhold
  refine ⟨fun hin => requestRow_own_does he ht hok ?_, fun z hmcast hdel _ hin =>
    requestRow_lane_does he ht hok (Device.delivers_spec hdel).1 ?_⟩
  · rw [Device.serve_stale s.notHost_own hstale hin hread]
    exact ⟨rfl, Device.fget_seqStale_counted _ _⟩
  · rw [Device.arrive_stale hdel htick hhold hmcast hstale hin hread]
    have hcounted := countArrival_portCounted s.toDevice z p
    refine ⟨hcounted.out, hcounted.mem, hcounted.ports, hcounted.tiles, hcounted.reqs, ?_⟩
    exact (Device.fget_seqStale_counted _ _).trans (by rw [hcounted.fget_seqStale])

end Sys2Proof.Machine
end
